-- ==== Sys2Proof/Word.lean ====
section
/-! DEFINITION. The word types of the CY640: bytes, dwords, cache lines and the numbers of its ports, trunks and
channels (R12, R43, R66, R252). Bit fields and byte orders are in Machine/Bits.lean. -/

namespace Sys2Proof

/-- One byte. -/
abbrev Byte := BitVec 8
/-- A 16-bit value. -/
abbrev U16 := BitVec 16
/-- A dword (R4). -/
abbrev U32 := BitVec 32
/-- A 64-bit register or address (R4). -/
abbrev U64 := BitVec 64
/-- The 64 B of one cache line. -/
abbrev Line := BitVec 512
/-- An edge port, E0 to E63 (R12). -/
abbrev PortId := Fin 64
/-- A trunk, T0 to T7 (R12). -/
abbrev TrunkId := Fin 8
/-- An egress point: 0 to 63 the edge ports, 64 to 71 the trunks (R160). -/
abbrev PointId := Fin 72
/-- A GDDR6 channel (R118). -/
abbrev ChannelId := Fin 32

end Sys2Proof
end

