-- ==== Sys2Proof/Syntax.lean ====
section
/-! DEFINITION. The commands the CY640 takes: one constructor of `Instr` for each row of spec/opcode_table.json, with
the operands that the row's event or command brings from outside (a message, a flit, a measurement, a reading of host
memory, a command's input). -/

namespace Sys2Proof

/-- The eight message classes (R43). -/
inductive MsgClass where
  | mreq | mwr | snp | biconf | rsp | cache | io | internal
deriving DecidableEq, Repr

/-- M2S MetaField (R98). -/
inductive MetaField where
  | meta0State | noOp
deriving DecidableEq, Repr

/-- M2S MetaValue (R98). -/
inductive MetaValue where
  | invalid | any | shared
deriving DecidableEq, Repr

/-- M2S SnpType (R98). -/
inductive SnpType where
  | noOp | snpData | snpCur | snpInv
deriving DecidableEq, Repr

/-- The colour that METER assigns (R166). -/
inductive Colour where
  | green | yellow | red
deriving DecidableEq, Repr

/-- Where a message came in: an edge port or a trunk (R43). -/
inductive Origin where
  | port (p : PortId)
  | trunk (t : TrunkId)
deriving DecidableEq, Repr

/-- The functions that the switch itself provides in a host port's virtual hierarchy (R236). -/
inductive SwitchFn where
  | upstream | management | vppb (k : Fin 32) | poolView
deriving DecidableEq, Repr

/-- One message as it crosses a link: the CXL fields that the rules read, and the fields a trunk adds (R39, R105, R277). -/
structure Msg where
  /-- internal opcode (R44) -/
  op : BitVec 6 := 0
  /-- host physical, device physical or fabric address -/
  addr : U64 := 0
  /-- the sender's tag, or the tag answered (R78) -/
  tag : BitVec 24 := 0
  metaField : MetaField := .noOp
  metaValue : MetaValue := .invalid
  snpType : SnpType := .noOp
  data : Line := 0
  /-- byte enables of a MemWrPtl -/
  be : U64 := 0
  poison : Bool := false
  /-- trunk fields: tenant number, generation and attribute of the origin (R39) -/
  tenant : BitVec 12 := 0
  gen : U16 := 0
  attr : BitVec 2 := 0
  originRank : BitVec 4 := 0
  originPort : BitVec 6 := 0
  colour : Colour := .green
  /-- state granted with MemData (R277): 0 none, 1 S, 2 E -/
  grant : BitVec 2 := 0
  /-- attached writeback (R108) -/
  attached : Bool := false
  hostTag : U16 := 0
  /-- the vPPB that PCIe 6.1 routing selects for a CXL.cache or CXL.io message of a host (R49) -/
  vppb : Option (Fin 32) := none
  /-- LD-ID on an MLD port (R240) -/
  ld : BitVec 4 := 0
  /-- payload bytes of a CXL.io TLP (R67) -/
  payload : List Byte := []
  /-- bytes that a CXL.io memory read asks for -/
  readLen : Nat := 4
  /-- the function of the switch itself that PCIe 6.1 routing selects (R49, R55, R236) -/
  fn : Option SwitchFn := none
  /-- an MSI-X message: its entry of the MSI-X table, which holds its address and data (R193) -/
  vector : Option Nat := none
  /-- channel of a CXL.cache message: request, response, data (R72) -/
  cacheCh : Fin 3 := 0
  /-- a CXL.io completion carries status Unsupported Request (R50) -/
  unsupported : Bool := false
deriving DecidableEq, Repr

/-- The sources of management commands (R358). -/
inductive CmdSrc where
  | i3c (k : Fin 2)
  | mbox (p : PortId)
  | vdm (p : PortId)
  | trunk (t : TrunkId)
deriving DecidableEq, Repr

/-- What every mailbox or MCTP command brings besides its input: its source, its MCTP and CCI message tags (R364), its
input length and whether a reserved bit of the input is 1 (R362). -/
structure CmdHdr where
  src : CmdSrc
  tag : BitVec 24 := 0
  len : Nat := 2048
  reservedSet : Bool := false
deriving DecidableEq, Repr

/-- What a command to a pool view's mailbox brings besides its input: the host port, and whether a reserved bit of the input is 1
(R7, R237). -/
structure PoolHdr where
  port : PortId
  reservedSet : Bool := false
deriving DecidableEq, Repr

/-- Who serves an event-record or log command: the management function, or the pool view of a host port (R237, R369). -/
inductive EventTarget where
  | mgmt (h : CmdHdr)
  | pool (h : PoolHdr)
deriving DecidableEq, Repr

/-- The five event logs (R237). -/
inductive EventLog where
  | informational | warning | failure | fatal | dynamicCapacity
deriving DecidableEq, Repr

/-- The two management pairs (R337). -/
inductive Pair where
  | a | b
deriving DecidableEq, Repr

/-- The supply rails (R454). -/
inductive Rail where
  | core | serdes | gddr | aux
deriving DecidableEq, Repr

/-- The address spaces of R141. -/
inductive Space where
  | hpa | fabric | logicalStore | mgmtCsr
deriving DecidableEq, Repr

/-- The crossbar masters in the order of their numbers (R346). -/
inductive Master where
  | pairA | pairB | debug | scrub | loader | gateway
deriving DecidableEq, Repr

/-- What PREPARE meets on the part (R129, R397, R464): the outcome of its steps 1 to 6. -/
structure PrepareReport where
  fusesOk : Bool := true
  sramOk : Bool := true
  /-- bit j: die-to-die link j trained -/
  linkUp : BitVec 6 := 0x3F
  /-- channels that fail training -/
  trainFail : U32 := 0
  /-- channels that fail read-back -/
  readFail : U32 := 0
  /-- GDDR_SPEED straps -/
  straps : BitVec 2 := 0b10
deriving DecidableEq, Repr

/-- Why a pair's outputs are blocked (R337, R356). -/
inductive MismatchCause where
  | lockstep | sramParity
deriving DecidableEq, Repr

/-- Where a register write goes: BAR0 of the management function of a host port (R180, R360), or MGMT_CSR (R347). -/
inductive RegTarget where
  | bar0 (p : PortId)
  | csr
deriving DecidableEq, Repr

/-- Physical Port Control operations (R369). -/
inductive PortControl where
  | assertPerst | deassertPerst | resetPpb
deriving DecidableEq, Repr

/-- Unbind options of the CXL FM-API (R239). -/
inductive UnbindOption where
  | waitLinkDown | managedRemove | surpriseRemove
deriving DecidableEq, Repr

/-- The input of QUEUE_ENABLE (R183, R370). -/
structure QueueSetup where
  qp : BitVec 12
  sqBase : U64
  sqLog2 : BitVec 5
  cqBase : U64
  cqLog2 : BitVec 5
  tailAddr : U64
  headAddr : U64
  jobMask : BitVec 7
  msixVector : BitVec 11
  maxJobs : BitVec 9
deriving DecidableEq, Repr

/-- A debug enable token with its public key (R445). -/
structure Token where
  magic : U32
  provisionedId : BitVec 48
  keyIndex : BitVec 2
  challenge : U64
  durationS : U32
  signature : BitVec 768
  publicKey : BitVec 768
deriving DecidableEq, Repr

/-- One entry of a DIGEST flit or of the gossip table (R305). -/
structure DigestEntry where
  id : BitVec 48 := 0
  rank : BitVec 4 := 0
  rankValid : Bool := false
  valid : Bool := false
  age : BitVec 10 := 0
  epoch : U32 := 0
  digest : BitVec 256 := 0
deriving DecidableEq, Repr

/-- The fields of a Qoray flit header that its type carries (R272), and what the receiver found: the CRC result after
FEC, and whether the flit passed only under the new lane map (R269, R279). -/
structure FlitHdr where
  seq : BitVec 12 := 0
  ack : BitVec 12 := 0
  ackValid : Bool := false
  nak : Bool := false
  steer : Bool := false
  replayed : Bool := false
  crValid : Bool := false
  /-- 0 to 7: the counter returned, in the order of R300 -/
  crIndex : Fin 8 := 0
  crCount : U16 := 0
  crcOk : Bool := true
  newMap : Bool := false
  /-- the lane whose bytes the FEC corrected, and how many symbols (R279) -/
  fecLane : Fin 9 := 0
  fecCorrected : Nat := 0
deriving DecidableEq, Repr

/-- The fields of LANE_ANN blocks (R259) with the number of lanes that agree. -/
structure LaneAnnBlock where
  rxSkip : BitVec 4 := 8
  measured : Bool := true
  start : Bool := false
  rate : BitVec 2 := 2
  compat : Bool := false
  lanesAgreeing : Nat := 9
deriving DecidableEq, Repr

/-- The INIT payload (R261). -/
structure InitFields where
  version : Byte := 2
  provisionedId : BitVec 48 := 0
  rank : BitVec 4 := 0
  rankValid : Bool := false
  trunk : BitVec 3 := 0
  acked : Bool := false
  compat : Bool := false
  rate : BitVec 2 := 2
  spareCapable : Bool := true
  setId : U16 := 0
  versionMajor : Byte := 0
  compatMin : Byte := 0
  /-- the partner is a CY640 (R262, COMPAT_PEER) -/
  partnerCy640 : Bool := true
  /-- the eight initial credit values in the order of R300 -/
  credits : List U16 := []
  crcOk : Bool := true
deriving DecidableEq, Repr

/-- The TIME payload (R301). -/
structure TimeFields where
  response : Bool := false
  exch : Byte := 0
  rootId : BitVec 48 := 0
  rootRank : BitVec 4 := 0
  rootRankValid : Bool := false
  rootPps : Bool := false
  hops : BitVec 4 := 15
  synced : Bool := false
  t2 : U64 := 0
  t3 : U64 := 0
deriving DecidableEq, Repr

/-- What was found wrong with a record at egress (R76, R136). -/
inductive RecordFault where
  | none | dataParity | headerParity | dataCrc | headerCrc
deriving DecidableEq, Repr

/-- What a port's link trained to (R229, R232, R235). -/
structure LinkTrained where
  rate : BitVec 3 := 5
  width : BitVec 5 := 4
  /-- 0 none, 1 68 B, 2 256 B standard, 3 256 B latency-optimised -/
  flit : BitVec 2 := 3
  mld : Bool := false
  /-- the link supports Scaled Flow Control (R233) -/
  scaledFc : Bool := true
deriving DecidableEq, Repr

/-- Causes of an edge link going down (R472, LINK_DOWN). -/
inductive DownCause where
  | partner | removal | slotPower | dpc | ide | hotReset | retrain
deriving DecidableEq, Repr

/-- DPC triggers (R472, DPC_TRIGGER). -/
inductive DpcCause where
  | fatal | linkDown | ide | viral | hostEnabled
deriving DecidableEq, Repr

/-- What Bolroth reads from a pool member (R241, R242). -/
structure MemberInfo where
  dsn : U64 := 0
  /-- capacity in 256 MiB tiles, rounded down -/
  capacityTiles : Nat := 0
  /-- Memory_Active came within the member's timeout -/
  memoryActive : Bool := true
deriving DecidableEq, Repr

/-- A reading of host memory by the management function (R195). -/
inductive HostRead (α : Type) where
  | ok (v : α)
  | failed
deriving DecidableEq, Repr

/-- A slot-power channel's tick measurement (R330) with the state of its regulator (R320, R321). -/
structure SlotSample where
  current : U16 := 0
  vin : U16 := 48000
  vout : U16 := 0
  limiting : Bool := false
  gateOk : Bool := false
  /-- fault-timer ticks so far -/
  faultTicks : Nat := 0
  /-- the other causes met in the same tick, as bits of SLOT_FAULT (R325) -/
  causes : BitVec 9 := 0
deriving DecidableEq, Repr

/-- The memory that fails its check: an on-die SRAM that fails parity (R135), a GDDR6 read whose CRC fails (R121), or a byte of
GDDR6 that changes (R122, R123). -/
inductive ParityMem where
  /-- on a read, or as the record is written (R75, R76) -/
  | bufferData (x : PointId) (cls : Fin 8) (onWrite : Bool)
  | bufferHeader (x : PointId) (cls : Fin 8)
  | txn (idx : BitVec 17) (idPass : Bool)
  | window (idx : BitVec 14)
  | tenant (idx : BitVec 12)
  | sharer (slot : Fin 64)
  | checkerRegion (checker : Fin 77) (region : Fin 64)
  | translation (idx : BitVec 20)
  | homeTile (idx : BitVec 19)
  | snoopAddr (idx : BitVec 18)
  | recipeWord (recipe : BitVec 11) (step : BitVec 4)
  | dispatch (idx : BitVec 11)
  | dirCache (set : BitVec 26)
  | conflict (idx : BitVec 16)
  | activeLine (line : BitVec 41)
  | counter (idx : BitVec 13)
  /-- a bit of a slot's dirty summary (R211) -/
  | dirtySummary (slot : BitVec 10) (block : BitVec 11)
  /-- the next read on the channel fails its CRC so many times (R121; DESIGN CHOICE, log entry 83) -/
  | gddrRead (c : ChannelId) (fails : BitVec 3)
  /-- bits of one copy of a byte of the logical store change (R123; DESIGN CHOICE, log entry 83) -/
  | gddrByte (addr : BitVec 34) (one : Bool) (flip : Byte)
deriving DecidableEq, Repr

/-- Why a GDDR6 channel is to be retired (R132): failures of one write, read CRC errors within 1 ms of a retraining that failed, or
the correction limit. -/
inductive RetireCause where
  | write (fails : BitVec 3)
  | retrain (errors : BitVec 11)
  | corrections
deriving DecidableEq, Repr

/-- The transports that carry SPDM (R440): the MCTP transports of R355 and the DOE mailbox of a host port. -/
inductive SpdmSrc where
  | mctp (s : CmdSrc)
  | doe (p : PortId)
deriving DecidableEq, Repr

/-- An IDE key slot (R434). -/
structure IdeSlot where
  port : PortId
  /-- false CXL.cachemem, true PCIe -/
  pcie : Bool
  /-- false receive, true transmit -/
  tx : Bool
  /-- false K0, true K1 -/
  set1 : Bool
deriving DecidableEq, Repr

/-- The IDE_KM messages (R443). -/
inductive IdeKm where
  | query (p : PortId)
  | program (k : IdeSlot)
  | go (k : IdeSlot)
  | stop (k : IdeSlot)
deriving DecidableEq, Repr

/-- Where in R187 and R192 a work-queue read stood when it timed out (R195). -/
inductive WqRead where
  | tailWord | descriptor | ownBit
deriving DecidableEq, Repr

/-- The commands: one constructor per row of the table. -/
inductive Instr where
  -- resets, modes, pins and time
  | powerOn
  | coldPin
  | warmPin
  | railFault (r : Rail)
  | resetRelease (r : PrepareReport)
  | released
  | controlParity
  | thermal (tj : Byte) (sensor : Fin 28)
  | thermtrip (tj : Byte) (sensor : Fin 28)
  | thermWarn (tj : Byte) (sensor : Fin 28)
  | debugDisableN
  | timeInEdge
  | timeInLost
  -- management pairs and registers
  | pairBoot (p : Pair)
  | journalApply (p : Pair) (records : Nat) (unreadable : Bool)
  | standbyStalled
  | lockstepMismatch (p : Pair) (c : MismatchCause)
  | watchdogExpiry
  | handoverComplete
  | wdtKick (p : Pair)
  | bootConfirmed
  | faultCaptureClear (k : Fin 77)
  | peakClr
  | registerWrite (t : RegTarget) (off : BitVec 48) (bytes : Nat) (data : U64)
  | crossbarAccess (m : Master) (sp : Space) (addr : BitVec 51) (write : Bool) (bytes : Nat) (data : Line) (hold : Bool)
  -- generic and FM-API commands
  | identify (h : CmdHdr)
  | getResponseMessageLimit (h : CmdHdr)
  | setResponseMessageLimit (h : CmdHdr) (limit : Nat)
  | getEventRecords (t : EventTarget) (log : EventLog)
  | clearEventRecords (t : EventTarget) (log : EventLog) (all : Bool) (count : Nat)
  | getEventInterruptPolicy (t : EventTarget)
  | setEventInterruptPolicy (t : EventTarget) (policy : BitVec 40)
  | getFwInfo (h : CmdHdr)
  | transferFw (h : CmdHdr) (slot : Nat) (off : Nat) (bytes : List Byte)
  | activateFw (h : CmdHdr)
  | getTimestamp (h : CmdHdr)
  | setTimestamp (h : CmdHdr) (t : U64)
  | getSupportedLogs (t : EventTarget)
  | getLog (t : EventTarget) (off len : Nat)
  | identifySwitchDevice (h : CmdHdr)
  | getPhysicalPortState (h : CmdHdr) (ports : List PortId)
  | physicalPortControl (h : CmdHdr) (p : PortId) (c : PortControl)
  | sendPpbCxlIoConfigurationRequest (h : CmdHdr) (p : PortId) (reg : BitVec 12) (write : Bool) (data : U32) (answer : Option U32)
  | getVirtualCxlSwitchInfo (h : CmdHdr) (vcs : PortId)
  | bindVppb (h : CmdHdr) (vcs : PortId) (vppb : Fin 32) (p : PortId) (ld : Option (BitVec 4))
  | unbindVppb (h : CmdHdr) (vcs : PortId) (vppb : Fin 32) (o : UnbindOption)
  | tunnelManagementCommand (h : CmdHdr) (p : PortId) (request : List Byte) (answer : List Byte)
  | getLdInfo (h : CmdHdr) (p : PortId) (answer : List Byte)
  | getLdAllocations (h : CmdHdr) (p : PortId) (answer : List Byte)
  | setLdAllocations (h : CmdHdr) (p : PortId) (alloc : List Byte) (answer : List Byte)
  | getDcdInfo (h : CmdHdr) (p : PortId)
  | getHostDcRegionConfiguration (h : CmdHdr) (p : PortId)
  | setDcRegionConfiguration (h : CmdHdr)
  | getDcRegionExtentLists (h : CmdHdr) (p : PortId) (first count : Nat)
  | initiateDcAdd (h : CmdHdr)
  | initiateDcRelease (h : CmdHdr)
  -- pool-view commands of a host
  | identifyMemoryDevice (h : PoolHdr)
  | getDynamicCapacityConfiguration (h : PoolHdr)
  | getDynamicCapacityExtentList (h : PoolHdr) (first count : Nat)
  | addDynamicCapacityResponse (h : PoolHdr) (extents : List (U64 × U64))
  | releaseDynamicCapacity (h : PoolHdr) (extents : List (U64 × U64))
  -- vendor commands
  | configStageWrite (h : CmdHdr) (off len : U32) (bytes : List Byte)
  | configCommit (h : CmdHdr) (baseEpoch : U32) (digest : BitVec 256)
  | configConfirm (h : CmdHdr) (epoch : U32)
  | configRollback (h : CmdHdr) (epoch : U32)
  | configGetState (h : CmdHdr)
  | configRead (h : CmdHdr) (version : Byte) (off : U32) (len : U16)
  | gossipGet (h : CmdHdr)
  | tenantGet (h : CmdHdr) (tenant first : U16)
  | tenantUnbind (h : CmdHdr) (tenant : U16) (baseEpoch : U32)
  | tenantRemove (h : CmdHdr) (tenant : U16) (baseEpoch : U32)
  | queueEnable (h : CmdHdr) (q : QueueSetup)
  | queueReset (h : CmdHdr) (qp : U16) (tail : HostRead U32)
  | queueShutdown (h : CmdHdr) (qp : U16) (tail : HostRead U32)
  | queueStatus (h : CmdHdr) (qp : U16)
  | tenantQuiesce (h : CmdHdr) (tenant : U16) (tails : List (U16 × U32))
  | tileEntryGet (h : CmdHdr) (tile : U32)
  | migSlotGet (h : CmdHdr) (slot : U16)
  | tileMovedRelease (h : CmdHdr) (tile : U32)
  | slotPowerOn (h : CmdHdr) (ch : PortId)
  | slotPowerOff (h : CmdHdr) (ch : PortId) (force : Bool)
  | slotClearFault (h : CmdHdr) (ch : PortId)
  | slotGetStatus (h : CmdHdr) (ch : PortId)
  | trunkGetStatus (h : CmdHdr) (t : TrunkId)
  | fabricDiscover (h : CmdHdr)
  | counterRead (h : CmdHdr) (kind : Byte) (block : U16)
  | scrubDir (h : CmdHdr) (first count : U32)
  | channelRetire (h : CmdHdr) (c : ChannelId)
  | portRetrain (h : CmdHdr) (p : PortId) (l : LinkTrained)
  | txnRead (h : CmdHdr) (idx : U32)
  | unresponsiveGet (h : CmdHdr)
  | unresponsiveClear (h : CmdHdr) (slots ports : U64)
  | logRead (h : CmdHdr) (first : U32) (count : Byte)
  | logFreeze (h : CmdHdr)
  | archiveRead (h : CmdHdr) (slot : Byte) (off : U32) (len : U16)
  | debugEnable (h : CmdHdr) (secured : Bool) (tok : Token)
  | debugDisable (h : CmdHdr)
  | ideKeyRefresh (h : CmdHdr) (p : PortId)
  | modeGet (h : CmdHdr)
  | serviceStart (h : CmdHdr)
  | handover (h : CmdHdr)
  | pairReset (h : CmdHdr) (p : Pair) (slot : Bool)
  | drain (h : CmdHdr)
  | drainCancel (h : CmdHdr)
  | getResult (h : CmdHdr) (ticket : U16)
  -- configuration events
  | epochFlip
  | confirmDeadline
  | rollbackFlip
  | epochDrained
  | warmRestore
  -- gossip
  | digest (t : TrunkId) (hd : FlitHdr) (entries : List DigestEntry)
  | digestSend
  | gossipEvaluate
  -- trunk bring-up
  | laneLocked (t : TrunkId) (lane : Fin 9)
  | lockTimeout (t : TrunkId)
  | measWindow (t : TrunkId) (errors : List Nat) (kbits : U32)
  | laneAnn (t : TrunkId) (b : LaneAnnBlock)
  | init (t : TrunkId) (f : InitFields)
  | initTimeout (t : TrunkId)
  | retryDelay (t : TrunkId)
  | goodCrcTimeout (t : TrunkId)
  | syncPatternSeen (t : TrunkId)
  | failoverWait (t : TrunkId)
  -- trunk link layer
  | filler (t : TrunkId)
  | idle (t : TrunkId) (hd : FlitHdr)
  | payload (t : TrunkId) (hd : FlitHdr) (msgs : List (MsgClass × Msg))
  | laneCtl (t : TrunkId) (hd : FlitHdr) (newSkip : BitVec 4)
  | time (t : TrunkId) (hd : FlitHdr) (f : TimeFields)
  | audit (t : TrunkId) (hd : FlitHdr) (used : List U16)
  | failover (t : TrunkId) (hd : FlitHdr) (lastSeq : BitVec 12) (any : Bool)
  | resyncReq (t : TrunkId) (hd : FlitHdr) (reason : Byte)
  | llTypeReserved (t : TrunkId)
  | ackTimer (t : TrunkId)
  | replayTimer (t : TrunkId)
  | auditPeriod
  | timePeriod (t : TrunkId)
  | qualityInterval (t : TrunkId) (corrected : List Nat) (joined : Option (Fin 9 × U32)) (kbits : U32)
  | laneLockLoss (t : TrunkId) (lane : Fin 9)
  -- egress, meters, buffer
  | egressPick (x : PointId) (credits : BitVec 12) (fault : RecordFault)
  | gateBoundary (x : PointId)
  | meterRefresh
  | hazelPass
  -- edge ports
  | dlUp (p : PortId) (l : LinkTrained)
  | linkDown (p : PortId) (c : DownCause)
  | laneFailure (p : PortId) (lane : Fin 16)
  | l0pRequest (p : PortId) (width : BitVec 5)
  | hotReset (p : PortId)
  | perstDelay (p : PortId)
  | linkUpTimeout (p : PortId)
  | memberSetup (p : PortId) (m : MemberInfo)
  | hostPortStart
  | dpcTrigger (p : PortId) (c : DpcCause)
  | dpcClear (p : PortId)
  | ideFail (p : PortId) (pcie : Bool)
  | viral (p : PortId)
  | slotControlWrite (p : PortId) (powerOn : Bool) (pwrInd atnInd : BitVec 2)
  -- work queues
  | sqDoorbell (p : PortId) (page : BitVec 12)
  | cqDoorbell (p : PortId) (page : BitVec 12) (value : U32)
  | descriptorFetch (qp : BitVec 12) (tail : HostRead U32) (descs : HostRead (List (BitVec 512)))
  | completionWrite (qp : BitVec 12) (own : HostRead (List Bool)) (writeOk : Bool)
  | ownReread (qp : BitVec 12) (late : U32)
  -- jobs
  | nop (qp : BitVec 12)
  | copyTile (qp : BitVec 12)
  | zeroTile (qp : BitVec 12)
  | mirrorAttach (qp : BitVec 12)
  | mirrorSplit (qp : BitVec 12)
  | verifyTile (qp : BitVec 12)
  | scrubDirJob (qp : BitVec 12)
  | sweepAndCopy (slot : BitVec 10)
  | switchover (slot : BitVec 10)
  | holdExpiry (slot : BitVec 10)
  | noCache (slot : BitVec 10)
  | zeroingDone (tile : BitVec 19)
  | liveLogDrain (records : Nat)
  | addTimeout (p : PortId)
  -- messages
  | mreq (o : Origin) (m : Msg)
  | mwr (o : Origin) (m : Msg)
  | snp (o : Origin) (m : Msg)
  | biconf (o : Origin) (m : Msg)
  | rsp (o : Origin) (m : Msg)
  | attachedWriteback (t : TrunkId) (m : Msg)
  | cache (o : Origin) (m : Msg)
  | io (o : Origin) (m : Msg)
  | waitingMessageStart (x : Fin 77) (cls : MsgClass)
  | lifetimeDeadline (idx : BitVec 17)
  | snoopDeadline (idx : BitVec 17)
  -- directory store and integrity
  | channelRetired (c : ChannelId) (cause : RetireCause)
  | relocationDone
  | patrol
  | candidateSweep (set : BitVec 26) (way : Fin 16)
  | sweepDone (set : BitVec 26) (way : Fin 16)
  | parityFailure (m : ParityMem)
  | parityRepair (m : ParityMem)
  | dieLinkFailure (link : Fin 6)
  | d2dLaneRepair (link : Fin 6) (spareLeft : Bool)
  -- slot power
  | prsntNLow (ch : PortId)
  | seatDebounce (ch : PortId)
  | removed (ch : PortId) (m : SlotSample)
  | pgAssert (ch : PortId) (m : SlotSample)
  | pgDeassert (ch : PortId) (m : SlotSample)
  | shortInRamp (ch : PortId) (m : SlotSample)
  | currentLimit (ch : PortId) (m : SlotSample)
  | rampTimeout (ch : PortId) (m : SlotSample)
  | breaker (ch : PortId) (point : Fin 8) (m : SlotSample)
  | fastTrip (ch : PortId) (m : SlotSample)
  | undervoltage (ch : PortId) (m : SlotSample)
  | overvoltage (ch : PortId) (m : SlotSample)
  | channelFault (ch : PortId) (m : SlotSample)
  | cooldownEnd (ch : PortId) (m : SlotSample)
  | perstLead (ch : PortId)
  | retryCountReset (ch : PortId)
  -- observability
  | maskableFreeze
  | archiveDone
  | snapshotPeriod
  | bandwidthWindow (x : PointId)
  | telemPeriod
  | debugExpiry
  -- TAP and boundary scan
  | dbgAccess (write : Bool) (space : BitVec 3) (hold : Bool) (addr : BitVec 51) (data : U64)
  | bypass
  | idcode
  | samplePreload
  | extest
  | clamp
  | highz
  | extestPulse
  | extestTrain
  | fuseProg (hash : BitVec 384)
  -- SPDM
  | getVersion (s : SpdmSrc)
  | getCapabilities (s : SpdmSrc)
  | negotiateAlgorithms (s : SpdmSrc)
  | getDigests (s : SpdmSrc)
  | getCertificate (s : SpdmSrc) (slot : Fin 8) (off len : Nat)
  | challenge (s : SpdmSrc) (slot : Fin 8) (nonce : BitVec 256)
  | getMeasurements (s : SpdmSrc) (index : Byte) (signed : Bool)
  | keyExchange (s : SpdmSrc)
  | finish (s : SpdmSrc) (session : Fin 16)
  | endSession (s : SpdmSrc) (session : Fin 16)
  | heartbeat (s : SpdmSrc) (session : Fin 16)
  | keyUpdate (s : SpdmSrc) (session : Fin 16)
  | setCertificate (s : SpdmSrc) (slot : Fin 8) (chain : List Byte)
  | vendorDefinedRequest (s : SpdmSrc) (session : Fin 16) (m : IdeKm)
  -- MCTP and I3C
  | setEndpointId (s : CmdSrc) (eid : Byte)
  | entdaa (k : Fin 2) (addr : BitVec 7)
  | rstdaa (k : Fin 2)
  | getpid (k : Fin 2)
  | getbcr (k : Fin 2)
  | getdcr (k : Fin 2)
  | getstatus (k : Fin 2)
  | enec (k : Fin 2) (events : Byte)
  | disec (k : Fin 2) (events : Byte)
  | setmwl (k : Fin 2) (len : U16)
  | getmwl (k : Fin 2)
  | setmrl (k : Fin 2) (len : U16)
  | getmrl (k : Fin 2)
  -- further events
  | vinWithinWindow (ch : PortId) (m : SlotSample)
  | configurationRequestsAllowed (p : PortId)
  | alertIbi (k : Fin 2)
  | ideRefresh
  | ppsOut
  | ppsMissed
  | cxlIoCompletionTimeout (qp : BitVec 12) (what : WqRead)
deriving DecidableEq, Repr

end Sys2Proof
end

