-- ==== Sys2Proof/Decode.lean ====
section
/-! DEFINITION. Reading a command from a word of the table. No row of the table gives a command any bits: its commands
are events and operations of the block's ports and protocols, so no word spells one. -/

namespace Sys2Proof

/-- The command that a word of `nbits` bits spells by the table's bits: no row has any (DESIGN CHOICE, log entry 59). -/
def decodeTableWord (_nbits _w : Nat) : Option Instr := none

end Sys2Proof
end

