-- ==== Sys2Proof/Machine/Bits.lean ====
section
/-! DEFINITION. Bit fields and byte order: registers and table entries as words built of fields from bit 0 upward
(R4: little-endian), SHA-256 (R388, FIPS 180-4) and bounded searches. -/

namespace Sys2Proof.Machine

/-- A register or table word from its fields, least significant first: each field is (width, value). -/
def pack : List (Nat × Nat) → Nat
  | [] => 0
  | (w, v) :: rest => v % 2 ^ w + 2 ^ w * pack rest

/-- Bits [lo + w - 1 : lo] of a word. -/
def field (n lo w : Nat) : Nat := n / 2 ^ lo % 2 ^ w

/-- Bit i of a word. -/
def bit (n i : Nat) : Bool := n.testBit i

/-- 1 for true. -/
def b2n (b : Bool) : Nat := if b then 1 else 0

/-- The number with the given low bits set. -/
def bitsOf (l : List Bool) : Nat := pack (l.map fun b => (1, b2n b))

/-- Write bits [lo + w - 1 : lo] of a word. -/
def setField (n lo w v : Nat) : Nat := field n 0 lo + 2 ^ lo * (v % 2 ^ w) + 2 ^ (lo + w) * (n / 2 ^ (lo + w))

/-- The number of bits set among the low k. -/
def popcount (n : Nat) : Nat → Nat
  | 0 => 0
  | k + 1 => popcount n k + b2n (n.testBit k)

/-- The bits set among the low k, rising. -/
def bitList (n k : Nat) : List Nat := (List.range k).filter n.testBit

/-- The lowest bit set among the low k. -/
def lowestBit (n k : Nat) : Option Nat := (List.range k).find? n.testBit

/-- The highest bit set among the low k. -/
def highestBit (n k : Nat) : Option Nat := ((List.range k).reverse).find? n.testBit

/-- n bytes of a number, least significant first (R4). -/
def leBytes (v : Nat) : Nat → List Byte
  | 0 => []
  | n + 1 => BitVec.ofNat 8 v :: leBytes (v / 256) n

/-- The number that bytes spell, least significant first (R4). -/
def leNat : List Byte → Nat
  | [] => 0
  | b :: rest => b.toNat + 256 * leNat rest

/-- The number that bytes spell, most significant first. -/
def beNat (l : List Byte) : Nat := l.foldl (fun a b => a * 256 + b.toNat) 0

/-- n bytes of a number, most significant first. -/
def beBytes (v n : Nat) : List Byte := (leBytes v n).reverse

/-- Two's complement of w bits, read as an integer. -/
def toInt (w n : Nat) : Int := if n % 2 ^ w < 2 ^ (w - 1) then (n % 2 ^ w : Nat) else ((n % 2 ^ w : Nat) : Int) - 2 ^ w

/-- An integer as two's complement of w bits. -/
def ofInt (w : Nat) (i : Int) : Nat := (i % 2 ^ w).toNat

/-- The least n counted from c, going round below size, for which p holds (n tries). -/
def searchFrom (p : Nat → Bool) (size c : Nat) : Nat → Option Nat
  | 0 => none
  | k + 1 => if p (c % size) then some (c % size) else searchFrom p size (c + 1) k

/-! ### SHA-256 (R382; FIPS 180-4)

The constants are computed as the standard defines them: the first 32 bits of the fractional parts of square roots and cube
roots of the first primes. -/

/-- The largest r with r ^ k ≤ n and the given number of bits, found from its highest bit down. -/
def rootDown (k n : Nat) : Nat → Nat → Nat
  | 0, r => r
  | bits + 1, r => rootDown k n bits (if (r + 2 ^ bits) ^ k ≤ n then r + 2 ^ bits else r)

/-- The first 32 bits of the fractional part of the k-th root of p. -/
def rootWord (k p : Nat) : U32 := BitVec.ofNat 32 (rootDown k (p * 2 ^ (32 * k)) 37 0)

/-- The first 64 prime numbers. -/
def digestPrimes : List Nat :=
  (List.range 312).filter fun n => decide (2 ≤ n) && (List.range 18).all fun d => decide (d < 2) || d == n || n % d != 0

/-- The exclusive OR of a word turned right by each of some distances. -/
def turned (x : U32) (by' : List Nat) : U32 := by'.foldl (fun acc n => acc ^^^ x.rotateRight n) 0

/-- The message words of a block, newest first: n more than those given. -/
def digestSchedule : Nat → List U32 → List U32
  | 0, ws => ws
  | n + 1, ws =>
    let old (i : Nat) : U32 := ws.getD (i - 1) 0
    let near := turned (old 2) [17, 19] ^^^ (old 2 >>> 10)
    let far := turned (old 15) [7, 18] ^^^ (old 15 >>> 3)
    digestSchedule n ((old 16 + far + old 7 + near) :: ws)

/-- One round on the eight working words, with the sum of its constant and its message word. -/
def digestRound (v : List U32) (kw : U32) : List U32 :=
  let x (i : Nat) : U32 := v.getD i 0
  let pick := x 6 ^^^ (x 4 &&& (x 5 ^^^ x 6))
  let most := (x 0 &&& x 1) ||| (x 2 &&& (x 0 ||| x 1))
  let mixed := x 7 + turned (x 4) [6, 11, 25] + pick + kw
  [mixed + turned (x 0) [2, 13, 22] + most, x 0, x 1, x 2, x 3 + mixed, x 4, x 5, x 6]

/-- The hash value after a block of 64 bytes, with the round constants `ks`. -/
def digestBlock (ks hash : List U32) (block : List Byte) : List U32 :=
  let first : List U32 := (List.range 16).map fun i => BitVec.ofNat 32 (beNat ((block.drop (4 * i)).take 4))
  let words := (digestSchedule 48 first.reverse).reverse
  let rounds := (ks.zip words).foldl (fun v p => digestRound v (p.1 + p.2)) hash
  (hash.zip rounds).map fun p => p.1 + p.2

/-- The hash value after n blocks. -/
def digestBlocks (ks hash : List U32) (l : List Byte) : Nat → List U32
  | 0 => hash
  | n + 1 => digestBlocks ks (digestBlock ks hash (l.take 64)) (l.drop 64) n

/-- SHA-256 of a byte string. -/
def sha256 (l : List Byte) : BitVec 256 :=
  let padded := l ++ 0x80 :: List.replicate ((119 - l.length % 64) % 64) 0 ++ beBytes (l.length * 8) 8
  let hash := digestBlocks (digestPrimes.map (rootWord 3)) ((digestPrimes.take 8).map (rootWord 2)) padded (padded.length / 64)
  BitVec.ofNat 256 (hash.foldl (fun n w => n * 2 ^ 32 + w.toNat) 0)

end Sys2Proof.Machine
end

