-- ==== Sys2Proof/Config.lean ====
section
/-! DEFINITION. What this model leaves open: the free values (constants with no body, so that no proof can see what
they are), the cryptography of the standards the spec names, and the values fixed in one part at manufacture. -/

namespace Sys2Proof

/-- The free value number n: what the spec does not fix, such as which free entry a table allocates (DESIGN CHOICE,
log entry 1). `Machine.State.freeCtr` counts the values taken. -/
opaque Config.free : Nat → Nat

/-- SHA-384 (R433, R441, R442). -/
opaque Config.sha384 : List (BitVec 8) → BitVec 384

/-- ECDSA P-384 verification of a message under a public key (R438, R446). -/
opaque Config.ecdsaP384 : BitVec 768 → List (BitVec 8) → BitVec 768 → Bool

/-- ECDSA P-384 signature by the device key of the part with the given provisioned ID (R433, R440). -/
opaque Config.deviceSign : BitVec 48 → List (BitVec 8) → BitVec 768

/-- The Duoft recipe-signing public key that the boot ROM holds (R63): P-384, 96 B. -/
opaque Config.recipeKey : BitVec 768

/-- The hash that spreads the snoop address map over its buckets (R103; DESIGN CHOICE, log entry 72). -/
opaque Config.snoopHash : Nat → Nat

/-- Random challenge number n of the key store (R446). -/
opaque Config.randomChallenge : Nat → BitVec 64

/-- The fused PROVISIONED_ID of the part (R433). -/
opaque Config.provisionedId : BitVec 48

/-- What the xSPI flash holds from the board at an offset (log entry 30). -/
opaque Config.flashByte : Nat → BitVec 8

/-- The fused FW_KEY_HASH[k] (R433; DESIGN CHOICE, log entry 57, for this and the other fused values). -/
opaque Config.fwKeyHash : Nat → BitVec 384

/-- The fused DEBUG_KEY_HASH[0] (R433). -/
opaque Config.debugKeyHash : BitVec 384

/-- Byte i of the boot ROM (R347, R442). -/
opaque Config.bootRomByte : Nat → BitVec 8

/-- BODY of a journal record, by SEQ: its layout is Bolroth's own (R340). -/
opaque Config.journalBody : BitVec 32 → BitVec 416

/-- Measurement 6 while no recipe set is committed: R442 states none. -/
opaque Config.noRecipeMeasurement : BitVec 384

/-- The certificate chain of slot 0 (R441). -/
opaque Config.deviceChain : List (BitVec 8)

end Sys2Proof
end

