-- ==== Sys2Proof/Machine/Tbl.lean ====
section
/-! DEFINITION. Tables: the SRAM tables, register files and memories of the CY640 as sparse data. A table lists, by
rising index, the entries that differ from the value every entry holds after reset; equal tables are equal data. -/

namespace Sys2Proof.Machine

/-- A table indexed by natural numbers. Entry `k` holds the listed value, or `d` where `k` is not listed. -/
structure Tbl {α : Type} (d : α) where
  cells : List (Nat × α) := []
deriving DecidableEq, Repr

/-- Put (k, v) into a list of rising keys, or take k out where v is the value of an unlisted entry. -/
def cellsSet {α : Type} [DecidableEq α] (d : α) (k : Nat) (v : α) : List (Nat × α) → List (Nat × α)
  | [] => if v = d then [] else [(k, v)]
  | (j, w) :: rest =>
    if j < k then (j, w) :: cellsSet d k v rest
    else if j = k then (if v = d then rest else (k, v) :: rest)
    else if v = d then (j, w) :: rest
    else (k, v) :: (j, w) :: rest

/-- The listed value of k. -/
def cellsGet {α : Type} (k : Nat) : List (Nat × α) → Option α
  | [] => none
  | (j, w) :: rest => if j = k then some w else cellsGet k rest

/-- Every key of the list is above `lo`, keys rise, and no value is the default. -/
def cellsOk {α : Type} [DecidableEq α] (d : α) : Option Nat → List (Nat × α) → Bool
  | _, [] => true
  | lo, (j, w) :: rest =>
    (match lo with
      | none => true
      | some l => decide (l < j)) && decide (w ≠ d) && cellsOk d (some j) rest

/-- An empty table: every entry is at its reset value. -/
def Tbl.empty {α : Type} {d : α} : Tbl d := ⟨[]⟩

/-- Entry k. -/
def Tbl.get {α : Type} {d : α} (t : Tbl d) (k : Nat) : α := (cellsGet k t.cells).getD d

/-- The table with entry k written. -/
def Tbl.set {α : Type} [DecidableEq α] {d : α} (t : Tbl d) (k : Nat) (v : α) : Tbl d := ⟨cellsSet d k v t.cells⟩

/-- The table with entry k changed by f. -/
def Tbl.upd {α : Type} [DecidableEq α] {d : α} (t : Tbl d) (k : Nat) (f : α → α) : Tbl d := t.set k (f (t.get k))

/-- The indices of the listed entries. -/
def Tbl.keys {α : Type} {d : α} (t : Tbl d) : List Nat := t.cells.map (·.1)

/-- The indices of the listed entries whose value satisfies p. -/
def Tbl.find {α : Type} {d : α} (t : Tbl d) (p : Nat → α → Bool) : List Nat :=
  (t.cells.filter fun c => p c.1 c.2).map (·.1)

/-- The table's one canonical form. -/
def Tbl.wf {α : Type} [DecidableEq α] {d : α} (t : Tbl d) : Bool := cellsOk d none t.cells

end Sys2Proof.Machine
end

