-- ==== Sys2Proof/Machine/Data/Tables.lean ====
section
/-! DEFINITION. The tables of the configuration epoch and the single-copy tables beside them: tenants, windows,
translation, home tiles (spec/02), recipe banks (spec/03), sharer slots and the snoop address map (spec/05), checkers
(spec/07), meters, schedulers and gate lists (spec/08), and the parameters of PORT, DIRECTORY_PARTITION and IDENTITY
records (spec/17). -/

namespace Sys2Proof.Machine

/-- Tenant table entry without GEN, which is live (R21). -/
structure Tenant where
  hostPort : Nat := 0
  valid : Bool := false
  privileged : Bool := false
  windowFirst : Nat := 0
  windowCount : Nat := 0
deriving DecidableEq, Repr

/-- Window table entry (R24). -/
structure Window where
  baseTile : Nat := 0
  tilesM1 : Nat := 0
  ttBase : Nat := 0
  tenant : Nat := 0
  hostPort : Nat := 0
  valid : Bool := false
deriving DecidableEq, Repr

/-- STATE of a translation entry (R29). -/
inductive TtState where
  | empty | offered | active | releasing
deriving DecidableEq, Repr

/-- ATTR (R29). The fourth encoding is reserved. -/
inductive Attr where
  | priv | sharedCoherent | sharedReadonly | reserved
deriving DecidableEq, Repr

/-- Translation entry (R29). -/
structure TtEntry where
  state : TtState := .empty
  attr : Attr := .priv
  homeRank : Nat := 0
  homeTile : Nat := 0
  shareId : Nat := 0
deriving DecidableEq, Repr

/-- STATE of a home tile map entry (R35). -/
inductive HtState where
  | free | active | migrating | moved | lost | zeroing
deriving DecidableEq, Repr

/-- Home tile map entry (R35). -/
structure HtEntry where
  state : HtState := .free
  attr : Attr := .priv
  mirrored : Bool := false
  singleCopy : Bool := false
  pPort : Nat := 0
  pTile : Nat := 0
  mPort : Nat := 0
  mTile : Nat := 0
  migSlot : Nat := 0
  fwdRank : Nat := 0
  fwdTile : Nat := 0
  shareId : Nat := 0
deriving DecidableEq, Repr

/-- Sharer slot map entry (R90). -/
structure Sharer where
  rank : Nat := 0
  port : Nat := 0
  valid : Bool := false
deriving DecidableEq, Repr

/-- Snoop address map entry (R103). -/
structure SnoopMap where
  homeRank : Nat := 0
  homeTile : Nat := 0
  port : Nat := 0
  ttIndex : Nat := 0
  window : Nat := 0
  valid : Bool := false
deriving DecidableEq, Repr

/-- A checker region (R143). -/
structure Region where
  valid : Bool := false
  space : Nat := 0
  read : Bool := false
  write : Bool := false
  rankMatch : Bool := false
  rank : Nat := 0
  tenantMatch : Bool := false
  tenant : Nat := 0
  base : Nat := 0
  limit : Nat := 0
deriving DecidableEq, Repr

/-- Meter configuration entry (R161); an absent METER record gives the defaults. -/
structure MeterCfg where
  meterEn : Bool := false
  srtcm : Bool := false
  shaperEn : Bool := false
  cir : Nat := 0
  pir : Nat := 0
  cbs : Nat := 0
  pbsEbs : Nat := 0
  shapeRate : Nat := 0
  shapeBurst : Nat := 0
  flowWeight : Nat := 16
  fqBurst : Nat := 2048
  queueCap : Nat := 64
deriving DecidableEq, Repr

/-- Meter state entry (R163). Tokens are in 10⁻³ B; TS is signed. -/
structure MeterState where
  tc : Nat := 0
  tpTe : Nat := 0
  ts : Int := 0
  last : BitVec 48 := 0
  slast : BitVec 48 := 0
  green : BitVec 48 := 0
  yellow : BitVec 48 := 0
  red : BitVec 48 := 0
  -- the shaper's registers
  /-- fabric time of the present core clock, when its first charge found TS ≥ 0, and the egress points that have charged in it
  (R169, R178) -/
  clock : Option Nat := none
  clockBy : List Nat := []
deriving DecidableEq, Repr

/-- Scheduler configuration block (R172); an absent SCHEDULE record gives the defaults. -/
structure SchedCfg where
  wRequest : Nat := 128
  wShared : Nat := 64
  wIo : Nat := 32
  wBulk : Nat := 24
  wTelemetry : Nat := 8
  wPair : List Nat := [64, 64, 64, 64]
  wMgmt : Nat := 16
deriving DecidableEq, Repr

/-- Gate control list (R174): each entry is (GATES, DURATION). -/
structure GateList where
  baseTime : Nat := 0
  cycleTime : Nat := 0
  entries : List (Nat × Nat) := []
deriving DecidableEq, Repr

/-- Recipe set header fields (R62). -/
structure SetInfo where
  setId : Nat := 0
  versionMinor : Nat := 0
  versionMajor : Nat := 0
  compatMin : Nat := 0
deriving DecidableEq, Repr

/-- Port roles (R235). -/
inductive Role where
  | disabled | host | poolMember | bound | unbound
deriving DecidableEq, Repr

/-- The parameters of a PORT record (R379). Fields left 0 in the record hold their defaults here; a port with no PORT
record is DISABLED. -/
structure PortParam where
  present : Bool := false
  role : Role := .disabled
  width : Nat := 0
  maxRate : Nat := 0
  sris : Bool := false
  mld : Bool := false
  ideRequired : Bool := false
  ideMode : Nat := 0
  l0pMin : Nat := 0
  vppbCount : Nat := 0
  txnQuota : Nat := 0
  expectedDsn : U64 := 0
  cdatLatency : Nat := 400
  perstDelayMs : Nat := 100
  linkUpTimeoutMs : Nat := 1000
  ctDisable : Nat := 0
  cellLimit : List Nat := List.replicate 8 0
  queueLimit : List Nat := List.replicate 8 448
  decBaseTile : Nat := 0
  decTilesM1 : Nat := 0
deriving DecidableEq, Repr

/-- The parameters of the DIRECTORY_PARTITION record besides the slot map (R380), with their defaults. -/
structure DirParam where
  scrubRate : Nat := 8
  patrolH : Nat := 24
  retrainErrors : Nat := 16
  correctionLimit : Nat := 64
  hazelMs : Nat := 100
  cellsMigration : Nat := 16384
  cellsMgmt : Nat := 1024
  cellsTelemetry : Nat := 2048
deriving DecidableEq, Repr

/-- The parameters of this rank's IDENTITY record (R378), with their defaults. -/
structure Ident where
  valid : Bool := false
  rank : Nat := 0
  route : List Nat := List.replicate 16 0xFF
  completionMs : Nat := 16
  addS : Nat := 10
  snoopUs : Nat := 4000
  confirmS : Nat := 120
deriving DecidableEq, Repr

/-- SECURITY_POLICY (R444). -/
structure Policy where
  fmPorts : U64 := 0
  trunkFm : Bool := false
  debugAllowed : Bool := false
  ownerOnly : Bool := false
  svnAdvance : Bool := false
  debugMaxS : Nat := 3600
  ideRefreshS : Nat := 0
deriving DecidableEq, Repr

/-- The tables that an epoch flip switches whole (R385). -/
structure Bank where
  tenants : Tbl ({} : Tenant) := .empty
  windows : Tbl ({} : Window) := .empty
  /-- dispatch entries (R47) -/
  dispatch : Tbl (0 : U16) := .empty
  /-- step words at 16 × recipe + step (R47) -/
  steps : Tbl (0 : U64) := .empty
  setInfo : SetInfo := {}
  sharers : Tbl ({} : Sharer) := .empty
  /-- regions at 64 × checker + region (R143); region 0 of checker 76 is wired and not listed (R148) -/
  regions : Tbl ({} : Region) := .empty
  meters : Tbl ({} : MeterCfg) := .empty
  scheds : Tbl ({} : SchedCfg) := .empty
  gates : Tbl ({} : GateList) := .empty
  /-- a commit has written the bank since reset: before that its registers read their reset values (R161, R172) -/
  loaded : Bool := false
deriving DecidableEq, Repr

/-- A checker's own registers (R150, R151, R157). -/
structure Checker where
  locked : BitVec 8 := 0
  enabled : Bool := false
  /-- FAULT_CAPTURE -/
  capValid : Bool := false
  capSpace : BitVec 3 := 0
  capNeeds : BitVec 2 := 0
  capRegion : BitVec 7 := 0
  capLockedHit : Bool := false
  capTenant : BitVec 12 := 0
  capRank : BitVec 4 := 0
  capPriv : Bool := false
  capNoTenant : Bool := false
  capAddr : U64 := 0
  /-- fabric time of the last ACCESS_FAULT entry logged -/
  lastLog : Option Nat := none
deriving DecidableEq, Repr

/-- The address, recipe, checker and QoS tables. -/
structure Tables where
  bank0 : Bank := {}
  bank1 : Bank := {}
  /-- EPOCH (R385) -/
  epoch : U32 := 0
  /-- the current bank (R59): false bank 0 (A), true bank 1 (B) -/
  cur : Bool := false
  /-- live generation of each tenant, kept over warm reset (R21, R23; DEDUCED, log entry 14) -/
  gens : Tbl (0 : U16) := .empty
  tt : Tbl ({} : TtEntry) := .empty
  ht : Tbl ({} : HtEntry) := .empty
  snoop : Tbl ({} : SnoopMap) := .empty
  checkers : Tbl ({} : Checker) := .empty
  meterState : Tbl ({} : MeterState) := .empty
  ports : Tbl ({} : PortParam) := .empty
  dirParam : DirParam := {}
  ident : Ident := {}
  policy : Policy := {}
  /-- entries of tables that failed parity and are not yet rewritten, with the time of the failure: a request that reads one ends in
  error (R135) -/
  damaged : List (ParityMem × Nat) := []
deriving DecidableEq, Repr

end Sys2Proof.Machine
end

