-- ==== Sys2Proof/Machine/Data/Core.lean ====
section
/-! DEFINITION. State of the data plane: the shared buffer, the transaction table, tags, egress queues and schedulers
(spec/04, spec/08), the coherence home (spec/05) and the directory store (spec/06). -/

namespace Sys2Proof.Machine

/-- AUDIT of a cell (R85). -/
inductive Audit where
  | free | allocated | suspect | withheld
deriving DecidableEq, Repr

/-- Cell allocation record (R85), with the STAMP that the last Hazel pass remembered (R86). -/
structure CellRec where
  owner : Nat := 0
  iclass : Nat := 0
  use : Nat := 0
  isOpen : Bool := false
  stamp : Byte := 0
  audit : Audit := .free
  seen : Byte := 0
deriving DecidableEq, Repr

/-- A record in the shared buffer (R67): its ingress point and class, its units, the further cells of a chain, the
message it stores, and how many egress copies and transaction entries refer to it (R68). -/
structure Rec where
  ingress : Nat
  cls : Nat
  units : Nat
  chain : List Nat := []
  msg : Msg
  refs : Nat := 1
  /-- arrival number at the ingress point (INGRESS_SEQ, R77) -/
  seq : U32 := 0
  /-- a unit of the record failed parity as it was written (R75) -/
  badWrite : Bool := false
deriving DecidableEq, Repr

/-- An egress queue entry (R73) with the header that the egress builds. -/
structure QEntry where
  txn : Option Nat := none
  /-- the transaction's final message: its entry is freed when this leaves (R77, DRAINING) -/
  final : Bool := false
  record : Option Nat := none
  msg : Msg := {}
  /-- class of the message on the link (R43) -/
  cls : Nat := 4
  units : Nat := 1
  cost : Nat := 16
  flow : Nat := 0
  /-- tenant and generation compared again when the message leaves toward a host port (R22) -/
  gen : Option (Nat × U16) := none
  /-- store-and-forward (R75) -/
  sf : Bool := false
  /-- voided at its transaction's lifetime deadline (R82) -/
  void : Bool := false
  /-- a read of host memory for a queue pair (R187) -/
  ask : Option (Nat × WqRead) := none
  /-- an attached writeback that a relay sends on: its place in the transaction's list (R108) -/
  note : Option Nat := none
  /-- the trunk that R106 assigns the message to, while its partner carries it (R294) -/
  owner : Option Nat := none
deriving DecidableEq, Repr

/-- Start and finish tag of a flow or a class (R173). -/
structure FlowTag where
  s : BitVec 48 := 0
  f : BitVec 48 := 0
deriving DecidableEq, Repr

/-- What a tag slot's message is for. -/
inductive TagUse where
  /-- the message of a FORWARD, DUPLICATE or JOB_TARGET step -/
  | main
  /-- an attached writeback (R108), by its place in the transaction's list -/
  | attached (k : Nat)
  /-- a poison write of POISON(LINE) -/
  | poison
deriving DecidableEq, Repr

/-- A slot of a downstream port's tag table (R78, R79). -/
structure TagSlot where
  alloc : Bool := false
  quarantined : Bool := false
  reuse : BitVec 4 := 0
  txn : Nat := 0
  use : TagUse := .main
deriving DecidableEq, Repr

/-- A slot of a host port's BI tag table (R78, R79): the transaction and sharer slot snooped; slot 64 at a relay. -/
structure BiSlot where
  alloc : Bool := false
  quarantined : Bool := false
  txn : Nat := 0
  slot : Nat := 0
deriving DecidableEq, Repr

/-- STATE of a transaction entry (R77). -/
inductive TState where
  | free | running | waitRsp | waitOrder | waitHold | draining
deriving DecidableEq, Repr

/-- Wanted states of a request (R98). -/
inductive Want where
  | none | shared | excl
deriving DecidableEq, Repr

/-- Snoop types (R99). -/
inductive Snoop where
  | cur | data | inv
deriving DecidableEq, Repr

/-- What a transaction in WAIT_RSP waits for. -/
inductive WaitKind where
  | none | birsp | response | remote | poison
deriving DecidableEq, Repr

/-- Who issued an internal transaction, and hears of its end. -/
inductive Issuer where
  | none
  /-- a work-queue or drain job in migration slot `slot`: `stage` 0 read, 1 write, 2 read of the mirror, 3 repair -/
  | job (slot : Nat) (stage : Nat) (line : Nat)
  /-- the zeroing of a tile, by a ZERO_TILE or after its release (R209, R217): its primary place in stage 0, the mirror in stage 1 -/
  | tileJob (tile : Nat) (stage : Nat) (line : Nat)
  /-- a crossbar master (R346) -/
  | mgmt (m : Nat)
  /-- a candidate sweep (R127) -/
  | sweep (set way : Nat)
  /-- NO_CACHE of a tile (R216), by migration slot -/
  | noCache (slot : Nat)
deriving DecidableEq, Repr

/-- An attached writeback of a transaction (R108). -/
structure Attached where
  msg : Msg
  record : Option Nat := none
  seq : U32 := 0
  /-- sharer slot it came from -/
  slot : Nat := 0
  ingress : Nat := 0
  tenant : Nat := 0
  gen : U16 := 0
  noTenant : Bool := false
  /-- a MemClnEvct: nothing to write -/
  evict : Bool := false
  /-- came over a trunk with ATTACHED = 1: the relay has sent its Cmp -/
  relayed : Bool := false
  started : Bool := false
  /-- its data is lost: the slot fell silent (R112) -/
  dropped : Bool := false
  outstanding : Nat := 0
  /-- its requester's Cmp has been queued -/
  done : Bool := false
  /-- counted in OUT of this slot and WPHASE (R211) -/
  mark : Option (Nat × Bool) := none
deriving DecidableEq, Repr

/-- A transaction table entry (R77), and below the mark what the engine's own registers hold of the transaction. -/
structure Txn where
  state : TState := .free
  bank : Bool := false
  epochLo : Byte := 0
  recipe : Nat := 0
  step : Nat := 0
  cls : Nat := 0
  opcode : Nat := 0
  source : Nat := 0
  ingress : Nat := 0
  seq : U32 := 0
  tenant : Nat := 0
  gen : U16 := 0
  qp : Nat := 0
  qpGen : Byte := 0
  /-- 24 bits, as a tag from a trunk has them (DEDUCED, log entry 12) -/
  reqTag : BitVec 24 := 0
  addr : Nat := 0
  attr : Attr := .priv
  homeRank : Nat := 0
  homeTile : Nat := 0
  homeState : HtState := .free
  mirrored : Bool := false
  singleCopy : Bool := false
  pPort : Nat := 0
  pTile : Nat := 0
  mPort : Nat := 0
  mTile : Nat := 0
  migSlot : Nat := 0
  /-- the home tile map entry has been copied: the fields above hold it -/
  home : Bool := false
  colour : Colour := .green
  cell : Nat := 0
  unit : Nat := 0
  expect : Nat := 0
  got : Nat := 0
  poisonSeen : Bool := false
  errSeen : Bool := false
  snoopExpired : Bool := false
  snoopTimer : Bool := false
  lifeDl : BitVec 20 := 0
  snoopDl : BitVec 20 := 0
  grant : BitVec 2 := 0
  reuse : BitVec 4 := 0
  noTenant : Bool := false
  -- the engine's own registers
  msg : Msg := {}
  record : Option Nat := none
  /-- an entry of the reserve of R80 -/
  reserve : Bool := false
  issuer : Issuer := .none
  wait : WaitKind := .none
  /-- the response that COMPLETE(FROM_RSP) returns, with its record -/
  rsp : Option (Msg × Option Nat) := none
  /-- data of COMPLETE is to be poisoned -/
  poisonData : Bool := false
  /-- TRANSLATE's reason: 0 UNMAPPED, 1 LOST, 2 DENIED -/
  reason : Option Nat := none
  /-- copies acknowledged among those that the current wait expects -/
  good : Nat := 0
  /-- line held at the home (R97) -/
  line : Option Nat := none
  /-- line waited for in WAIT_ORDER -/
  waitLine : Option Nat := none
  /-- requester's valid sharer slot, and the same when it is usable (R92) -/
  ownSlot : Option Nat := none
  reqSlot : Option Nat := none
  want : Want := .none
  snoop : Snoop := .inv
  snoopSet : List Nat := []
  /-- ALL_SLOTS and VICTIM: holders come from the map or a copied entry -/
  victim : Option (BitVec 128) := none
  /-- the set and way of an unknown-TAG or readable damaged way that the rebuild clears -/
  damagedWay : Option (Nat × Nat) := none
  attached : List Attached := []
  /-- the job target: port and device physical address (R49 JOB_TARGET) -/
  jobPort : Nat := 0
  jobDpa : Nat := 0
  /-- point that the message of a relay or REMOTE wait went to -/
  sentTo : Nat := 0
  /-- a relayed BISnp (R105): the host port it names -/
  named : Option Nat := none
  /-- the deadline of the current wait has passed, and whether that was the lifetime (R82) -/
  timedOut : Bool := false
  lifeOver : Bool := false
  /-- line held after the answers were applied: holders and owner (R99, R100) -/
  holders : List Nat := []
  ownerNow : Option Nat := none
  /-- copies sent: ports whose acknowledgement the wait expects (R51) -/
  copies : List Nat := []
  /-- counted in OUT of this slot and WPHASE (R211) -/
  mark : Option (Nat × Bool) := none
  /-- it has run MARK_DIRTY -/
  markSeen : Bool := false
  /-- the line was poisoned by POISON(LINE) -/
  poisonedLine : Bool := false
  /-- the transaction is ending as COMPLETE(ERROR) outside a step (R58, R82, R135) -/
  erroring : Bool := false
  /-- its issuer has heard of its end -/
  reported : Bool := false
  /-- translation entry copied (R32), and MOVED entry that TRANSLATE forwarded it through (R217) -/
  tt : Option Nat := none
  via : Option Nat := none
  /-- its checker faulted it (R149) -/
  faulted : Bool := false
deriving DecidableEq, Repr

/-- An active-line table entry (R97): the holding transaction and the wait queue. -/
structure ActiveLine where
  holder : Nat
  queue : List Nat := []
deriving DecidableEq, Repr

/-- An entry of a pending-write index (R107): the point, its key (origin rank, origin port, line), the record and its
transaction. -/
structure PendingWrite where
  point : Nat
  rank : Nat
  port : Nat
  line : Nat
  record : Nat
  seq : U32
  evict : Bool
  txn : Option Nat := none
deriving DecidableEq, Repr

/-- A conflict record (R109). -/
structure Conflict where
  valid : Bool := false
  txn : Nat := 0
  slot : Nat := 0
  sent : Bool := false
  answered : Bool := false
  answer : BitVec 2 := 0
  conf : Bool := false
  confDeferred : Bool := false
  confTag : BitVec 24 := 0
  wbCount : Nat := 0
  wbApplied : Bool := false
  key : BitVec 58 := 0
  -- the engine's registers
  /-- opcode of the BIRsp received, while its attached writes have still to complete (R111) -/
  heard : Option Nat := none
  /-- tenant and generation of the deferred BIConflict's sender (R22) -/
  confGen : Option (Nat × U16) := none
deriving DecidableEq, Repr

/-- The end of an internal transaction, for its issuer. -/
structure DoneMsg where
  issuer : Issuer
  /-- 0 good, 1 poisoned data, 2 error or timeout, 3 access fault, 4 stale generation -/
  result : Nat := 0
  data : Line := 0
deriving DecidableEq, Repr

/-- The data plane. -/
structure Dp where
  -- shared buffer
  cells : Tbl ({} : CellRec) := .empty
  recs : Tbl (none : Option Rec) := .empty
  openCell : Tbl (none : Option (Nat × Nat)) := .empty
  /-- cells allocated to each (ingress point, class), at 8 × point + class (R70) -/
  cellCount : Tbl (0 : Nat) := .empty
  lastHazel : Nat := 0
  -- transaction table
  txns : Tbl ({} : Txn) := .empty
  tags : Tbl ({} : TagSlot) := .empty
  bitags : Tbl ({} : BiSlot) := .empty
  /-- records waiting for an entry, by 8 × point + class (R80) -/
  waiting : Tbl ([] : List Nat) := .empty
  /-- what the waiting records of internal masters start with, by record number -/
  parked : Tbl (none : Option Txn) := .empty
  /-- trunk and transaction of each answer that a trunk delivered and that has still to go on toward a host port, in order of
  delivery (R106) -/
  delivered : List (Nat × Nat) := []
  /-- the ingress point that last got a freed entry (R80) -/
  rrLast : Nat := 76
  arrival : Tbl (0 : U32) := .empty
  live : Tbl (0 : Nat) := .empty
  -- egress
  queues : Tbl ([] : List QEntry) := .empty
  flows : Tbl ({} : FlowTag) := .empty
  classTag : Tbl ({} : FlowTag) := .empty
  v : Tbl (0 : BitVec 48) := .empty
  v0 : Tbl (0 : BitVec 48) := .empty
  /-- the channel credits of an edge port that its partner has spent and that have not been returned, at 16 × port + channel, and
  those to return with each cell (R72, R233) -/
  spent : Tbl (0 : Nat) := .empty
  cellCredits : Tbl ([] : List (Nat × Nat)) := .empty
  /-- channels, as bits, for which the partner of an edge port last showed credit -/
  credits : Tbl (0xFFF : Nat) := .empty
  /-- classes, at 8 × point + class, that were empty before their present entries arrived (R173) -/
  fresh : Tbl false := .empty
  /-- fabric time at which the last message that a gate closing held to its guard has left a point (R176) -/
  sending : Tbl (0 : Nat) := .empty
  gateNow : Tbl ({} : GateList) := .empty
  gateNext : Tbl (none : Option (Nat × GateList)) := .empty
  -- coherence home
  lines : Tbl (none : Option ActiveLine) := .empty
  pendingWrites : List PendingWrite := []
  conflicts : Tbl ({} : Conflict) := .empty
  unrespSlots : U64 := 0
  unrespPorts : U64 := 0
  -- the engine
  ready : List Nat := []
  stalled : List Nat := []
  /-- something that a stalled step may wait for has been freed -/
  freed : Bool := false
  done : List DoneMsg := []
deriving DecidableEq, Repr

/-- The INVALID directory entry that fills the store (R129). -/
def dirFill : BitVec 128 := 0x00100000000000000000_3F8000000000

/-- A set in the directory cache (R125): its 16 entries. -/
structure CacheSet where
  set : Nat
  ways : List (BitVec 128)
deriving DecidableEq, Repr

/-- A candidate sweep (R127): what it has still to try, how many of its rebuilds run, and its counts (R128). -/
structure Sweep where
  set : Nat
  way : Nat
  next : Nat := 0
  running : Nat := 0
  rebuilt : Nat := 0
  poisoned : Nat := 0
  exhausted : Bool := false
deriving DecidableEq, Repr

/-- The summary of a scrub pass (R131). -/
structure ScrubSummary where
  checked : U32 := 0
  corrected : U32 := 0
  uncorrectable : U32 := 0
  firstFail : BitVec 30 := 0x3FFFFFFF
  lastFail : BitVec 30 := 0x3FFFFFFF
  partialPass : Bool := false
deriving DecidableEq, Repr

/-- Relocation of a pair to the reserve (R133). -/
structure Reloc where
  pair : Nat
  /-- blocks copied so far -/
  pointer : Nat := 0
  done : Bool := false
  /-- blocks that checker 76 kept from being copied (R149) -/
  skipped : List Nat := []
deriving DecidableEq, Repr

/-- The directory store (spec/06). Copy 0 is channel p of each pair, copy 1 is channel p + 16; entry 16 × set + way. -/
structure Dir where
  copy0 : Tbl dirFill := .empty
  copy1 : Tbl dirFill := .empty
  /-- rows of the cache, most recently used set first -/
  cache : Tbl ([] : List CacheSet) := .empty
  /-- migration dirty bitmaps at slot × 2²² + line, in the two copies (R119, R124) -/
  dirty0 : Tbl false := .empty
  dirty1 : Tbl false := .empty
  /-- retired channels (R132) -/
  retired : U32 := 0
  reloc : Option Reloc := none
  /-- pairs whose both channels are retired and that carry nothing (R134) -/
  lost : BitVec 16 := 0
  sweeps : List Sweep := []
  /-- sweeps that wait, in arrival order -/
  sweepQueue : List (Nat × Nat) := []
  /-- lines of damaged ways to rebuild, each with its set and way, that wait for a reserve entry or a hold (R126) -/
  rebuilds : List (Nat × Nat × Nat) := []
  /-- entries whose copies both pass and differ, with both TAGs (R130) -/
  conflicted : List (Nat × List Nat) := []
  /-- times of the corrections of each channel in the last second (R132) -/
  corrections : Tbl ([] : List Nat) := .empty
  /-- channels whose next read fails its CRC for the fourth time (R121) -/
  readErr : U32 := 0
  /-- bits by which a copy of a byte outside directory and bitmaps differs from what was written -/
  flip0 : Tbl (0 : Byte) := .empty
  flip1 : Tbl (0 : Byte) := .empty
  lastPatrol : Nat := 0
deriving DecidableEq, Repr

end Sys2Proof.Machine
end

