-- ==== Sys2Proof/Machine/Data/Obs.lean ====
section
/-! DEFINITION. State of observability: counters, bandwidth windows, focus records, telemetry, the Brittle log, its
archive and the event logs (spec/19_observability.md), and what leaves the block during a command. -/

namespace Sys2Proof.Machine

/-- One counter (R414): VALUE, OVF, LEVEL, and in level mode the fabric time up to which nanoseconds are counted. -/
structure Counter where
  value : BitVec 48 := 0
  ovf : Bool := false
  level : Bool := false
  upTo : Nat := 0
deriving DecidableEq, Repr

/-- One Brittle log entry (R426). -/
structure LogEntry where
  time : Nat := 0
  type : U16 := 0
  sev : BitVec 2 := 0
  seq : U32 := 0
  args : BitVec 128 := 0
deriving DecidableEq, Repr

/-- LOG_STATUS (R426). -/
structure LogStatus where
  next : U16 := 0
  wrapped : Bool := false
  frozen : Bool := false
  archiving : Bool := false
  freezeCause : BitVec 4 := 0
  archiveNext : BitVec 4 := 0
  written : U32 := 0
deriving DecidableEq, Repr

/-- An archive slot (R429): its header and the ring copy. -/
structure Archive where
  valid : Bool := false
  cause : BitVec 4 := 0
  freezeTime : Nat := 0
  status : LogStatus := {}
  provisionedId : BitVec 48 := 0
  epoch : U32 := 0
  archiveSeq : U32 := 0
  ring : List (Nat × LogEntry) := []
deriving DecidableEq, Repr

/-- A bandwidth window of one point (R422): what is being added, and the last completed record. -/
structure Bandwidth where
  rx : List U64 := List.replicate 8 0
  tx : List U64 := List.replicate 8 0
  start : Nat := 0
  seq : U32 := 0
  lastEnd : Nat := 0
  lastLen : U32 := 0
  lastSeq : U32 := 0
  lastRx : List U64 := List.replicate 8 0
  lastTx : List U64 := List.replicate 8 0
deriving DecidableEq, Repr

/-- A focus record (R424). -/
structure Focus where
  point : Nat := 0
  valid : Bool := false
  start : Nat := 0
  delivered : U64 := 0
  wastedReplay : U64 := 0
  wastedDiscard : U64 := 0
  wastedPoison : U64 := 0
  frontStarved : U64 := 0
  backStarved : U64 := 0
  control : U64 := 0
  deliveredUnits : U64 := 0
  /-- a message picked for the slot that is being filled was discarded -/
  lost : Bool := false
deriving DecidableEq, Repr

/-- The COUNTER_SELECT global body in force (R417). -/
structure SelectGlobal where
  snapshotMs : Nat := 1000
  telemMs : Nat := 1000
  telemPort : Nat := 0
  telemEnable : Bool := false
  telemLog : Bool := false
  ringLog2 : Nat := 0
  alertSev : Nat := 2
  freezeMask : Nat := 0x0370
  postEntries : Nat := 64
  holdoffS : Nat := 10
  telemAddr : U64 := 0
  focus : List Nat := List.replicate 8 0
deriving DecidableEq, Repr

/-- COUNTER_SELECT of one point (R417): WINDOW_US and TELEM_BW. -/
structure SelectPoint where
  windowUs : Nat := 1000
  telemBw : Bool := false
deriving DecidableEq, Repr

/-- A record of an event log (R237, R430): which kind of event, its severity log, and its data bytes. -/
structure EventRecord where
  handle : Nat := 0
  /-- 0 General Media (R28), 1 Add Capacity, 2 Release Capacity, 3 capacity removed by force, 4 vendor record of a
  Brittle entry (R430), 5 forwarded member record (R242) -/
  kind : Nat := 0
  data : List Nat := []
deriving DecidableEq, Repr

/-- Five event logs of 256 records with their overflow flags and interrupt policy (R237). -/
structure EventLogs where
  logs : List (List EventRecord) := List.replicate 5 []
  overflow : List Bool := List.replicate 5 false
  policy : BitVec 40 := 0
  nextHandle : Nat := 1
deriving DecidableEq, Repr

/-- A counter snapshot slot (R421): its bytes. -/
structure Snapshot where
  valid : Bool := false
  time : Nat := 0
  seq : U32 := 0
  epoch : U32 := 0
  counters : List (Nat × Counter) := []
  bandwidth : List (Nat × Bandwidth) := []
deriving DecidableEq, Repr

/-- What leaves the block during a command: the model's record of its outputs. -/
inductive Out where
  /-- a message on the link of an egress point: its egress class (R73) and message class (R43) -/
  | msg (x : Nat) (q : Nat) (cls : Nat) (m : Msg)
  /-- a flit that a trunk sends: its type (R273) and contents as numbers -/
  | flit (t : Nat) (type : Nat) (body : List Nat)
  /-- what the nine physical lanes of a trunk carry of the flit before it (R253, R278) -/
  | lanes (t : Nat) (bytes : List (List Byte))
  /-- the PAM4 levels that those bytes become on each lane, after Gray coding and precoding (R253) -/
  | levels (t : Nat) (l : List (List Nat))
  /-- a mailbox or MCTP answer: source, message tag, ticket, return code, payload -/
  | answer (src : CmdSrc) (tag : BitVec 24) (ticket : Nat) (code : Nat) (payload : List Byte)
  /-- an answer of the pool view of a host port: return code, payload -/
  | poolAnswer (p : Nat) (code : Nat) (payload : List Byte)
  /-- MSI-X vector of a host port's management function -/
  | msix (p : Nat) (vector : Nat)
  /-- a CXL.io message to a host or a device about a vPPB or a port: kind and arguments -/
  | notify (p : Nat) (kind : Nat) (args : List Nat)
  /-- bytes or an in-band interrupt on an I3C port -/
  | i3c (k : Nat) (data : List Byte)
  /-- an SPDM response: its code and contents -/
  | spdm (s : SpdmSrc) (code : Nat) (payload : List Byte)
  /-- the TAP shifts out a value -/
  | tap (v : Nat)
  /-- the result of a crossbar access: data and status (0 ok, 1 error, 2 denied) -/
  | crossbar (m : Nat) (data : Nat) (status : Nat)
  /-- a pulse on PPS_OUT -/
  | pps
deriving DecidableEq, Repr

/-- Counters of the duration events (R415) whose condition holds at reset: LINK_DOWN of every edge port and TRUNK_DOWN of
every trunk. -/
def resetConds : List Nat := (List.range 64).map (64 * · + 29) ++ (List.range 8).map (4096 + 64 * · + 37)

/-- The state of observability. -/
structure Obs where
  /-- the 5,120 counters (R414) -/
  counters : Tbl ({} : Counter) := .empty
  /-- duration events (R415): counters whose condition holds -/
  conds : List Nat := resetConds
  select : SelectGlobal := {}
  points : Tbl ({} : SelectPoint) := .empty
  bandwidth : Tbl ({} : Bandwidth) := .empty
  focus : Tbl ({} : Focus) := .empty
  slotSeq : U32 := 0
  snapshots : Tbl ({} : Snapshot) := .empty
  telemSeq : U64 := 0
  log : Tbl ({} : LogEntry) := .empty
  status : LogStatus := {}
  /-- a maskable freeze pending: cause and entries left to write (R427) -/
  pendingFreeze : Option (Nat × Nat) := none
  /-- fabric time at which the hold-off after the last maskable freeze ends (R427) -/
  holdoffEnd : Nat := 0
  /-- fabric time of the last freeze, for its archive header -/
  freezeTime : Nat := 0
  /-- an always-on cause met during an archive copy, taken after the copy (R431) -/
  freezeAfter : Option Nat := none
  /-- the frozen log has its archive copy (R429) -/
  archived : Bool := false
  archives : Tbl ({} : Archive) := .empty
  archiveSeq : U32 := 0
  /-- the management function's event logs (R430) -/
  mgmtLogs : EventLogs := {}
  /-- SEQ of the latest alert entry not yet signalled, per I3C port, and the time of the port's last IBI (R430) -/
  alert0 : Option U32 := none
  alert1 : Option U32 := none
  ibi0 : Option Nat := none
  ibi1 : Option Nat := none
  /-- entries waiting to become telemetry LOG records (R425) -/
  telemEntries : List LogEntry := []
  /-- TELEMETRY records formed and not dropped go out as messages; what has left during the present command -/
  out : List Out := []
deriving DecidableEq, Repr

end Sys2Proof.Machine
end

