-- ==== Sys2Proof/Machine/Data/Edge.lean ====
section
/-! DEFINITION. State of the edge ports, the virtual hierarchies and the pool views (spec/11, spec/02). -/

namespace Sys2Proof.Machine

/-- Live state of one edge port: PORT_STATUS (R235) and what the port holds beside it. -/
structure PortState where
  role : Role := .disabled
  dlUp : Bool := false
  rate : Nat := 0
  width : Nat := 0
  widthNow : Nat := 0
  flit : Nat := 0
  ide : Nat := 0
  widthDegraded : Bool := false
  dpc : Bool := false
  present : Bool := false
  slotPg : Bool := false
  memberReady : Bool := false
  mld : Bool := false
  /-- Scaled Flow Control is in use (R233) -/
  scaledFc : Bool := true
  /-- lanes of the link in L0, and lanes that have not failed since it trained, by number (R229, R230) -/
  lanes : List Nat := []
  lanesUp : List Nat := []
  /-- PERST_N asserted (R249) -/
  perst : Bool := true
  /-- link training enabled -/
  training : Bool := false
  /-- fabric time of the last link-up -/
  upAt : Nat := 0
  /-- configuration requests allowed (R249) -/
  cfgAllowed : Bool := false
  /-- decoder in force since the last link-up (R19) -/
  decBase : Nat := 0
  decTilesM1 : Nat := 0
  decValid : Bool := false
  /-- member: serial number read, capacity in tiles, decoder programmed, Mem_Enable (R241, R242) -/
  dsn : U64 := 0
  capacity : Nat := 0
  memEnable : Bool := false
  /-- R242 or R249 has logged a failure of the member since it was last powered (R401) -/
  memberFailed : Bool := false
  /-- the member counts as a retired unit (R222) -/
  memberLost : Bool := false
  /-- skid-mode discard of received messages after an integrity failure (R244) -/
  ideDiscard : Bool := false
  /-- hot-plug indicators and request that the host wrote (R317) -/
  hostPower : Bool := false
  pwrInd : BitVec 2 := 0
  atnInd : BitVec 2 := 0
  /-- Viral reported (R247) -/
  viral : Bool := false
  /-- Bus Master Enable of the management function of a HOST port, which the host programs (R195, R236): 0 after a reset of the
  function, as in PCIe 6.1 -/
  busMaster : Bool := false
  /-- Max_Payload_Size of the port, which the host programs (R425; PRESUMED PCIe's 128 B, log entry 20) -/
  maxPayload : Nat := 128
deriving DecidableEq, Repr

/-- One of the HDM decoders 1 to 7 of a host port's upstream switch port, which the host programs (R236): base and size in tiles,
granularity 2^(8 + ig) B, 2^iw ways, the vPPB of each way in a byte of `targets`, and the control bits. -/
structure HdmDecoder where
  base : Nat := 0
  tiles : Nat := 0
  ig : Nat := 0
  iw : Nat := 0
  lock : Bool := false
  commit : Bool := false
  committed : Bool := false
  error : Bool := false
  targets : U64 := 0
deriving DecidableEq, Repr

/-- An extent of the pool view: first translation entry and number of entries (R20). -/
structure Extent where
  tt : Nat := 0
  count : Nat := 1
  dpa : Nat := 0
  shareId : Nat := 0
  shared : Bool := false
deriving DecidableEq, Repr

/-- An Add Capacity event that the host has not answered: its extent, and the fabric time at which the answer is due (R32,
R237); none while the event waits for the host port's DL_UP after a warm reset (R404). -/
structure AddEvent where
  extent : Extent := {}
  due : Option Nat := none
deriving DecidableEq, Repr

/-- The pool view of a host port (R18, R237). -/
structure PoolView where
  logs : EventLogs := {}
  adds : List AddEvent := []
deriving DecidableEq, Repr

/-- Edge ports and virtual hierarchies. -/
structure Edge where
  ports : Tbl ({} : PortState) := .empty
  /-- binding of vPPB v of the VCS of host port p, at 32 p + v: (port, LD-ID) (R239, R240) -/
  binds : Tbl (none : Option (Nat × Nat)) := .empty
  pools : Tbl ({} : PoolView) := .empty
  /-- HDM decoder d of host port p's upstream switch port, at 8 p + d, for d from 1 to 7 (R236) -/
  hdms : Tbl ({} : HdmDecoder) := .empty
  /-- Bolroth has let the HOST ports train (R401) -/
  hostPortsStarted : Bool := false
deriving DecidableEq, Repr

end Sys2Proof.Machine
end

