-- ==== Sys2Proof/Machine/Data/Mgmt.lean ====
section
/-! DEFINITION. State of the management plane: mailboxes and tickets (spec/16), configuration versions and gossip
(spec/17), fuses, key store, debug and SPDM (spec/20), MCTP and I3C (spec/15), the xSPI flash (R436). -/

namespace Sys2Proof.Machine

/-- The registers of a HOST port's mailbox page (R360, R361). -/
structure Mbox where
  doorbell : Bool := false
  irqEn : Bool := false
  opcode : U16 := 0
  length : BitVec 21 := 0
  code : U16 := 0
  ticket : U16 := 0
  /-- input and output buffers behind MB_PAYLOAD (R361) -/
  input : List Byte := []
  output : List Byte := []
  /-- the ticket of a doorbell whose command Bolroth has not decoded yet (R362) -/
  latched : Option Nat := none
  /-- latched dwords of the page's wider registers (R5) -/
  latch : Tbl (none : Option U32) := .empty
deriving DecidableEq, Repr

/-- A command that a source has running (R362, R364, R365). -/
structure Running where
  src : CmdSrc
  tag : BitVec 24 := 0
  ticket : Nat := 0
  instr : Instr
  /-- the object that an L command holds (R365): kind and number -/
  object : Option (Nat × Nat) := none
  /-- an INTENT record has been written -/
  intent : Bool := false
  /-- the command has begun: it waits as an L command -/
  started : Bool := false
deriving DecidableEq, Repr

/-- An answered MCTP request, kept for 1 s (R364; DESIGN CHOICE, log entry 63). -/
structure Stored where
  instr : Instr
  src : CmdSrc
  tag : BitVec 24 := 0
  done : Nat := 0
  ticket : Nat := 0
  code : Nat := 0
  payload : List Byte := []
deriving DecidableEq, Repr

/-- A ticket's record in the gateway (R372) and the source it was issued to. -/
structure TicketRec where
  /-- JOURNAL_TAIL at its latest issue -/
  tail : U32 := 0
  src : Option CmdSrc := none
deriving DecidableEq, Repr

/-- Commit phases (R384). -/
inductive Phase where
  | idle | validating | writing | flipped | rollingBack
deriving DecidableEq, Repr

/-- A change of live or single-copy entries that a commit made, kept for a rollback (R387). -/
structure Undo where
  /-- home tile map entries that the commit changed: entry before and after -/
  tiles : List (Nat × HtEntry × HtEntry) := []
  /-- translation entries that the commit changed: entry before and after -/
  tts : List (Nat × TtEntry × TtEntry) := []
deriving DecidableEq, Repr

/-- Configuration versions (R381, R384). -/
structure Versions where
  /-- the three image slots of the store: bytes beyond the list are 0 -/
  slots : Tbl ([] : List Byte) := .empty
  staged : Option Nat := none
  /-- bytes of the staged image: the highest offset written since its first write -/
  stagedLen : Nat := 0
  current : Option Nat := none
  previous : Option Nat := none
  digest : BitVec 256 := 0
  prevDigest : BitVec 256 := 0
  prevEpoch : U32 := 0
  phase : Phase := .idle
  /-- a commit whose flip is to come: the image slot, its command's ticket and its EPOCH -/
  toFlip : Option Nat := none
  confirmDeadline : Option Nat := none
  /-- the old epoch still has live transactions: its low byte, and the old and new epochs (R83) -/
  undrained : Option (Byte × U32 × U32) := none
  undo : Undo := {}
  /-- a warm reset met a commit in FLIPPED (R389) -/
  confirmLost : Bool := false
  /-- a rollback waits for R23 (R387): its cause -/
  rollback : Option Nat := none
  /-- translation entries to offer again once EMPTY (R33, R387) -/
  reoffer : List (Nat × TtEntry) := []
  /-- home tile map entries brought to ACTIVE that return to FREE once unused (R387) -/
  refree : List Nat := []
  /-- live values of home tile map entries that Bolroth has written into the current image (R382; log entry 45) -/
  liveImage : Tbl (none : Option HtEntry) := .empty
deriving DecidableEq, Repr

/-- The gossip table (R390): entries 1 to 15; entry 0 is this switch. -/
structure Gossip where
  entries : List DigestEntry := List.replicate 15 {}
  flags : BitVec 3 := 0
  /-- IDs of the entries whose AGE has been below 100 (R391) -/
  heard : List (BitVec 48) := []
deriving DecidableEq, Repr

/-- Fuses (R433). DEVICE_KEY stays in the key store and has no value here. -/
structure Fuses where
  fwKeyRevoke : BitVec 4 := 0
  svn : Byte := 0
  debugKey1 : Option (BitVec 384) := none
  debugRevoke : BitVec 2 := 0
deriving DecidableEq, Repr

/-- An SPDM session (R440): its transport, or the port of the device with which Bolroth holds it as requester (R244). -/
structure Session where
  src : Option SpdmSrc := none
  device : Option Nat := none
  finished : Bool := false
deriving DecidableEq, Repr

/-- Debug state (R447, R450). -/
structure Debug where
  enabled : Bool := false
  key : Bool := false
  expiry : Nat := 0
  /-- the bridge holds the crossbar grant (R350) -/
  hold : Bool := false
  /-- status of the last DBG_ACCESS: DONE, ERROR, DENIED, DISABLED -/
  status : BitVec 4 := 0
  data : U64 := 0
  /-- address and direction of the last FABRIC access -/
  addr : Nat := 0
  write : Bool := false
deriving DecidableEq, Repr

/-- An SPDM connection's negotiation on one transport (R440). -/
structure Spdm where
  version : Bool := false
  caps : Bool := false
  algs : Bool := false
deriving DecidableEq, Repr

/-- An I3C target port (R353). -/
structure I3c where
  dynAddr : Option (BitVec 7) := none
  /-- in-band interrupts start out enabled (PRESUMED of I3C Basic, log entry 23) -/
  ibiEnabled : Bool := true
  mwl : U16 := 256
  mrl : U16 := 256
deriving DecidableEq, Repr

/-- State of an IDE key slot (R434): filled, and in force since the key-set switch. -/
structure KeySlot where
  filled : Bool := false
  live : Bool := false
deriving DecidableEq, Repr

/-- The TAP's instructions (R449). -/
inductive TapInstr where
  | bypass | idcode | samplePreload | extest | clamp | highz | extestPulse | extestTrain | fuseProg | dbgAccess
deriving DecidableEq, Repr

/-- The management plane. -/
structure Mgmt where
  mbox : Tbl ({} : Mbox) := .empty
  ticket : U16 := 1
  tickets : Tbl ({} : TicketRec) := .empty
  running : List Running := []
  /-- the deferred command that `step` has taken up again (R365) -/
  resuming : Option Running := none
  stored : List Stored := []
  /-- Response Message Limit of each source (R369) -/
  msgLimit : Tbl (2048 : Nat) := .empty
  cfg : Versions := {}
  gossip : Gossip := {}
  fuses : Fuses := {}
  keystoreReady : Bool := false
  challenge : U64 := 0
  challengeNo : Nat := 0
  sessions : Tbl ({} : Session) := .empty
  spdm : Tbl ({} : Spdm) := .empty
  keys : Tbl ({} : KeySlot) := .empty
  bscanUsed : Bool := false
  /-- the TAP's instruction register (R449) -/
  tap : TapInstr := .idcode
  dbg : Debug := {}
  i3c0 : I3c := {}
  i3c1 : I3c := {}
  /-- EID of each MCTP transport (R355); 0 is unset -/
  eids : Tbl (0 : Byte) := .empty
  /-- bytes of the xSPI flash written by TRANSFER_FW; every other byte is the free value `Config.flashByte` (log entry
  30) -/
  flash : Tbl (none : Option Byte) := .empty
  /-- certificate chain of slot 1 (R441) -/
  ownerChain : List Byte := []
  /-- lock entries written at step 8, as bytes, for measurement 5 (R442) -/
  lockTable : List Byte := []
  /-- fabric time of the last IDE refresh -/
  ideRefreshed : Nat := 0
  /-- bytes of the logical store that a crossbar write has put where no other field of the state holds the contents, by
  logical address (R119) -/
  store : Tbl (none : Option Byte) := .empty
  /-- SRAM of the two pairs, by MGMT_CSR address (R347); it reads 0 where nothing has written (DESIGN CHOICE, log entry 3) -/
  sram : Tbl (0 : Byte) := .empty
  /-- dwords that a read of a register's lowest dword has latched, by MGMT_CSR address (R5, R266) -/
  latch : Tbl (none : Option U32) := .empty
deriving DecidableEq, Repr

end Sys2Proof.Machine
end

