-- ==== Sys2Proof/Machine/Data/Queues.lean ====
section
/-! DEFINITION. State of the work queues (spec/09) and of the migration engine (spec/10). -/

namespace Sys2Proof.Machine

/-- STATE of a queue pair (R181). -/
inductive QpState where
  | unassigned | disabled | enabled | haltedMalformed | haltedError | stopping
deriving DecidableEq, Repr

/-- A completion entry waiting to be written (R191). -/
structure Completion where
  status : Nat := 0
  gen : Byte := 0
  jobType : Nat := 0
  seq : U32 := 0
  result : BitVec 192 := 0
  irq : Bool := false
  /-- its descriptor holds a job slot until the entry is written -/
  slot : Bool := true
deriving DecidableEq, Repr

/-- A descriptor held in a job slot (R187). -/
structure Held where
  seq : U32
  desc : BitVec 512
  started : Bool := false
  /-- read behind a malformed one: never started (R187) -/
  unchecked : Bool := false
deriving DecidableEq, Repr

/-- Why a queue pair is STOPPING. -/
inductive StopKind where
  | reset | shutdown | quiesce | linkDown
deriving DecidableEq, Repr

/-- A stop under way (R196, R197): its kind, what the tail word holds, the ticket of its command, and how far it is. -/
structure Stop where
  kind : StopKind
  tail : HostRead U32
  ticket : Nat
  /-- the generation before the stop -/
  gen : Byte
  /-- step 2, the read of the tail word, is under way -/
  reading : Bool
  /-- step 5 is done: HEAD is TAIL, and the head word is written -/
  headDone : Bool := false
  /-- the tail that step 2 read -/
  upTo : U32 := 0
deriving DecidableEq, Repr

/-- A read of host memory that the engine waits for (R187, R192): how many descriptors or OWN bits it covers, and whether the read
has left the host port. -/
structure HostAsk where
  kind : WqRead
  count : Nat
  sent : Bool := false
deriving DecidableEq, Repr

/-- A CXL.io memory request of the management function that waits for its place in egress class IO of its host port (R187): the
tenant and generation it carries (R200), and the read of a queue pair that it makes. -/
structure HostReq where
  port : Nat
  msg : Msg
  units : Nat
  gen : Option (Nat × U16) := none
  ask : Option (Nat × WqRead) := none
deriving DecidableEq, Repr

/-- A queue pair context (R181) and the engine's registers for it. -/
structure Qp where
  state : QpState := .unassigned
  tenant : Nat := 0
  hostPort : Nat := 0
  dbPage : Nat := 0
  qpGen : Byte := 0
  sqLog2 : Nat := 0
  cqLog2 : Nat := 0
  jobMask : BitVec 7 := 0
  msix : Nat := 0
  maxJobs : Nat := 0
  dbPending : Bool := false
  tenantGen : U16 := 0
  running : Nat := 0
  sqBase : U64 := 0
  cqBase : U64 := 0
  tailAddr : U64 := 0
  headAddr : U64 := 0
  head : U32 := 0
  cqNext : U32 := 0
  haltSeq : U32 := 0
  -- the engine's registers
  held : List Held := []
  completions : List Completion := []
  /-- tail word last read, while descriptors below it are still to be fetched -/
  tailSeen : Option U32 := none
  /-- the next completion entry read OWN = 1 (R192) -/
  ownStalled : Bool := false
  /-- fabric time of a stalled engine's next reading of OWN (R192) -/
  ownDue : Nat := 0
  /-- completion entries from CQ_NEXT on that read OWN = 0 -/
  ownFree : Nat := 0
  /-- the read of a tail word or of descriptors, and the read of OWN bits, that the engine waits for -/
  ask : Option HostAsk := none
  askOwn : Option HostAsk := none
  /-- a failed OWN read has stopped completion writes until a reset or shutdown (R195) -/
  writesHeld : Bool := false
  /-- a link-down stop left the increment of QP_GEN to the next QUEUE_ENABLE (R199) -/
  genDeferred : Bool := false
  stop : Option Stop := none
  /-- a QUEUE_ENABLE that waits for the previous generation (R183): its set-up and its ticket -/
  enabling : Option (QueueSetup × Nat) := none
deriving DecidableEq, Repr

/-- PHASE of a migration slot (R208). -/
inductive MigPhase where
  | copy | noCache | hold | finish | aborting
deriving DecidableEq, Repr

/-- What a slot's job waits for. -/
inductive MigWait where
  /-- transactions that copied the entry before it became MIGRATING (R212) -/
  | readers
  /-- line copies of the pass -/
  | lines
  /-- writes past TRANSLATE, in a hold (R214, R227) -/
  | writers
  /-- OUT of the old WPHASE, before the swept lines are copied (R212) -/
  | phase (w : Bool)
  /-- the pass has ended and another sweep follows -/
  | ended
  /-- the pass has converged: a switchover follows (R214) -/
  | canSwitch
  /-- VICTIM_EVICT transactions of NO_CACHE (R216) -/
  | evicts
  /-- marked writes after an abort (R225) -/
  | drain
deriving DecidableEq, Repr

/-- A migration slot (R208) and the progress of its job (R206, R212, R220). -/
structure MigSlot where
  valid : Bool := false
  jobType : Nat := 0
  phase : MigPhase := .copy
  wphase : Bool := false
  srcTile : Nat := 0
  dstRank : Nat := 0
  dstTile : Nat := 0
  qp : Nat := 0
  descSeq : U32 := 0
  pass : Nat := 0
  dirtyLast : Nat := 0
  out0 : Nat := 0
  out1 : Nat := 0
  start : Nat := 0
  -- the job's body and progress
  qpGen : Byte := 0
  /-- NO_CACHE has been entered (R216) -/
  noCache : Bool := false
  zeroReleased : Bool := false
  repair : Bool := false
  maxPasses : Nat := 8
  converge : Nat := 256
  before : HtEntry := {}
  wait : MigWait := .readers
  /-- passes completed -/
  passes : Nat := 0
  /-- line ranges (first, count) still to copy or check in this pass -/
  work : List (Nat × Nat) := []
  /-- lines with a copy in flight -/
  inflight : List Nat := []
  /-- lines that this pass took up -/
  passLines : Nat := 0
  lines : U32 := 0
  flagged : List Nat := []
  holdStart : Nat := 0
  /-- the sweep inside a hold has been made (R214) -/
  final : Bool := false
  /-- lines to check again in the next pass of a VERIFY_TILE, or to evict in NO_CACHE -/
  again : List Nat := []
  /-- primary data read by a VERIFY_TILE, by line -/
  seen : List (Nat × Line × Bool) := []
  evicts : Nat := 0
  /-- STATUS × 256 + REASON with which the job ends once its transactions have ended -/
  failing : Option Nat := none
deriving DecidableEq, Repr

/-- A tile being written with zeros or poison: a ZERO_TILE job or the zeroing of a released place (R209, R218). -/
structure ZeroJob where
  tile : Nat
  /-- queue pair and DESC_SEQ of a ZERO_TILE -/
  job : Option (Nat × U32 × Byte) := none
  poison : Bool := false
  wasLost : Bool := false
  mirrored : Bool := false
  next : Nat := 0
  inflight : List Nat := []
  lines : U32 := 0
  failed : Option Nat := none
  /-- TILE_MOVED_RELEASE or ZERO_RELEASED, not a ZERO_TILE -/
  release : Bool := false
  /-- the queue pair under which its writes run (R203): 4096 for none -/
  owner : Nat := 4096
  /-- writes to make again, with their place: 0 primary, 1 mirror (R225) -/
  redo : List (Nat × Nat) := []
  complete : Bool := false
deriving DecidableEq, Repr

/-- The work-queue engines and the migration engine. -/
structure Wq where
  qps : Tbl ({} : Qp) := .empty
  slots : Tbl ({} : MigSlot) := .empty
  /-- the on-die summaries at 2048 × slot + block (R211) -/
  summary : Tbl false := .empty
  zeros : List ZeroJob := []
  /-- requests to host memory that have no place in a queue yet, in order -/
  out : List HostReq := []
  /-- the queue pair whose descriptors were read last (R187) -/
  turn : Nat := 0
deriving DecidableEq, Repr

end Sys2Proof.Machine
end

