-- ==== Sys2Proof/Machine/Data/Slot.lean ====
section
/-! DEFINITION. State of the slot-power channels (spec/14). -/

namespace Sys2Proof.Machine

/-- States of a channel (R318). -/
inductive SlotState where
  | idle | seating | seated | ramp | on | stopping | cooldown | latched
deriving DecidableEq, Repr

/-- What GATE_n does (R319). -/
inductive GateDrive where
  | held | regulated | enhanced
deriving DecidableEq, Repr

/-- Parameters of a SLOT_POWER record (R314), with their defaults. -/
structure SlotParam where
  present : Bool := false
  enable : Bool := false
  shunt : Nat := 2000
  autoOn : Bool := true
  /-- (mA, µs) of points 0 to 7 -/
  curve : List (Nat × Nat) :=
    [(5500, 10000000), (6050, 2000000), (6875, 500000), (7700, 100000), (8525, 20000), (9350, 5000), (10175, 1000),
     (11000, 200)]
  iLimit : Nat := 11000
  fastTrip : Nat := 16500
  pLimit : Nat := 10000
  rampFault : Nat := 20000
  onFault : Nat := 1000
  rampTimeout : Nat := 100
  pgFilter : Nat := 10
  autoRetry : Bool := false
  retryMax : Nat := 3
  cooldownMin : Nat := 100
  debounce : Nat := 20
  removeNs : Nat := 1000
  vinUv : Nat := 10800
  vinOv : Nat := 13200
  perstLead : Nat := 1000
deriving DecidableEq, Repr

/-- One channel: SLOT_STATUS, SLOT_MEAS, SLOT_ENERGY, SLOT_FAULT (R332) and what its control loop holds. -/
structure Channel where
  state : SlotState := .idle
  /-- PRSNT_N_n is low -/
  prsntLow : Bool := false
  present : Bool := false
  pg : Bool := false
  limiting : Bool := false
  gateOk : Bool := false
  /-- I_SET of the regulator, in mA (R320) -/
  iSet : Nat := 0
  fmOn : Bool := false
  /-- PERST_N_n, PWRIND_N_n, ATNIND_N_n (R319): 0 off, 1 on, 2 blink -/
  perstHigh : Bool := false
  gate : GateDrive := .held
  pwrInd : BitVec 2 := 0
  atnInd : BitVec 2 := 0
  retry : BitVec 4 := 0
  energyWrap : Bool := false
  current : U16 := 0
  vin : U16 := 0
  vout : U16 := 0
  /-- the 80-bit sum (R331) -/
  energy : BitVec 80 := 0
  fault : BitVec 9 := 0
  point : BitVec 3 := 0
  tripI : U16 := 0
  tripVout : U16 := 0
  onTime : U16 := 0
  /-- fault timer, in ticks -/
  faultTicks : Nat := 0
  /-- breaker counters (R323) -/
  breaker : List Nat := List.replicate 8 0
  /-- cool-down of an UNDERVOLTAGE or OVERVOLTAGE trip: it ends with VIN in its window (R326) -/
  waitVin : Bool := false
  /-- the cool-down time is over -/
  cooled : Bool := false
  /-- fabric time of PG (R249, R326) -/
  pgAt : Nat := 0
  /-- fabric time at which the state's timer ends: SEAT_DEBOUNCE_MS, ramp timeout, PERST_LEAD_US or cool-down -/
  timer : Nat := 0
  /-- the role of the channel's port under the last committed settings (R311, R333) -/
  role : Role := .disabled
deriving DecidableEq, Repr

/-- The slot-power die. -/
structure Slots where
  chans : Tbl ({} : Channel) := .empty
  params : Tbl ({} : SlotParam) := .empty
  /-- tick up to which the energy sums are kept -/
  upTo : Nat := 0
deriving DecidableEq, Repr

end Sys2Proof.Machine
end

