-- ==== Sys2Proof/Machine/Data/Sys.lean ====
section
/-! DEFINITION. State of the whole part: mode, resets, pins, fabric time, thermal, rail and die-to-die status (spec/18,
spec/21), the management pairs, the journal and the crossbar arbiter (spec/15). -/

namespace Sys2Proof.Machine

/-- Operating modes (R13). -/
inductive Mode where
  | reset | prepare | provision | service | degraded | handover | drain | safe
deriving DecidableEq, Repr

/-- States of a management pair (R338). -/
inductive PairState where
  | off | booting | syncing | standbyReady | active | fenced | retired
deriving DecidableEq, Repr

/-- RESET_STATUS (R412). -/
structure ResetStatus where
  kind : BitVec 3 := 0
  slot0Ok : Bool := false
  slot1Ok : Bool := false
  bootSlot : Bool := false
  fallback : Bool := false
  bootConfirmed : Bool := false
  prepareStep : BitVec 4 := 0
  safeCause : BitVec 4 := 0
  warmCount : U16 := 0
deriving DecidableEq, Repr

/-- Output pins of the core die (R411, R456, R467): true is asserted. -/
structure Pins where
  safeN : Bool := false
  thermWarnN : Bool := false
  thermtripN : Bool := false
deriving DecidableEq, Repr

/-- THERMAL_STATUS and the THERMTRIP latch (R456, R458). -/
structure Thermal where
  now : Byte := 0
  peak : Byte := 0
  hot : BitVec 5 := 0
  warn : Bool := false
  trip : Bool := false
deriving DecidableEq, Repr

/-- TIME_IN (R463): the last edge, presence, lock, missed edges and error. -/
structure Pps where
  present : Bool := false
  locked : Bool := false
  missed : Byte := 0
  error : Int := 0
  /-- fabric time of the last edge -/
  last : Option Nat := none
  /-- consecutive edges with |δ| < 50 ns -/
  good : Nat := 0
deriving DecidableEq, Repr

/-- A die-to-die link (R465). -/
structure DieLink where
  repaired : BitVec 4 := 0
  up : Bool := false
  modules : BitVec 3 := 0
deriving DecidableEq, Repr

/-- A management pair's registers (PAIR_CTRL, R356) and the engine's view of it. -/
structure PairRegs where
  wdtPeriod : BitVec 10 := 100
  imageSlot : Bool := false
  imageVersion : U32 := 0
  /-- SECURITY_VERSION and REVOKE_MASK of the image it runs (R436, R439) -/
  svn : Byte := 0
  revoke : BitVec 4 := 0
  /-- fabric time of the last watchdog restart -/
  kicked : Nat := 0
  /-- fabric time since which the pair is SYNCING -/
  since : Nat := 0
  /-- applied SEQ (R341), in the last 64 B of its SRAM -/
  applied : U32 := 0
deriving DecidableEq, Repr

/-- A journal record (R340): SEQ is its index; BODY is Bolroth's own. -/
structure JRec where
  type : Byte := 0
  ticket : U16 := 0
  seq : U32 := 0
  /-- return code of an END record -/
  code : U16 := 0
  /-- fabric time of its writing (R342) -/
  at_ : Nat := 0
deriving DecidableEq, Repr

/-- DRAIN_STATUS (R409) and the plan's subjects: (tile, destination rank, destination tile, tries). -/
structure Drain where
  total : Nat := 0
  moved : Nat := 0
  short : Nat := 0
  done : Bool := false
  cancelled : Bool := false
  plan : List (Nat × Nat × Nat × Nat) := []
  /-- subjects with a job running, behind 0 for a MIRROR_SPLIT and 1 for a COPY_TILE -/
  running : List (Nat × (Nat × Nat × Nat × Nat)) := []
deriving DecidableEq, Repr

/-- A live-log record (R403): an entry written by the migration engine, or a walk of a port. -/
inductive LiveRec where
  | entry (tile : Nat) (word : BitVec 128)
  | walk (port : Nat)
deriving DecidableEq, Repr

/-- System state. -/
structure Sys where
  pairA : PairState := .off
  pairB : PairState := .off
  mode : Mode := .reset
  ft : Nat := 0
  /-- SERVICE has been entered since the last reset (R14) -/
  served : Bool := false
  /-- the last reset was warm and SERVICE has not been entered since (R405) -/
  warmPending : Bool := false
  /-- fabric time at which the 10 s of R401 end -/
  hostStartDue : Option Nat := none
  /-- PREPARE stopped by a boundary-scan instruction (R449) -/
  stopped : Bool := false
  status : ResetStatus := {}
  pins : Pins := {}
  thermal : Thermal := {}
  /-- bits 0 VDD_CORE, 1 VDD_SERDES, 2 VDD_GDDR, 3 VDD_AUX (R458) -/
  railPg : BitVec 4 := 0
  railFault : BitVec 3 := 0
  pps : Pps := {}
  /-- rate adjustment in ppb (R304, R463), and the part of a nanosecond, in 10⁻⁹ ns, that ticks have left over -/
  ppb : Int := 0
  frac : Nat := 0
  links : List DieLink := List.replicate 6 {}
  /-- retired units (R406): die-to-die links of edge I/O dies 0 to 3, the trunk I/O die and the slot-power die -/
  dieLost : BitVec 6 := 0
  /-- pairs that count as retired: bit 0 A, bit 1 B (R338) -/
  pairRetired : BitVec 2 := 0
  regsA : PairRegs := {}
  regsB : PairRegs := {}
  activePair : Bool := false
  leader : Bool := false
  handoverCause : BitVec 3 := 0
  handoverCount : U32 := 0
  /-- a handover is under way: fabric time of its start -/
  handover : Option Nat := none
  -- journal (R340)
  journalTail : U32 := 0
  journal : Tbl ({} : JRec) := .empty
  -- arbiter (R349, R356); OWNER 7 is none
  owner : BitVec 3 := 7
  windowGrants : BitVec 6 := 0
  /-- grants taken by each high-priority master in the window -/
  grants : List Nat := List.replicate 6 0
  masked : BitVec 6 := 0
  /-- fabric time since which the present grant is held, and the accesses made under it (R350) -/
  heldSince : Nat := 0
  heldCount : Nat := 0
  /-- back-off count of each master -/
  backoff : List Nat := List.replicate 6 4
  /-- the last master granted at the high and the low level -/
  lastHigh : Nat := 5
  lastLow : Nat := 5
  drain : Drain := {}
  /-- live log: records not yet drained, oldest first; records of the ring already drained -/
  liveLog : List LiveRec := []
deriving DecidableEq, Repr

end Sys2Proof.Machine
end

