-- ==== Sys2Proof/Machine/Data/Trunk.lean ====
section
/-! DEFINITION. State of the trunks: parameters (R264, R306), bring-up and lanes (spec/12), the Qoray link layer
(spec/13). -/

namespace Sys2Proof.Machine

/-- Bring-up states (R257). -/
inductive TrunkPhase where
  | off | lock | measure | announce | init | active | held
deriving DecidableEq, Repr

/-- Parameters of a TRUNK record (R264, R306), with their defaults. -/
structure TrunkParam where
  present : Bool := false
  enable : Bool := false
  /-- 0 32 GT/s, 1 64 GT/s, 2 128 GT/s -/
  rate : Nat := 2
  compat : Bool := false
  lockTimeoutNs : Nat := 10000000
  measNs : Nat := 1000000
  acceptPpb : Nat := 10000
  sparePpb : Nat := 10000
  qualityNs : Nat := 10000000
  initNs : Nat := 1000000
  retryNs : Nat := 10000000
  expectId : Nat := 0
  expectRank : Option Nat := none
  ackNs : Nat := 250
  replayNs : Nat := 3000
  replayLimit : Nat := 4
  failoverNs : Nat := 100000
  timeNs : Nat := 100000
deriving DecidableEq, Repr

/-- A receive lane's quality block (R266), and its run of intervals above SPARE_PPB (R268). -/
structure LaneQ where
  prbsErrors : U32 := 0
  prbsKbits : U32 := 0
  fecCorr : U32 := 0
  /-- kilobits carried in the last quality interval -/
  fecKbits : Nat := 0
  bad : Nat := 0
deriving DecidableEq, Repr

/-- A message as a trunk carries it: its class, the transaction that sent it, if that waits for an answer. -/
structure TrunkMsg where
  cls : Nat
  msg : Msg
  txn : Option Nat := none
deriving DecidableEq, Repr

/-- A sequenced flit in the replay buffer (R280). -/
structure TxFlit where
  seq : BitVec 12
  /-- 2 PAYLOAD, 3 LANE_CTL, 7 LINK_CTL -/
  type : Nat
  msgs : List TrunkMsg := []
  body : List Nat := []
  /-- a fence waits for its acknowledgement (R294) -/
  fence : Bool := false
deriving DecidableEq, Repr

/-- The time root that a switch takes or advertises (R303). -/
structure RootKey where
  pps : Bool := false
  rankValid : Bool := false
  rank : Nat := 0
  id : BitVec 48 := 0
deriving DecidableEq, Repr

/-- One trunk. -/
structure Trunk where
  phase : TrunkPhase := .off
  -- lanes (R265, R266)
  rxSkip : Nat := 8
  txSkip : Nat := 8
  locked : BitVec 9 := 0
  holdReason : Nat := 0
  /-- SPARE: 0 READY, 1 UNFIT, 2 PENDING, 3 NONE -/
  spare : Nat := 0
  sparing : Option Nat := none
  lanes : List LaneQ := List.replicate 9 {}
  /-- the second window of R260 step 2 has been used in this attempt -/
  remeasured : Bool := false
  /-- an attempt has failed or the trunk is HELD: RETRY_DELAY runs -/
  retrying : Bool := false
  /-- hold reason already logged since the last success -/
  logged : Nat := 0
  /-- a valid INIT has been received in this attempt (ACKED) -/
  acked : Bool := false
  /-- in ACTIVE, INITs are still answered (R262) -/
  answerInit : Bool := false
  /-- retired since its failure (R299) -/
  retired : Bool := false
  -- partner (R265)
  partnerId : BitVec 48 := 0
  partnerRank : BitVec 4 := 0
  partnerRankValid : Bool := false
  partnerTrunk : BitVec 3 := 0
  -- transmit side (R280 to R285)
  next : BitVec 12 := 0
  oldest : BitVec 12 := 0
  replay : List TxFlit := []
  openFlit : List TrunkMsg := []
  expiries : Nat := 0
  /-- flit bits sent on each lane since bring-up: the scramblers' place (R253) -/
  flitBits : Nat := 0
  /-- flits sent since the last FILLER (R255) -/
  sinceFiller : Nat := 0
  /-- the last level that precoding sent on each physical lane (R253) -/
  levels : List Nat := []
  /-- the receive lane whose recovered clock the transmitters use, in compatibility mode (R256): none while they use the reference -/
  txClock : Option Nat := none
  /-- fabric time of the last periodic credit returns, and the counters that still owe one, bit by bit (R289) -/
  retAt : Nat := 0
  retDue : Nat := 0
  /-- bits of PRBS31 that passed before the first flit (R257) -/
  prbsStart : Nat := 0
  /-- the SKIP to steer to, in the next flit sent (R269) -/
  steerTo : Option Nat := none
  /-- LANE_CTL and LINK_CTL flits that wait for room in the replay buffer: (type, payload) -/
  ctl : List (Nat × List Nat) := []
  -- receive side
  expect : BitVec 12 := 0
  accepted : Bool := false
  nakOut : Bool := false
  nakDue : Bool := false
  sinceAck : Nat := 0
  ackDue : Bool := false
  -- credits (R287, R288), in the order of R300
  lim : List U16 := List.replicate 8 0
  used : List U16 := List.replicate 8 0
  ret : List U16 := List.replicate 8 0
  rcv : List U16 := List.replicate 8 0
  adv : List U16 := List.replicate 8 0
  advertised : List U16 := List.replicate 8 0
  retSent : List U16 := List.replicate 8 0
  crNext : Nat := 0
  leak : List Nat := List.replicate 8 0
  mismatch : List Nat := List.replicate 8 0
  -- moving traffic (R293 to R298)
  /-- MOVE: 0 none, 1 moved to the partner, 2 awaiting the FAILOVER report, 3 fence pending -/
  move : Nat := 0
  /-- the trunk whose flagged flits the fence waits for -/
  fenceOn : Option Nat := none
  resync : Bool := false
  /-- messages to resend on this trunk ahead of all others (R295) -/
  resend : List TrunkMsg := []
  -- time (R301 to R309)
  exch : Byte := 0
  t1 : Option Nat := none
  offset : Int := 0
  delay : Nat := 0
  partnerHops : Nat := 15
  partnerRoot : RootKey := {}
  /-- place of the rotation of DIGEST entries (R305) -/
  gossipNext : Nat := 0
deriving DecidableEq, Repr

/-- The trunks. -/
structure Trunks where
  trunks : Tbl ({} : Trunk) := .empty
  params : Tbl ({} : TrunkParam) := .empty
  /-- time parent (R303): none at the root -/
  parent : Option Nat := none
  root : RootKey := {}
  hops : Nat := 0
  /-- consecutive exchanges with |θ| < 50 ns, and SYNCED (R304) -/
  goodRuns : Nat := 0
  synced : Bool := false
deriving DecidableEq, Repr

end Sys2Proof.Machine
end

