-- ==== Sys2Proof/Machine/State.lean ====
section
/-! DEFINITION. The state of the CY640 as plain data, and its reset. -/

namespace Sys2Proof.Machine

/-- Why the block stops. The spec gives the CY640 no command that stops it: nothing raises this (safe). -/
inductive Fault where
  /-- Raised by nothing; safe. -/
  | none
deriving DecidableEq, Repr

/-- Why a command has no meaning. -/
inductive Refusal where
  /-- Raised by an arm of `exec` whose command is not modelled yet; safe. -/
  | notModelled (mnemonic : String)
deriving DecidableEq, Repr

/-- The state of the CY640. -/
structure State where
  sys : Sys := {}
  obs : Obs := {}
  tab : Tables := {}
  dp : Dp := {}
  dir : Dir := {}
  wq : Wq := {}
  edge : Edge := {}
  trk : Trunks := {}
  slots : Slots := {}
  mgmt : Mgmt := {}
  /-- how many free values have been taken (the model's own field; log entry 1) -/
  freeCtr : Nat := 0
  /-- commands that wait, first in first out -/
  pending : List Instr := []
deriving DecidableEq, Repr

/-- The machine right after reset: what the spec prints, and zero, none or empty where it prints nothing (DESIGN CHOICE, log entries 2
and 3). -/
def State.reset : State := {}

end Sys2Proof.Machine
end

