-- ==== Sys2Proof/Machine/Ops.lean ====
section
/-! DEFINITION. Shared operations: free values, outputs, fabric time, counters (R414 to R416), the Brittle log and its
freezes (R426 to R429), event logs (R237, R430), and the form of every command's effect. -/

namespace Sys2Proof.Machine

/-! ### Free values and outputs -/

/-- Take the next free value (log entry 1). -/
def State.free (s : State) : Nat × State := (Config.free s.freeCtr, { s with freeCtr := s.freeCtr + 1 })

/-- Something leaves the block. -/
def State.emit (s : State) (o : Out) : State := { s with obs.out := s.obs.out ++ [o] }

/-- The entries of a table outside a span. -/
def Tbl.without {α : Type} {d : α} (t : Tbl d) (base len : Nat) : Tbl d :=
  ⟨t.cells.filter fun c => !(decide (base ≤ c.1) && decide (c.1 < base + len))⟩

/-- A write of a span of the logical store makes both copies good (R120). -/
def State.cleanStore (s : State) (base len : Nat) : State :=
  { s with dir.flip0 := s.dir.flip0.without base len, dir.flip1 := s.dir.flip1.without base len }

/-- What the block itself writes at logical addresses replaces what a crossbar write put there. -/
def State.dropStore (s : State) (base len : Nat) : State :=
  State.cleanStore { s with mgmt.store := s.mgmt.store.without base len } base len

/-! ### Counters -/

/-- Counter i of an edge port (R414). -/
def portCtr (p i : Nat) : Nat := 64 * p + i
/-- Counter i of a trunk (R414). -/
def trunkCtr (t i : Nat) : Nat := 4096 + 64 * t + i
/-- Global counter g (R414). -/
def globalCtr (g : Nat) : Nat := 4608 + g
/-- Counter i of an egress point: an edge port's, or a trunk's with its own index (R416). -/
def pointCtr (x iPort iTrunk : Nat) : Nat := if x < 64 then portCtr x iPort else trunkCtr (x - 64) iTrunk

/-- Add n to a counter; OVF records a wrap (R414). -/
def Counter.add (c : Counter) (n : Nat) : Counter :=
  { c with value := c.value + BitVec.ofNat 48 n, ovf := c.ovf || decide (2 ^ 48 ≤ c.value.toNat + n) }

/-- Count n occurrences of an event without duration at fabric time ft (R415): each in edge mode, one nanosecond in
level mode. -/
def Counter.event (c : Counter) (ft n : Nat) : Counter :=
  if c.level then (if n = 0 ∨ ft < c.upTo then c else { c.add 1 with upTo := ft + 1 }) else c.add n

/-- Count a SLOT_TRIP of port p: in level mode the slot-power die adds in steps of 1,000, those of its 1 µs tick (R415). -/
def State.countTrip (s : State) (p : Nat) : State :=
  let trip (c : Counter) : Counter :=
    if ¬ c.level then c.add 1
    else if s.sys.ft < c.upTo then c
    else { c.add 1000 with upTo := (s.sys.ft / 1000 + 1) * 1000 }
  { s with obs.counters := s.obs.counters.upd (portCtr p 38) trip }

/-- Count n occurrences. -/
def State.count (s : State) (c : Nat) (n : Nat := 1) : State :=
  { s with obs.counters := s.obs.counters.upd c (·.event s.sys.ft n) }

/-- Count one occurrence on a port, a trunk or a global counter. -/
def State.countPort (s : State) (p i : Nat) : State := s.count (portCtr p i)
/-- Count one occurrence on a trunk. -/
def State.countTrunk (s : State) (t i : Nat) : State := s.count (trunkCtr t i)
/-- Count one occurrence on a global counter. -/
def State.countGlobal (s : State) (g : Nat) : State := s.count (globalCtr g)

/-! ### Fabric time -/

/-- Let fabric time reach t: level-mode counters whose condition holds add the nanoseconds (R415). Fabric time is a 64-bit count; the
spec does not say what follows its last value: it goes on from 0 (DESIGN CHOICE, log entry 66). -/
def State.advanceTo (s : State) (t : Nat) : State :=
  if t ≤ s.sys.ft then s
  else
    let d := t - s.sys.ft
    let cs := s.obs.conds.foldl (fun cs c => cs.upd c fun k => if k.level then k.add d else k) s.obs.counters
    { s with sys.ft := t % 2 ^ 64, obs.counters := cs }

/-- Let d nanoseconds pass. -/
def State.pass (s : State) (d : Nat) : State := s.advanceTo (s.sys.ft + d)

/-- Fabric time in microseconds, modulo 2²⁰, as the transaction deadlines hold it (R77). -/
def usOf (ft : Nat) : BitVec 20 := BitVec.ofNat 20 (ft / 1000)

/-- Let fabric time reach the next microsecond at which a 20-bit deadline has been reached (R82). -/
def State.reachDeadline (s : State) (dl : BitVec 20) : State :=
  let d := (dl - usOf s.sys.ft).toNat
  if d < 2 ^ 19 then s.advanceTo ((s.sys.ft / 1000 + d) * 1000) else s

/-! ### Event logs -/

/-- Put a record into log i; on overflow the oldest record goes and the flag is set (R237). -/
def EventLogs.push (l : EventLogs) (i : Nat) (kind : Nat) (data : List Nat) : EventLogs :=
  let old := l.logs.getD i []
  let r : EventRecord := { handle := l.nextHandle, kind := kind, data := data }
  let full := 256 ≤ old.length
  { l with
    logs := l.logs.set i ((if full then old.drop 1 else old) ++ [r])
    overflow := l.overflow.set i (l.overflow.getD i false || full)
    nextHandle := l.nextHandle + 1 }

/-- Interrupt setting of log i: one byte a log; mode 1 in bits [1:0] sends MSI or MSI-X with the message number in
bits [7:4] (PRESUMED from CXL 3.1, log entry 20). -/
def EventLogs.vector (l : EventLogs) (i : Nat) : Option Nat :=
  let b := field l.policy.toNat (8 * i) 8
  if field b 0 2 = 1 then some (field b 4 4) else none

/-- Send the interrupt of log i on host port p, if its policy asks for one. -/
def State.notifyLog (s : State) (l : EventLogs) (p i : Nat) : State :=
  match l.vector i with
  | some v => s.emit (.msix p v)
  | none => s

/-- Queue a record in log i of the pool view of host port p (R28, R237). -/
def State.poolEvent (s : State) (p i kind : Nat) (data : List Nat) : State :=
  let pv := s.edge.pools.get p
  let s := { s with edge.pools := s.edge.pools.set p { pv with logs := pv.logs.push i kind data } }
  s.notifyLog pv.logs p i

/-- Queue a vendor record in a management function event log (R430): MSI-X to each FM_PORTS host with its link up. -/
def State.mgmtEvent (s : State) (i kind : Nat) (data : List Nat) : State :=
  let s := { s with obs.mgmtLogs := s.obs.mgmtLogs.push i kind data }
  ((bitList s.tab.policy.fmPorts.toNat 64).filter fun p => (s.edge.ports.get p).dlUp).foldl
    (fun s p => s.notifyLog s.obs.mgmtLogs p i) s

/-! ### The Brittle log -/

/-- Arguments of a log entry, packed little-endian: (bytes, value) in the order of R428. -/
def logArgs (l : List (Nat × Nat)) : BitVec 128 := BitVec.ofNat 128 (pack (l.map fun a => (8 * a.1, a.2)))

/-- Write an entry at NEXT (R426) and report it as an alert when its severity asks for it (R430). -/
def State.writeEntry (s : State) (type : U16) (sev : Nat) (args : BitVec 128) : State :=
  let st := s.obs.status
  let e : LogEntry := { time := s.sys.ft, type := type, sev := BitVec.ofNat 2 sev, seq := st.written, args := args }
  let st' := { st with next := st.next + 1, wrapped := st.wrapped || st.next == 0xFFFF, written := st.written + 1 }
  let s := { s with obs.log := s.obs.log.set st.next.toNat e, obs.status := st' }
  let s := if s.obs.select.telemEnable && s.obs.select.telemLog then
      { s with obs.telemEntries := s.obs.telemEntries ++ [e] } else s
  if s.obs.select.alertSev ≤ sev then
    let s := { s with obs.alert0 := some st.written, obs.alert1 := some st.written }
    s.mgmtEvent sev 4 [st.written.toNat, type.toNat, args.toNat]
  else s

/-- Freeze the log at once with a cause (R427): the FREEZE entry, then FROZEN; the archive copy starts, except on a
warm reset, where it runs after the fill (R429). -/
def State.freezeNow (s : State) (cause used : Nat) : State :=
  let s := s.writeEntry 0x050C 0 (logArgs [(1, cause), (2, used)])
  { s with
    obs.status := { s.obs.status with
      frozen := true, archiving := decide (cause ≠ 3), freezeCause := BitVec.ofNat 4 cause }
    obs.pendingFreeze := none, obs.freezeTime := s.sys.ft, obs.archived := false }

/-- An always-on freeze cause (R427, R431). -/
def State.freezeAlways (s : State) (cause : Nat) : State :=
  if s.obs.status.frozen then
    (if s.obs.status.archiving then { s with obs.freezeAfter := some cause } else s)
  else
    let used := match s.obs.pendingFreeze with
      | some (_, left) => s.obs.select.postEntries - left
      | none => 0
    s.freezeNow cause used

/-- Take the freeze whose POST_ENTRIES have been written (R427). -/
def State.freezeDue (s : State) : State :=
  match s.obs.pendingFreeze with
  | some (cause, 0) => s.freezeNow cause s.obs.select.postEntries
  | _ => s

/-- A maskable freeze cause (R427). -/
def State.freezeMaskable (s : State) (cause : Nat) : State :=
  if ¬ s.obs.select.freezeMask.testBit cause then s
  else if s.obs.status.frozen || s.obs.pendingFreeze.isSome || decide (s.sys.ft < s.obs.holdoffEnd) then
    s.countGlobal 229
  else { s with obs.pendingFreeze := some (cause, s.obs.select.postEntries) }

/-- Log an event: while the log is frozen it is only counted in LOG_LOST. A maskable freeze whose POST_ENTRIES have been
written is taken before the next entry, at the latest (R427). -/
def State.log (s : State) (type : U16) (sev : Nat) (args : List (Nat × Nat)) : State :=
  let s := s.freezeDue
  if s.obs.status.frozen then s.countGlobal 230
  else
    let s := s.writeEntry type sev (logArgs args)
    match s.obs.pendingFreeze with
    | some (cause, n + 1) => { s with obs.pendingFreeze := some (cause, n) }
    | _ => s

/-! ### Ports and trunks -/

/-- State of edge port p. -/
def State.port (s : State) (p : Nat) : PortState := s.edge.ports.get p
/-- Change the state of edge port p. -/
def State.updPort (s : State) (p : Nat) (f : PortState → PortState) : State :=
  { s with edge.ports := s.edge.ports.upd p f }
/-- Trunk t. -/
def State.trunk (s : State) (t : Nat) : Trunk := s.trk.trunks.get t
/-- Change trunk t. -/
def State.updTrunk (s : State) (t : Nat) (f : Trunk → Trunk) : State :=
  { s with trk.trunks := s.trk.trunks.upd t f }

/-- The current bank (R59). -/
def Tables.bank (t : Tables) (b : Bool) : Bank := if b then t.bank1 else t.bank0
/-- The tables of the current epoch. -/
def State.bank (s : State) : Bank := s.tab.bank s.tab.cur
/-- This switch's rank; 0 before an IDENTITY record names it. -/
def State.rank (s : State) : Nat := s.tab.ident.rank
/-- Parameters of ingress point x. -/
def State.param (s : State) (x : Nat) : PortParam := s.tab.ports.get x

/-- Is point x (a port's link, or a trunk) up? -/
def State.pointUp (s : State) (x : Nat) : Bool :=
  if x < 64 then (s.port x).dlUp else (s.trunk (x - 64)).phase == .active

/-- The data plane serves: SERVICE has been entered and the mode is not RESET or SAFE (R14). -/
def State.serving (s : State) : Bool :=
  s.sys.served && (s.sys.mode == .service || s.sys.mode == .degraded || s.sys.mode == .handover
    || s.sys.mode == .drain)

end Sys2Proof.Machine
end

