-- ==== Sys2Proof/Machine/Operands.lean ====
section
/-! DEFINITION. Operand forms of the data plane: classes and opcodes (R43, R44), what a message costs and stores
(R67, R159), what a request wants and needs (R98, R142), and table entries as words (R21, R24, R29, R35, R90, R103,
R143, R161, R163, R172). -/

namespace Sys2Proof.Machine

/-! ### Classes and opcodes -/

/-- Number of a message class (R43). -/
def clsNo : MsgClass → Nat
  | .mreq => 0 | .mwr => 1 | .snp => 2 | .biconf => 3 | .rsp => 4 | .cache => 5 | .io => 6 | .internal => 7

/-- Number of an origin: 0 to 63 the edge ports, 64 to 71 the trunks. -/
def originNo : Origin → Nat
  | .port p => p.val
  | .trunk t => 64 + t.val

/-- Ingress points of the internal masters (R70). -/
def xMigration : Nat := 72
/-- HOME. -/
def xHome : Nat := 73
/-- MGMT. -/
def xMgmt : Nat := 74
/-- SCRUB. -/
def xScrub : Nat := 75
/-- TELEMETRY. -/
def xTelemetry : Nat := 76

/-- Opcodes of class INTERNAL (R44). -/
def opNaRead : Nat := 0x00
/-- COPY_WRITE. -/
def opCopyWrite : Nat := 0x01
/-- ZERO_WRITE. -/
def opZeroWrite : Nat := 0x02
/-- VERIFY_READ. -/
def opVerifyRead : Nat := 0x03
/-- VICTIM_EVICT. -/
def opVictimEvict : Nat := 0x08
/-- ENTRY_REBUILD. -/
def opEntryRebuild : Nat := 0x09
/-- MGMT_READ. -/
def opMgmtRead : Nat := 0x0C
/-- MGMT_WRITE. -/
def opMgmtWrite : Nat := 0x0D

/-- Opcodes of class RSP (R44): FABRIC_ERR. -/
def opFabricErr : Nat := 0x20
/-- MemData. -/
def opMemData : Nat := 0x08
/-- BIConflictAck. -/
def opBiConflictAck : Nat := 0x04

/-- Is (class, opcode) a writeback's class with a line to write (R107)? -/
def isWrite (cls op : Nat) : Bool := cls == 1 && (op == 1 || op == 2)

/-- Is the request one that expects data back (R50)? -/
def isRead (cls op : Nat) : Bool :=
  (cls == 0 && (op == 1 || op == 2)) || (cls == 7 && (op == 0 || op == 3 || op == 0x0C))

/-- Is the request one that expects a completion without data (R50)? -/
def wantsCmp (cls op : Nat) : Bool :=
  isWrite cls op || (cls == 0 && (op == 0 || op == 9 || op == 0xA)) || (cls == 7 && (op == 1 || op == 2 || op == 0xD))

/-- Is a CXL.io TLP one that expects a completion: a memory read, an I/O or a configuration request? -/
def ioWantsCpl (op : Nat) (payload : List Byte) : Bool := (op == 0 && payload.isEmpty) || op == 1 || op == 2

/-- Units of a record (R67). -/
def unitsOf (cls op : Nat) (m : Msg) : Nat :=
  if cls = 6 then 2 + (m.payload.length + 15) / 16
  else if cls = 1 then (if op = 2 then 6 else 5)
  else if cls = 4 ∧ (op = 8 ∨ op = 9) then 5
  else if cls = 5 ∧ ¬ m.payload.isEmpty then 5
  else if cls = 7 ∧ (op = 1 ∨ op = 2 ∨ op = 0xD) then 5
  else 1

/-- Cost of a request message in bytes (R159). -/
def costOf (cls op units : Nat) : Nat :=
  if cls = 6 then 16 * units
  else if cls = 0 then (if op = 1 ∨ op = 2 ∨ op = 8 then 80 else 16)
  else if cls = 1 then 80
  else if cls = 7 then 80
  else 16

/-- Wanted state of an M2S Req (R98). -/
def wantOf (op : Nat) (m : Msg) : Want :=
  if op = 2 then (if m.metaField = .meta0State ∧ m.metaValue = .any then .excl else .shared)
  else match m.metaField with
    | .meta0State => (match m.metaValue with | .invalid => .none | .shared => .shared | .any => .excl)
    | .noOp => (match m.snpType with | .snpInv => .excl | .snpData => .shared | .snpCur => .none | .noOp => .none)

/-- What an access needs (R142): bit 0 READ, bit 1 WRITE. -/
def needsOf (cls op : Nat) (m : Msg) : Nat :=
  if cls = 0 then
    (if (op = 0 ∨ op = 1 ∨ op = 2 ∨ op = 9) ∧ wantOf op m = .excl then 3 else 1)
  else if cls = 1 then 2
  else if cls = 7 then (if op = 1 ∨ op = 2 ∨ op = 0xD then 2 else 1)
  else 1

/-- Egress class that METER's colour selects (R166). -/
def colourClass : Colour → Nat
  | .green => 2 | .yellow => 3 | .red => 6

/-- Bits of a colour (R77). -/
def colourNo : Colour → Nat
  | .green => 0 | .yellow => 1 | .red => 2

/-- Bits of a snoop's opcode (R44). -/
def snoopOp : Snoop → Nat
  | .cur => 0x10 | .data => 0x11 | .inv => 0x12

/-! ### Table entries as words -/

/-- ATTR from its bits (R29). -/
def attrOf : Nat → Attr
  | 0 => .priv | 1 => .sharedCoherent | 2 => .sharedReadonly | _ => .reserved
/-- Bits of ATTR. -/
def attrNo : Attr → Nat
  | .priv => 0 | .sharedCoherent => 1 | .sharedReadonly => 2 | .reserved => 3
/-- Bits of a translation entry's STATE (R29). -/
def ttNo : TtState → Nat
  | .empty => 0 | .offered => 1 | .active => 2 | .releasing => 3
/-- STATE of a home tile map entry from its bits (R35). -/
def htOf : Nat → HtState
  | 1 => .active | 2 => .migrating | 3 => .moved | 4 => .lost | 5 => .zeroing | _ => .free
/-- Bits of a home tile map entry's STATE. -/
def htNo : HtState → Nat
  | .free => 0 | .active => 1 | .migrating => 2 | .moved => 3 | .lost => 4 | .zeroing => 5

/-- Tenant entry from its word (R21). -/
def Tenant.ofNat (n : Nat) : Tenant :=
  { hostPort := field n 0 6, valid := n.testBit 6, privileged := n.testBit 7,
    windowFirst := field n 24 14, windowCount := field n 38 7 }
/-- The word of a tenant entry with its live GEN (R21). -/
def Tenant.toNat (t : Tenant) (gen : U16) : Nat :=
  pack [(6, t.hostPort), (1, b2n t.valid), (1, b2n t.privileged), (16, gen.toNat), (14, t.windowFirst),
    (7, t.windowCount)]

/-- Window entry from its word (R24). -/
def Window.ofNat (n : Nat) : Window :=
  { baseTile := field n 0 36, tilesM1 := field n 36 20, ttBase := field n 56 20, tenant := field n 76 12,
    hostPort := field n 88 6, valid := n.testBit 94 }
/-- The word of a window entry (R24). -/
def Window.toNat (w : Window) : Nat :=
  pack [(36, w.baseTile), (20, w.tilesM1), (20, w.ttBase), (12, w.tenant), (6, w.hostPort), (1, b2n w.valid)]

/-- The word of a translation entry (R29). -/
def TtEntry.toNat (e : TtEntry) : Nat :=
  pack [(2, ttNo e.state), (2, attrNo e.attr), (4, e.homeRank), (19, e.homeTile), (1, 0), (16, e.shareId)]

/-- Home tile map entry from its word (R35). -/
def HtEntry.ofNat (n : Nat) : HtEntry :=
  { state := htOf (field n 0 3), attr := attrOf (field n 3 2), mirrored := n.testBit 5, singleCopy := n.testBit 6,
    pPort := field n 8 6, pTile := field n 14 24, mPort := field n 38 6, mTile := field n 44 24,
    migSlot := field n 68 10, fwdRank := field n 78 4, fwdTile := field n 82 19, shareId := field n 101 16 }
/-- The word of a home tile map entry (R35). -/
def HtEntry.toNat (e : HtEntry) : Nat :=
  pack [(3, htNo e.state), (2, attrNo e.attr), (1, b2n e.mirrored), (1, b2n e.singleCopy), (1, 0), (6, e.pPort),
    (24, e.pTile), (6, e.mPort), (24, e.mTile), (10, e.migSlot), (4, e.fwdRank), (19, e.fwdTile), (16, e.shareId)]

/-- Sharer slot map entry from its word (R90). -/
def Sharer.ofNat (n : Nat) : Sharer := { rank := field n 0 4, port := field n 4 6, valid := n.testBit 10 }
/-- The word of a sharer slot map entry (R90). -/
def Sharer.toNat (e : Sharer) : Nat := pack [(4, e.rank), (6, e.port), (1, b2n e.valid)]

/-- The word of a snoop address map entry (R103). -/
def SnoopMap.toNat (e : SnoopMap) : Nat :=
  pack [(4, e.homeRank), (19, e.homeTile), (6, e.port), (20, e.ttIndex), (14, e.window), (1, b2n e.valid)]

/-- Region from its word (R143). -/
def Region.ofNat (n : Nat) : Region :=
  { valid := n.testBit 0, space := field n 1 3, read := n.testBit 4, write := n.testBit 5, rankMatch := n.testBit 6,
    rank := field n 7 4, tenantMatch := n.testBit 11, tenant := field n 12 12, base := field n 64 64,
    limit := field n 128 64 }
/-- The word of a region (R143). -/
def Region.toNat (r : Region) : Nat :=
  pack [(1, b2n r.valid), (3, r.space), (1, b2n r.read), (1, b2n r.write), (1, b2n r.rankMatch), (4, r.rank),
    (1, b2n r.tenantMatch), (12, r.tenant), (40, 0), (64, r.base), (64, r.limit)]

/-- A value with 0 standing for a default (R377). -/
def orDefault (n d : Nat) : Nat := if n = 0 then d else n

/-- Meter configuration from its word, with its defaults (R161, R377). -/
def MeterCfg.ofNat (n : Nat) : MeterCfg :=
  { meterEn := n.testBit 0, srtcm := n.testBit 1, shaperEn := n.testBit 2, cir := field n 8 22, pir := field n 32 22,
    cbs := field n 64 24, pbsEbs := field n 88 24, shapeRate := field n 128 22, shapeBurst := field n 152 24,
    flowWeight := orDefault (field n 176 8) 16, fqBurst := orDefault (field n 184 16) 2048,
    queueCap := orDefault (field n 200 9) 64 }
/-- The word of a meter configuration entry (R161). -/
def MeterCfg.toNat (m : MeterCfg) : Nat :=
  pack [(1, b2n m.meterEn), (1, b2n m.srtcm), (1, b2n m.shaperEn), (5, 0), (22, m.cir), (2, 0), (22, m.pir), (10, 0),
    (24, m.cbs), (24, m.pbsEbs), (16, 0), (22, m.shapeRate), (2, 0), (24, m.shapeBurst), (8, m.flowWeight),
    (16, m.fqBurst), (9, m.queueCap)]

/-- The word of a meter state entry (R163). -/
def MeterState.toNat (m : MeterState) : Nat :=
  pack [(36, m.tc), (36, m.tpTe), (38, ofInt 38 m.ts), (2, 0), (48, m.last.toNat), (48, m.slast.toNat),
    (48, m.green.toNat), (48, m.yellow.toNat), (48, m.red.toNat)]

/-- Scheduler configuration from its word, with its defaults (R172, R377). -/
def SchedCfg.ofNat (n : Nat) : SchedCfg :=
  { wRequest := orDefault (field n 0 8) 128, wShared := orDefault (field n 8 8) 64, wIo := orDefault (field n 16 8) 32,
    wBulk := orDefault (field n 24 8) 24, wTelemetry := orDefault (field n 32 8) 8,
    wPair := [40, 48, 56, 64].map fun i => orDefault (field n i 8) 64, wMgmt := orDefault (field n 72 8) 16 }
/-- The word of a scheduler configuration block (R172). -/
def SchedCfg.toNat (c : SchedCfg) : Nat :=
  pack ([(8, c.wRequest), (8, c.wShared), (8, c.wIo), (8, c.wBulk), (8, c.wTelemetry)]
    ++ c.wPair.map (fun w => (8, w)) ++ [(8, c.wMgmt)])

/-- Gate list from the bytes of its record: the header of R174 and its entries. -/
def GateList.ofBytes (b : List Byte) : GateList :=
  let h := leNat (b.take 16)
  let len := field h 96 9
  { baseTime := field h 0 64, cycleTime := field h 64 30,
    entries := (List.range len).map fun i =>
      let e := leNat ((b.drop (16 + 8 * i)).take 8)
      (field e 0 8, field e 8 30) }
/-- The bytes of a gate list (R174). -/
def GateList.toBytes (g : GateList) : List Byte :=
  leBytes (pack [(64, g.baseTime), (30, g.cycleTime), (2, 0), (9, g.entries.length)]) 16
    ++ g.entries.flatMap fun e => leBytes (pack [(8, e.1), (30, e.2)]) 8

end Sys2Proof.Machine
end

