-- ==== Sys2Proof/Machine/ConfigImage.lean ====
section
/-! DEFINITION. Configuration images (R374 to R382): header, records, digest, and what the records of one rank decode
to. -/

namespace Sys2Proof.Machine

/-! ### Bytes -/

/-- n bytes of l from offset `off`; bytes beyond the list are 0. -/
def sliceOf (l : List Byte) (off n : Nat) : List Byte :=
  let b := (l.drop off).take n
  b ++ List.replicate (n - b.length) 0

/-- A byte string with the bytes from `off` replaced. -/
def patchBytes (l : List Byte) (off : Nat) (b : List Byte) : List Byte :=
  sliceOf l 0 off ++ b ++ l.drop (off + b.length)

/-- A table from a list of entries. -/
def Tbl.ofList {α : Type} [DecidableEq α] {d : α} (l : List (Nat × α)) : Tbl d :=
  l.foldl (fun t p => t.set p.1 p.2) .empty

/-! ### Header and records (R374, R375) -/

/-- Record types (R377). -/
inductive RecType where
  | identity | port | tenant | tileMap | accessRules | meter | schedule | gateList | recipeBank | slotPower | trunk
  | directoryPartition | counterSelect | securityPolicy
deriving DecidableEq, Repr

/-- A record type from its number. -/
def recTypeOf : Nat → Option RecType
  | 0x0001 => some .identity | 0x0010 => some .port | 0x0020 => some .tenant | 0x0030 => some .tileMap
  | 0x0040 => some .accessRules | 0x0050 => some .meter | 0x0060 => some .schedule | 0x0061 => some .gateList
  | 0x0070 => some .recipeBank | 0x0080 => some .slotPower | 0x0090 => some .trunk
  | 0x00A0 => some .directoryPartition | 0x00B0 => some .counterSelect | 0x00C0 => some .securityPolicy
  | _ => none

/-- The number of a record type. -/
def RecType.code : RecType → Nat
  | .identity => 0x0001 | .port => 0x0010 | .tenant => 0x0020 | .tileMap => 0x0030 | .accessRules => 0x0040
  | .meter => 0x0050 | .schedule => 0x0060 | .gateList => 0x0061 | .recipeBank => 0x0070 | .slotPower => 0x0080
  | .trunk => 0x0090 | .directoryPartition => 0x00A0 | .counterSelect => 0x00B0 | .securityPolicy => 0x00C0

/-- A record as it stands in an image. -/
structure CfgRec where
  type : Nat := 0
  scope : Nat := 0
  key : Nat := 0
  /-- byte offset in the image -/
  off : Nat := 0
  /-- the 16 B header -/
  head : List Byte := []
  body : List Byte := []
deriving DecidableEq, Repr

/-- The image header (R374). -/
structure ImageHead where
  magic : Nat := 0
  format : Nat := 0
  epoch : Nat := 0
  base : Nat := 0
  length : Nat := 0
  count : Nat := 0
  digest : Nat := 0
  rsvd : Nat := 0
deriving DecidableEq, Repr

/-- The header of an image. -/
def imageHead (img : List Byte) : ImageHead :=
  let n := leNat (sliceOf img 0 64)
  { magic := field n 0 32, format := field n 32 8, epoch := field n 64 32, base := field n 96 32, length := field n 128 32,
    count := field n 160 32, digest := field n 256 256, rsvd := field n 40 24 + field n 192 64 }

/-- A walk of the records ends well, or at a record that runs past the image's LENGTH. -/
inductive Walk where
  | ok (l : List CfgRec) (last : Nat)
  | past (r : CfgRec)

/-- Walk at most n records from offset `off`, whose bytes are `rest`, in an image of `len` bytes (R383, step 1). -/
def walkRecs (len : Nat) : Nat → Nat → List Byte → List CfgRec → Walk
  | 0, off, _, acc => .ok acc.reverse off
  | n + 1, off, rest, acc =>
    if off = len then .ok acc.reverse off
    else
      let head := sliceOf rest 0 16
      let h := leNat head
      let r : CfgRec := { type := field h 0 16, scope := field h 16 8, key := field h 64 64, off := off, head := head }
      let body := field h 32 32
      if len < off + 16 ∨ len < off + 16 + body then .past r
      else walkRecs len n (off + 16 + body) (rest.drop (16 + body)) ({ r with body := sliceOf rest 16 body } :: acc)

/-- The records of an image. -/
def imageWalk (img : List Byte) : Walk :=
  let h := imageHead img
  walkRecs h.length h.count 64 (img.drop 64) []

/-- The records of a sound image. -/
def imageRecs (img : List Byte) : List CfgRec :=
  match imageWalk img with
  | .ok l _ => l
  | .past _ => []

/-! ### The Sesame digest (R382) -/

/-- A TILE_MAP record of home entries. -/
def CfgRec.isHome (r : CfgRec) : Bool := r.type == 0x0030 && r.key.testBit 63

/-- A record's bytes with its live fields replaced by 0. -/
def CfgRec.digestBytes (r : CfgRec) : List Byte :=
  if r.type = 0x0020 then r.head ++ patchBytes r.body 1 [0, 0]
  else if r.isHome then
    let e := leNat (sliceOf r.body 8 16)
    r.head ++ patchBytes r.body 8 (leBytes (pack [(3, 0), (2, field e 3 2), (96, 0), (16, field e 101 16)]) 16)
  else r.head ++ r.body

/-- The digest of an image. -/
def imageDigest (l : List CfgRec) : BitVec 256 := sha256 (l.flatMap CfgRec.digestBytes)

/-- A digest as 32 bytes, the first first. -/
def digestOut (d : BitVec 256) : List Byte := beBytes d.toNat 32

/-- A digest from its 32 bytes as a little-endian number, as fields of commands and headers hold it. -/
def digestField (d : BitVec 256) : Nat := leNat (digestOut d)

/-! ### Bodies -/

/-- IDENTITY (R378). -/
def Ident.ofBody (rank : Nat) (b : List Byte) : Ident :=
  let n := leNat b
  { valid := true, rank := rank, route := (List.range 16).map fun d => field n (8 * d) 8
    completionMs := orDefault (field n 128 16) 16, addS := orDefault (field n 144 16) 10
    snoopUs := orDefault (field n 160 32) 4000, confirmS := orDefault (field n 192 16) 120 }

/-- ROLE of a PORT record (R235, R379). -/
def roleOf : Nat → Role
  | 1 => .host | 2 => .poolMember | 3 => .bound | 4 => .unbound | _ => .disabled

/-- Default cell limits (R71): of a trunk, or of an edge port by its width. -/
def cellDefaults (trunk : Bool) (width : Nat) : List Nat :=
  if trunk then [512, 1536, 256, 256, 1280, 0, 256, 0]
  else [96, 288, 48, 48, 192, 48, 48, 0].map (· * width)

/-- PORT (R379) of ingress point x, with the defaults of R71, R73, R80, R231 and R249. -/
def PortParam.ofBody (x : Nat) (b : List Byte) : PortParam :=
  let n := leNat b
  let trunk := decide (64 ≤ x)
  let w := field n 3 5
  { present := true, role := roleOf (field n 0 3), width := w, maxRate := field n 8 3, sris := n.testBit 11
    mld := n.testBit 12, ideRequired := n.testBit 13, ideMode := field n 14 2, l0pMin := orDefault (field n 16 5) w
    vppbCount := field n 21 6, txnQuota := orDefault (field n 32 32) (if trunk then 8192 else 1024 * w)
    expectedDsn := BitVec.ofNat 64 (field n 64 64), cdatLatency := orDefault (field n 128 16) 400
    perstDelayMs := orDefault (field n 144 16) 100, linkUpTimeoutMs := orDefault (field n 160 16) 1000
    ctDisable := field n 176 8
    cellLimit := (cellDefaults trunk w).zipIdx.map fun d => orDefault (field n (192 + 16 * d.2) 16) d.1
    queueLimit := (List.range 8).map fun q => orDefault (field n (320 + 16 * q) 16) 448
    decBaseTile := field n 448 36, decTilesM1 := field n 484 20 }

/-- A trunk point that no PORT record names has every default. -/
def trunkPointDefault : PortParam :=
  { cellLimit := cellDefaults true 0, txnQuota := 8192, queueLimit := List.replicate 8 448 }

/-- A tenant under an image (R377, R471). -/
structure TenantRec where
  number : Nat
  entry : Tenant
  qpCount : Nat
  windows : List (Nat × Window)
deriving DecidableEq, Repr

/-- TENANT. -/
def TenantRec.ofRec (r : CfgRec) : TenantRec :=
  let n := leNat (sliceOf r.body 0 8)
  let t := Tenant.ofNat n
  { number := r.key, entry := t, qpCount := field n 45 12
    windows := (List.range t.windowCount).map fun i => (t.windowFirst + i, Window.ofNat (leNat (sliceOf r.body (8 + 16 * i) 16))) }

/-- A TILE_MAP run: its first index, COUNT, FORCE and first entry. -/
structure RunRec where
  home : Bool
  first : Nat
  count : Nat
  force : Bool
  word : Nat
deriving DecidableEq, Repr

/-- TILE_MAP. -/
def RunRec.ofRec (r : CfgRec) : RunRec :=
  let h := leNat (sliceOf r.body 0 8)
  { home := r.isHome, first := field r.key 0 63, count := field h 0 32, force := h.testBit 32
    word := leNat (sliceOf r.body 8 (if r.isHome then 16 else 8)) }

/-- STATE of a translation entry as an image writes it: 1 is granted. -/
def TtEntry.ofNat (n : Nat) : TtEntry :=
  { state := if field n 0 2 = 1 then .offered else .empty, attr := attrOf (field n 2 2), homeRank := field n 4 4
    homeTile := field n 8 19, shareId := field n 28 16 }

/-- Entry i of a run of translation entries. -/
def RunRec.tt (r : RunRec) (i : Nat) : TtEntry :=
  let e := TtEntry.ofNat r.word
  { e with homeTile := e.homeTile + i }

/-- Entry i of a run of home tile map entries. -/
def RunRec.ht (r : RunRec) (i : Nat) : HtEntry :=
  let e := HtEntry.ofNat r.word
  { e with pTile := e.pTile + i, mTile := if e.mirrored then e.mTile + i else e.mTile }

/-- SLOT_POWER (R314): 34 values of 4 B; a value whose range excludes 0 and that is written 0 has its default. The current
limits follow point 0 of the curve (R320). -/
def SlotParam.ofBody (b : List Byte) : SlotParam :=
  let v (i : Nat) : Nat := leNat (sliceOf b (4 * i) 4)
  let base := orDefault (v 3) 5500
  let curve := ([(1000, 10000000), (1100, 2000000), (1250, 500000), (1400, 100000), (1550, 20000), (1700, 5000),
      (1850, 1000), (2000, 200)] : List (Nat × Nat)).zipIdx.map fun d =>
    (orDefault (v (3 + 2 * d.2)) (base * d.1.1 / 1000), orDefault (v (4 + 2 * d.2)) d.1.2)
  { present := true, enable := v 0 == 1, shunt := orDefault (v 1) 2000, autoOn := v 2 == 1, curve := curve
    iLimit := orDefault (v 19) (2 * base), fastTrip := orDefault (v 20) (3 * base), pLimit := orDefault (v 21) 10000
    rampFault := orDefault (v 22) 20000, onFault := orDefault (v 23) 1000, rampTimeout := orDefault (v 24) 100
    pgFilter := orDefault (v 25) 10, autoRetry := v 26 == 1, retryMax := orDefault (v 27) 3
    cooldownMin := orDefault (v 28) 100, debounce := orDefault (v 29) 20, removeNs := orDefault (v 30) 1000
    vinUv := orDefault (v 31) 10800, vinOv := orDefault (v 32) 13200, perstLead := orDefault (v 33) 1000 }

/-- TRUNK (R264, R306): times in ns, RATE in GT/s. -/
def TrunkParam.ofBody (b : List Byte) : TrunkParam :=
  let v (i : Nat) : Nat := leNat (sliceOf b (4 * i) 4)
  let compat := v 2 == 1
  let rate := orDefault (v 1) (if compat then 32 else 128)
  { present := true, enable := v 0 == 1, rate := if rate = 32 then 0 else if rate = 64 then 1 else 2, compat := compat
    lockTimeoutNs := orDefault (v 3) 10000000, measNs := orDefault (v 4) 1000000, acceptPpb := orDefault (v 5) 10000
    sparePpb := orDefault (v 6) 10000, qualityNs := orDefault (v 7) 10000000, initNs := orDefault (v 8) 1000000
    retryNs := orDefault (v 9) 10000000, expectId := leNat (sliceOf b 40 8)
    expectRank := if v 12 = 0xFFFFFFFF then none else some (v 12), ackNs := orDefault (v 13) 250
    replayNs := orDefault (v 14) 3000, replayLimit := orDefault (v 15) 4, failoverNs := orDefault (v 16) 100000
    timeNs := orDefault (v 17) 100000 }

/-- The sharer slot map of a DIRECTORY_PARTITION record (R90, R380). -/
def sharersOf (b : List Byte) : List (Nat × Sharer) :=
  (List.range 64).map fun i => (i, Sharer.ofNat (leNat (sliceOf b (2 * i) 2)))

/-- The parameters of a DIRECTORY_PARTITION record (R380). -/
def DirParam.ofBody (b : List Byte) : DirParam :=
  let n := leNat b
  { scrubRate := orDefault (field n 1024 16) 8, patrolH := field n 1040 10, retrainErrors := orDefault (field n 1056 11) 16
    correctionLimit := orDefault (field n 1072 16) 64, hazelMs := orDefault (field n 1088 32) 100
    cellsMigration := orDefault (field n 1120 16) 16384, cellsMgmt := orDefault (field n 1136 16) 1024
    cellsTelemetry := orDefault (field n 1152 16) 2048 }

/-- The COUNTER_SELECT global body (R417). -/
def SelectGlobal.ofBody (b : List Byte) : SelectGlobal :=
  let n := leNat b
  { snapshotMs := field n 0 32, telemMs := orDefault (field n 32 32) 1000, telemPort := field n 64 6
    telemEnable := n.testBit 70, telemLog := n.testBit 71, ringLog2 := field n 72 5, alertSev := field n 77 2
    freezeMask := field n 80 16, postEntries := field n 96 16, holdoffS := orDefault (field n 112 16) 10
    telemAddr := BitVec.ofNat 64 (field n 128 64), focus := (List.range 8).map fun j => field n (192 + 8 * j) 8 }

/-- COUNTER_SELECT of a point (R417). -/
def SelectPoint.ofBody (b : List Byte) : SelectPoint :=
  let n := leNat b
  { windowUs := orDefault (field n 0 20) 1000, telemBw := n.testBit 20 }

/-- SECURITY_POLICY (R444). -/
def Policy.ofBody (b : List Byte) : Policy :=
  let n := leNat b
  { fmPorts := BitVec.ofNat 64 (field n 0 64), trunkFm := n.testBit 64, debugAllowed := n.testBit 65
    ownerOnly := n.testBit 66, svnAdvance := n.testBit 67, debugMaxS := orDefault (field n 72 16) 3600
    ideRefreshS := field n 88 16 }

/-- The header of a recipe set image (R62). -/
structure SetHead where
  setId : Nat
  versionMinor : Nat
  versionMajor : Nat
  compatMin : Nat
  recipes : Nat
  rsvd : Nat
  length : Nat
  dispatchOff : Nat
  recipesOff : Nat
  signatureOff : Nat
deriving DecidableEq, Repr

/-- Read the header of a recipe set image. -/
def SetHead.ofBody (b : List Byte) : SetHead :=
  let n := leNat (sliceOf b 0 64)
  { setId := field n 0 16, versionMinor := field n 16 8, versionMajor := field n 24 8, compatMin := field n 32 8
    recipes := field n 40 11 + 1, rsvd := field n 51 13 + field n 192 320, length := field n 64 32
    dispatchOff := field n 96 32, recipesOff := field n 128 32, signatureOff := field n 160 32 }

/-- The dispatch entries of a recipe set image. -/
def setDispatch (b : List Byte) (h : SetHead) : List (Nat × U16) :=
  (List.range 2048).map fun i => (i, BitVec.ofNat 16 (leNat (sliceOf b (h.dispatchOff + 2 * i) 2)))

/-- The step words of a recipe set image. -/
def setSteps (b : List Byte) (h : SetHead) : List (Nat × U64) :=
  (List.range (16 * h.recipes)).map fun i => (i, BitVec.ofNat 64 (leNat (sliceOf b (h.recipesOff + 8 * i) 8)))

/-! ### What the image means for one switch -/

/-- An image decoded for the switch whose provisioned ID is `Config.provisionedId`: the records of its own rank and of
the whole fabric (R376). -/
structure Plan where
  head : ImageHead := {}
  recs : List CfgRec := []
  rank : Option Nat := none
  ident : Ident := {}
  ports : Tbl ({} : PortParam) := .empty
  tenants : List TenantRec := []
  runs : List (CfgRec × RunRec) := []
  bank : Bank := {}
  slots : Tbl ({} : SlotParam) := .empty
  trunks : Tbl ({} : TrunkParam) := .empty
  dir : DirParam := {}
  select : SelectGlobal := {}
  points : Tbl ({} : SelectPoint) := .empty
  /-- counters in level mode -/
  levels : List Nat := []
  policy : Policy := {}
deriving DecidableEq, Repr

/-- The rank that an image gives this switch: SCOPE of the IDENTITY record with its provisioned ID. -/
def ownRank (l : List CfgRec) : Option Nat :=
  (l.find? fun r => r.type == 0x0001 && r.key == Config.provisionedId.toNat).map (·.scope)

/-- Does the switch of the given rank apply a record? -/
def CfgRec.applies (r : CfgRec) (rank : Option Nat) : Bool := r.scope == 0xFF || rank == some r.scope

/-- The records of one type that the switch applies. -/
def ofType (l : List CfgRec) (t : RecType) : List CfgRec := l.filter (·.type == t.code)

/-- Decode an image. -/
def planOf (img : List Byte) : Plan :=
  let recs := imageRecs img
  let rank := ownRank recs
  let own := recs.filter (·.applies rank)
  let tenants := (ofType own .tenant).map TenantRec.ofRec
  let trunkPorts : List (Nat × PortParam) := (List.range 8).map fun t => (64 + t, trunkPointDefault)
  let partBody : List Byte := ((ofType own .directoryPartition).head?.map (·.body)).getD []
  let recipe : Option (List Byte) := (ofType own .recipeBank).head?.map (·.body)
  let selects := ofType own .counterSelect
  let bank : Bank := {
    loaded := true
    tenants := Tbl.ofList (tenants.map fun t => (t.number, t.entry))
    windows := Tbl.ofList (tenants.flatMap (·.windows))
    dispatch := match recipe with
      | some b => Tbl.ofList (setDispatch b (SetHead.ofBody b))
      | none => .empty
    steps := match recipe with
      | some b => Tbl.ofList (setSteps b (SetHead.ofBody b))
      | none => .empty
    setInfo := match recipe with
      | some b =>
        let h := SetHead.ofBody b
        { setId := h.setId, versionMinor := h.versionMinor, versionMajor := h.versionMajor, compatMin := h.compatMin }
      | none => {}
    sharers := Tbl.ofList (sharersOf partBody)
    regions := Tbl.ofList ((ofType own .accessRules).map fun r => (r.key, Region.ofNat (leNat r.body)))
    meters := Tbl.ofList ((ofType own .meter).map fun r => (r.key, MeterCfg.ofNat (leNat r.body)))
    scheds := Tbl.ofList ((ofType own .schedule).map fun r => (r.key, SchedCfg.ofNat (leNat r.body)))
    gates := Tbl.ofList ((ofType own .gateList).map fun r => (r.key, GateList.ofBytes r.body)) }
  { head := imageHead img, recs := recs, rank := rank
    ident := match (ofType own .identity).find? (·.key == Config.provisionedId.toNat), rank with
      | some r, some k => Ident.ofBody k r.body
      | _, _ => {}
    ports := Tbl.ofList (trunkPorts ++ (ofType own .port).map fun r => (r.key, PortParam.ofBody r.key r.body))
    tenants := tenants, runs := (ofType own .tileMap).map fun r => (r, RunRec.ofRec r), bank := bank
    slots := Tbl.ofList ((ofType own .slotPower).map fun r => (r.key, SlotParam.ofBody r.body))
    trunks := Tbl.ofList ((ofType own .trunk).map fun r => (r.key, TrunkParam.ofBody r.body))
    dir := if partBody.isEmpty then {} else DirParam.ofBody partBody
    select := ((selects.find? (·.key == 0x100)).map fun r => SelectGlobal.ofBody r.body).getD {}
    points := Tbl.ofList ((selects.filter fun r => 0x80 ≤ r.key && r.key < 0x100).map fun r =>
      (r.key - 0x80, SelectPoint.ofBody r.body))
    levels := (selects.filter fun r => r.key < 80).flatMap fun r =>
      (bitList (leNat r.body) 64).map (64 * r.key + ·)
    policy := ((ofType own .securityPolicy).head?.map fun r => Policy.ofBody r.body).getD {} }

/-- The home tile map entries that a plan names. -/
def Plan.homes (p : Plan) : List (Nat × HtEntry) :=
  (p.runs.filter (·.2.home)).flatMap fun r => (List.range r.2.count).map fun i => (r.2.first + i, r.2.ht i)

/-- The translation entries that a plan names, with the FORCE of their run. -/
def Plan.entries (p : Plan) : List (Nat × TtEntry × Bool) :=
  (p.runs.filter fun r => !r.2.home).flatMap fun r =>
    (List.range r.2.count).map fun i => (r.2.first + i, r.2.tt i, r.2.force)

/-- The granted translation entries of a plan. -/
def Plan.granted (p : Plan) : List (Nat × TtEntry) :=
  (p.entries.filter fun e => e.2.1.state == .offered).map fun e => (e.1, e.2.1)

/-- A tenant under a plan. -/
def Plan.tenant (p : Plan) (n : Nat) : Option TenantRec := p.tenants.find? (·.number == n)

/-- The plan of the image in slot k. -/
def State.planAt (s : State) (k : Option Nat) : Plan :=
  match k with
  | some k => planOf (s.mgmt.cfg.slots.get k)
  | none => {}

/-- The plan of the current image; empty before the first commit. -/
def State.curPlan (s : State) : Plan := s.planAt s.mgmt.cfg.current

end Sys2Proof.Machine
end

