-- ==== Sys2Proof/Machine/Translate.lean ====
section
/-! DEFINITION. Address translation: windows and tenants (R26, R27), translation entries (R30), fabric addresses (R39),
the home tile map (R36), snoop addresses (R103), sharer slots (R90, R92) and trunk routes (R106, R378). -/

namespace Sys2Proof.Machine

/-- Does address a lie within the pool-view decoder of host port p (R19)? -/
def State.inDecoder (s : State) (p a : Nat) : Bool :=
  let ps := s.port p
  ps.decValid && decide (ps.decBase ≤ a / 2 ^ 28) && decide (a / 2 ^ 28 ≤ ps.decBase + ps.decTilesM1)

/-- Does a committed HDM decoder cover address a? -/
def HdmDecoder.covers (d : HdmDecoder) (a : Nat) : Bool :=
  d.committed && decide (d.base ≤ a / 2 ^ 28) && decide (a / 2 ^ 28 < d.base + d.tiles)

/-- The vPPB that a decoder selects for an address that it covers: the ways take the granules in turn (R236). -/
def HdmDecoder.target (d : HdmDecoder) (a : Nat) : Nat :=
  field d.targets.toNat (8 * ((a - d.base * 2 ^ 28) / 2 ^ (8 + d.ig) % 2 ^ d.iw)) 8

/-- The vPPB that a message of host port x is routed to: by the host's HDM decoders for CXL.mem (R45, R236), else by its own routing
(R49). -/
def State.routedVppb (s : State) (x cls : Nat) (m : Msg) : Option Nat :=
  if cls ≤ 1 then
    ((List.range 7).map fun d => s.edge.hdms.get (8 * x + d + 1)).find? (·.covers m.addr.toNat) |>.map (·.target m.addr.toNat)
  else m.vppb.map (·.val)

/-- The port and LD-ID behind the vPPB that a message of host port x is routed to: none where no device is bound to it. -/
def State.routedTo (s : State) (x cls : Nat) (m : Msg) : Option (Nat × Nat) :=
  (s.routedVppb x cls m).bind fun v => if v < 32 then s.edge.binds.get (32 * x + v) else none

/-- Source of a message (R45): 0 HOST_POOL, 1 HOST_VH, 2 DEVICE, 3 TRUNK. -/
def State.sourceOf (s : State) (x cls : Nat) (m : Msg) : Nat :=
  if 64 ≤ x then 3
  else if (s.port x).role = .host then
    (if cls = 2 ∨ cls = 3 then 0
     else if cls = 5 ∨ cls = 6 then 1
     else if s.inDecoder x m.addr.toNat then 0
     else if (s.routedTo x cls m).isSome then 1 else 0)
  else 2

/-- The valid window of port p that holds tile t (R26). -/
def Bank.windowOf (b : Bank) (p t : Nat) : Option (Nat × Window) :=
  (b.windows.cells.find? fun c =>
    c.2.valid && c.2.hostPort == p && decide (c.2.baseTile ≤ t) && decide (t ≤ c.2.baseTile + c.2.tilesM1))

/-- Is a table entry waiting for its parity repair (R135)? -/
def State.isDamaged (s : State) (m : ParityMem) : Bool := s.tab.damaged.any (·.1 == m)

/-- A fabric address (R39). -/
def fabricAddr (rank tile off : Nat) : Nat := rank * 2 ^ 47 + tile * 2 ^ 28 + off

/-- The line number of a fabric address at its home (R95). -/
def lineOf (addr : Nat) : Nat := field addr 28 19 * 2 ^ 22 + field addr 6 22

/-- What TRANSLATE finds (R49). -/
inductive Trans where
  /-- served here: the home tile map entry -/
  | here (attr : Attr) (h : HtEntry)
  /-- another rank is the home: the fabric address to send -/
  | remote (attr : Attr) (addr : Nat)
  /-- 0 UNMAPPED, 1 LOST -/
  | unserved (reason : Nat)
  /-- a table entry failed parity (R135) -/
  | damaged
  /-- writes wait for a switchover (R214) -/
  | hold
deriving DecidableEq, Repr

/-- Service of home tile map entry h at this switch (R36, R49). -/
def State.atHome (s : State) (attr : Attr) (tile off : Nat) (write : Bool) : Trans :=
  if s.isDamaged (.homeTile (BitVec.ofNat 19 tile)) then .damaged
  else
    let h := s.tab.ht.get tile
    match h.state with
    | .active => .here attr h
    | .migrating => if write ∧ (s.wq.slots.get h.migSlot).phase = .hold then .hold else .here attr h
    | .moved => if h.fwdRank = s.rank then .unserved 0 else .remote attr (fabricAddr h.fwdRank h.fwdTile off)
    | .lost => .unserved 1
    | .free => .unserved 0
    | .zeroing => .unserved 0

/-- TRANSLATE of a fabric address (R39, R49). -/
def State.translateFabric (s : State) (attr : Attr) (addr : Nat) (write : Bool) : Trans :=
  let rank := field addr 47 4
  if rank = s.rank then s.atHome attr (field addr 28 19) (field addr 0 28) write else .remote attr addr

/-- What TRANSLATE reads of the translation table for address `addr` of host port p (R26, R30): the index and the entry, when it
is ACTIVE. -/
def State.readEntry (s : State) (b : Bank) (p addr : Nat) : Except Trans (Nat × TtEntry) :=
  match b.windowOf p (addr / 2 ^ 28) with
  | none => .error (.unserved 0)
  | some (wi, w) =>
    let k := w.ttBase + (addr / 2 ^ 28 - w.baseTile)
    let e := s.tab.tt.get k
    if s.isDamaged (.window (BitVec.ofNat 14 wi)) ∨ s.isDamaged (.translation (BitVec.ofNat 20 k)) then .error .damaged
    else if e.state ≠ .active then .error (.unserved 0)
    else .ok (k, e)

/-- The sharer slot of (rank, port) in the map (R90). -/
def Bank.slotOf (b : Bank) (rank port : Nat) : Option Nat :=
  (b.sharers.cells.find? fun c => c.2.valid && c.2.rank == rank && c.2.port == port).map (·.1)

/-- Is sharer slot i flagged unresponsive (R113)? -/
def State.slotSilent (s : State) (i : Nat) : Bool := s.dp.unrespSlots.toNat.testBit i
/-- Is host port p flagged unresponsive (R113)? -/
def State.portSilent (s : State) (p : Nat) : Bool := s.dp.unrespPorts.toNat.testBit p

/-- The bucket of the snoop address map for a host port and a fabric tile (R103): its first entry. The hash is the part's own
(DESIGN CHOICE, log entry 72). -/
def snoopBucket (p rank tile : Nat) : Nat := 4 * (Config.snoopHash (pack [(6, p), (4, rank), (19, tile)]) % 65536)

/-- What the snoop address map gives for a line (R103, R135). -/
inductive HostAddr where
  | unmapped
  | found (a : Nat)
  | damaged
deriving DecidableEq, Repr

/-- Does the window hold a translation entry of host port p? -/
def Window.holds (w : Window) (p k : Nat) : Bool :=
  w.valid && w.hostPort == p && decide (w.ttBase ≤ k) && decide (k ≤ w.ttBase + w.tilesM1)

/-- The window of bank b that holds a mapping of the snoop address map: that of its WINDOW field, or, under the other epoch, the
one that held the entry there (DESIGN CHOICE, log entry 72). -/
def Bank.mapWindow (b : Bank) (e : SnoopMap) : Option Window :=
  let w := b.windows.get e.window
  if w.holds e.port e.ttIndex then some w
  else (b.windows.cells.find? fun c => c.2.holds e.port e.ttIndex).map (·.2)

/-- Host physical address of a fabric line at host port p, under bank b (R103). -/
def State.snoopAddr (s : State) (b : Bank) (p rank tile off : Nat) : HostAddr :=
  let ways := (List.range 4).map (snoopBucket p rank tile + ·)
  if ways.any fun k => s.isDamaged (.snoopAddr (BitVec.ofNat 18 k)) then .damaged
  else
    let maps (e : SnoopMap) : Bool := e.valid && e.port == p && e.homeRank == rank && e.homeTile == tile
    match ((ways.map s.tab.snoop.get).find? maps).bind fun e => (b.mapWindow e).map fun w => (e, w) with
    | none => .unmapped
    | some (e, w) => .found ((w.baseTile + (e.ttIndex - w.ttBase)) * 2 ^ 28 + off)

/-- Which trunk of partner pair j carries key parity (R106): the lower-numbered one for an even key; the other one while
that trunk is down. -/
def State.trunkOfPair (s : State) (j parity : Nat) : Option Nat :=
  let a := 2 * j + parity % 2
  let b := 2 * j + (parity + 1) % 2
  if s.pointUp (64 + a) then some a else if s.pointUp (64 + b) then some b else none

/-- The trunk toward a rank for a key (R106, R378): the first pair of the route, or the second while both trunks of the
first are down. -/
def State.trunkTo (s : State) (rank key : Nat) : Option Nat :=
  let r := s.tab.ident.route.getD rank 0xFF
  let first := r % 16
  let second := r / 16 % 16
  match (if first < 4 then s.trunkOfPair first key else none) with
  | some t => some t
  | none => if second < 4 then s.trunkOfPair second key else none

end Sys2Proof.Machine
end

