-- ==== Sys2Proof/Machine/Access.lean ====
section
/-! DEFINITION. Access checking at the master (spec/07): regions, the decision procedure of R147, the default map of
R148, and what a fault counts, logs and captures (R149 to R151). -/

namespace Sys2Proof.Machine

/-- Number of a bring-up state (R265). -/
def trunkPhaseNo : TrunkPhase → Nat
  | .off => 0 | .lock => 1 | .measure => 2 | .announce => 3 | .init => 4 | .active => 5 | .held => 6

/-- Region 0 of checker 76, wired in both banks (R148). -/
def wiredRegion : Region :=
  { valid := true, space := 2, read := true, write := true, base := 0, limit := 0x3FFFFFFFF }

/-- Region r of checker k in a bank. -/
def Bank.region (b : Bank) (k r : Nat) : Region := if k = 76 ∧ r = 0 then wiredRegion else b.regions.get (64 * k + r)

/-- One checked access (R141, R142). -/
structure Access where
  space : Nat
  addr : Nat
  /-- bit 0 READ, bit 1 WRITE -/
  needs : Nat
  tenant : Nat := 0
  rank : Nat := 0
  priv : Bool := false
  noTenant : Bool := false
deriving DecidableEq, Repr

/-- Does the region match (R144)? -/
def Region.isMatch (e : Region) (a : Access) : Bool :=
  let p := a.addr / 4096 * 4096
  e.valid && e.space == a.space && decide (e.base ≤ p) && decide (p ≤ e.limit)
    && (!e.rankMatch || e.rank == a.rank) && (!e.tenantMatch || (!a.noTenant && e.tenant == a.tenant))

/-- A decision: 0 ALLOW, 1 DEFAULT_MAP, 2 FAULT; the deciding region, 0x7F for none; locked regions that denied. -/
structure Decision where
  outcome : Nat
  region : Nat
  locked : Bool := false
deriving DecidableEq, Repr

/-- Is region r of checker k locked (R155)? -/
def State.regionLocked (s : State) (k r : Nat) : Bool :=
  decide (56 ≤ r) && (s.tab.checkers.get k).locked.toNat.testBit (r - 56)

/-- The decision procedure of R147; `dflt` says whether the default map of k grants the needs. -/
def State.decideAccess (s : State) (b : Bank) (k : Nat) (a : Access) (dflt : Bool) : Decision :=
  match ((List.range 64).reverse).find? fun r => (b.region k r).isMatch a with
  | some r =>
    let e := b.region k r
    if k = 75 ∧ s.regionLocked k r then ⟨2, r, true⟩
    else if (a.needs.testBit 0 ∧ ¬ e.read) ∨ (a.needs.testBit 1 ∧ ¬ e.write) then ⟨2, r, s.regionLocked k r⟩
    else ⟨0, r, false⟩
  | none => if a.priv ∧ dflt then ⟨1, 0x7F, false⟩ else ⟨2, 0x7F, false⟩

/-- Count, log and capture a FAULT of checker k (R150, R151, R156). -/
def State.accessFault (s : State) (k : Nat) (a : Access) (d : Decision) : State :=
  -- NO_TENANT marks a request, not a management or scrub access
  let untold := a.noTenant && decide (k < 73)
  let tenant := if a.noTenant then 0 else a.tenant
  let s := if k < 72 then s.count (pointCtr k 18 16) else s.countGlobal (160 + (k - 72))
  let c := s.tab.checkers.get k
  let c' := if c.capValid then c else
    { c with
      capValid := true, capSpace := BitVec.ofNat 3 a.space, capNeeds := BitVec.ofNat 2 a.needs,
      capRegion := BitVec.ofNat 7 d.region, capLockedHit := d.locked,
      capTenant := BitVec.ofNat 12 tenant, capRank := BitVec.ofNat 4 a.rank,
      capPriv := a.priv && d.region == 0x7F, capNoTenant := untold, capAddr := BitVec.ofNat 64 a.addr }
  let args := [(1, k), (1, a.space), (1, a.needs), (1, d.region), (2, if untold then 0xFFFF else tenant),
    (1, a.rank), (8, a.addr)]
  if k = 75 ∧ d.locked then
    State.log { s with tab.checkers := s.tab.checkers.set k c' } 0x0105 2 args
  else
    let quiet := match c.lastLog with
      | some t => decide (s.sys.ft < t + 10000)
      | none => false
    if quiet then
      let s := { s with tab.checkers := s.tab.checkers.set k c' }
      if k < 72 then s.count (pointCtr k 20 17) else s.countGlobal (170 + (k - 72))
    else
      State.log { s with tab.checkers := s.tab.checkers.set k { c' with lastLog := some s.sys.ft } } 0x0104 1 args

/-- Has a region of checker k failed parity (R135)? -/
def State.checkerBroken (s : State) (k : Nat) : Bool :=
  s.tab.damaged.any fun d => match d.1 with
    | .checkerRegion c _ => c.val == k
    | _ => false

/-- State of the management pair behind checker k. -/
def State.pairOfChecker (s : State) (k : Nat) : Option PairState :=
  if k = 73 then some s.sys.pairA else if k = 74 then some s.sys.pairB else none

/-- Does the default map of checker k grant the access (R148)? Each pair's own SRAM is 4 MiB at `pairSram`. -/
def State.defaultMap (s : State) (k : Nat) (a : Access) (pairSram : Nat) : Bool :=
  if k < 64 then a.space == 0
  else match s.pairOfChecker k with
    | none => false
    | some st =>
      if st = .active then a.space == 1 || a.space == 2 || a.space == 3
      else if a.space = 2 then !a.needs.testBit 1
      else if a.space = 3 then
        !a.needs.testBit 1 || (decide (pairSram ≤ a.addr) && decide (a.addr < pairSram + 0x400000))
      else false

/-- Check an access and count what R150 counts. -/
def State.checkAccess (s : State) (b : Bank) (k : Nat) (a : Access) (dflt : Bool) : Nat × State :=
  let d := s.decideAccess b k a dflt
  if d.outcome = 2 then (2, s.accessFault k a d)
  else if d.outcome = 1 then (1, if k < 72 then s.count (pointCtr k 19 19) else s.countGlobal (165 + (k - 72)))
  else (0, s)

end Sys2Proof.Machine
end

