-- ==== Sys2Proof/Machine/Meter.lean ====
section
/-! DEFINITION. Meters, shapers and fair-queuing tags (R164, R165, R167, R169, R173). -/

namespace Sys2Proof.Machine

/-- Elapsed ns since a 48-bit time, at most 2³⁶ (R164). -/
def elapsed48 (t : Nat) (last : BitVec 48) : Nat := Nat.min (BitVec.ofNat 48 t - last).toNat (2 ^ 36)

/-- Refill of the meter's buckets at fabric time t (R164). -/
def MeterState.refill (st : MeterState) (m : MeterCfg) (t : Nat) : MeterState :=
  let e := elapsed48 t st.last
  let a := st.tc + e * m.cir
  let tc := Nat.min a (m.cbs * 1000)
  let tp := if m.srtcm then Nat.min (st.tpTe + (a - tc)) (m.pbsEbs * 1000)
    else Nat.min (st.tpTe + e * m.pir) (m.pbsEbs * 1000)
  { st with last := BitVec.ofNat 48 t, tc := tc, tpTe := tp }

/-- Colour a request of c bytes at fabric time t (R164). -/
def MeterState.meter (st : MeterState) (m : MeterCfg) (c t : Nat) : Colour × MeterState :=
  if ¬ m.meterEn then (.green, { st with green := st.green + BitVec.ofNat 48 c })
  else
    let st := st.refill m t
    let k := c * 1000
    let green := { st with green := st.green + BitVec.ofNat 48 c }
    let yellow := { st with yellow := st.yellow + BitVec.ofNat 48 c }
    let red := { st with red := st.red + BitVec.ofNat 48 c }
    if m.srtcm then
      (if k ≤ st.tc then (.green, { green with tc := st.tc - k })
       else if k ≤ st.tpTe then (.yellow, { yellow with tpTe := st.tpTe - k })
       else (.red, red))
    else
      (if st.tpTe < k then (.red, red)
       else if st.tc < k then (.yellow, { yellow with tpTe := st.tpTe - k })
       else (.green, { green with tpTe := st.tpTe - k, tc := st.tc - k }))

/-- Refill of the shaper at fabric time t (R169). -/
def MeterState.shape (st : MeterState) (m : MeterCfg) (t : Nat) : MeterState :=
  let e := elapsed48 t st.slast
  { st with
    slast := BitVec.ofNat 48 t
    ts := min (st.ts + ((e * m.shapeRate : Nat) : Int)) ((m.shapeBurst * 1000 : Nat) : Int) }

/-- Charge the shaper for a message of cost c that egress point x sends at fabric time t (R169). -/
def MeterState.charge (st : MeterState) (m : MeterCfg) (x c t : Nat) : MeterState :=
  let st := st.shape m t
  let st := if st.clock = some t then { st with clockBy := st.clockBy ++ [x] }
    else { st with clock := if 0 ≤ st.ts then some t else none, clockBy := [x] }
  { st with ts := max (st.ts - ((c * 1000 : Nat) : Int)) (-5760000) }

/-- May egress point x send at fabric time t: TS ≥ 0 (R170)? Points that send in one core clock, which the model takes as one
nanosecond, all see the TS that it began with (R178). -/
def MeterState.shaperOpen (st : MeterState) (m : MeterCfg) (x t : Nat) : Bool :=
  decide (0 ≤ (st.shape m t).ts) || (st.clock == some t && !st.clockBy.contains x)

/-- Full buckets, as a new or newly enabled meter has them at the flip (R165). -/
def MeterState.fill (st : MeterState) (m : MeterCfg) (t : Nat) : MeterState :=
  { st with tc := m.cbs * 1000, tpTe := m.pbsEbs * 1000, ts := ((m.shapeBurst * 1000 : Nat) : Int),
            last := BitVec.ofNat 48 t, slast := BitVec.ofNat 48 t, clock := none }

/-! ### Flows and tags -/

/-- Flow numbers: tenant n, trunk pair 4096 + j, MGMT (R167). -/
def flowPair (t : Nat) : Nat := 4096 + t / 2
/-- The flow of source MGMT. -/
def flowMgmt : Nat := 4100

/-- a comes before b in 48-bit tags (R173). -/
def tagLt (a b : BitVec 48) : Bool := decide (1 ≤ (b - a).toNat) && decide ((b - a).toNat ≤ 2 ^ 47 - 1)
/-- The later of two tags. -/
def tagMax (a b : BitVec 48) : BitVec 48 := if tagLt a b then b else a
/-- Tag distance of cost c at weight w (R173). -/
def tagDist (w c : Nat) : BitVec 48 := BitVec.ofNat 48 ((256 * c + w - 1) / w)

/-- Weight of flow f in class q at point x under the current bank (R167, R178). -/
def State.flowWeight (s : State) (x q f : Nat) : Nat :=
  if q ≠ 2 then 1
  else
    let c := s.bank.scheds.get x
    if f < 4096 then (if (s.bank.tenants.get f).valid then (s.bank.meters.get f).flowWeight else 1)
    else if f < 4100 then c.wPair.getD (f - 4096) 64 else c.wMgmt

/-- FQ_BURST of a flow (R173). -/
def State.fqBurst (s : State) (f : Nat) : Nat := if f < 4096 then (s.bank.meters.get f).fqBurst else 2048

/-- Class weight (R172). -/
def SchedCfg.classWeight (c : SchedCfg) (q : Nat) : Nat :=
  if q = 2 then c.wRequest else if q = 3 then c.wShared else if q = 4 then c.wIo else if q = 5 then c.wBulk
  else c.wTelemetry

end Sys2Proof.Machine
end

