-- ==== Sys2Proof/Machine/Buffer.lean ====
section
/-! DEFINITION. The shared buffer (R66 to R72) and the Hazel audit (R85 to R87). -/

namespace Sys2Proof.Machine

/-- Cell limit of (ingress point, class) (R70, R71). -/
def State.cellLimit (s : State) (x cls : Nat) : Nat :=
  if x < 72 then (s.param x).cellLimit.getD cls 0
  else if cls ≠ 7 then 0
  else if x = 72 then s.tab.dirParam.cellsMigration
  else if x = 74 then s.tab.dirParam.cellsMgmt
  else if x = 76 then s.tab.dirParam.cellsTelemetry
  else 0

/-! ### Credits of an edge port (R72, R233) -/

/-- Cells that back posted, non-posted and completion credits. -/
def State.ioCells (s : State) (p t : Nat) : Nat :=
  let c := s.cellLimit p 6
  if t = 0 then c / 2 else if t = 1 then c / 6 else c - c / 2 - c / 6

/-- Header and data credits H_t and D_t of CXL.io type t: 0 posted, 1 non-posted, 2 completion. Without Scaled Flow Control each is
capped after the other is computed (DESIGN CHOICE, log entry 76). -/
def State.ioCredits (s : State) (p t : Nat) : Nat × Nat :=
  let units := 16 * s.ioCells p t
  let h := Nat.min ((if t = 1 then 7 else 8) * (s.param p).width) ((units - 1) / 17)
  let d := units - 17 * h
  if (s.port p).scaledFc then (h, d) else (Nat.min h 127, Nat.min d 2047)

/-- Credits that edge port p advertises for channel k: 0 M2S Req, 1 M2S RwD, 2 M2S BIRsp, 3 S2M DRS, 4 S2M NDR, 5 S2M BISnp, 6 to 8
the CXL.cache channels, 9 and 10 posted headers and data, 11 and 12 non-posted, 13 and 14 completion. -/
def State.edgeCredits (s : State) (p k : Nat) : Nat :=
  let c := s.cellLimit p
  if k = 0 then Nat.min (16 * c 0) (16 * c 3)
  else if k = 1 then 2 * c 1
  else if k = 2 then 16 * c 2
  else if k = 3 then 3 * c 4 / 2
  else if k ≤ 5 then 3 * c 4 / 4
  else if k ≤ 8 then c 5
  else let hd := s.ioCredits p ((k - 9) / 2)
    if k % 2 = 1 then hd.1 else hd.2

/-- CXL.io type of a message: 0 posted, 1 non-posted, 2 completion. -/
def ioType (m : Msg) : Nat := if m.op = 3 then 2 else if ioWantsCpl m.op.toNat m.payload then 1 else 0

/-- Credits that a message from the partner of an edge port uses: (channel, amount). -/
def recvCredits (cls : Nat) (m : Msg) : List (Nat × Nat) :=
  if cls = 0 ∨ cls = 3 then [(0, 1)]
  else if cls = 1 then [(1, 1)]
  else if cls = 2 then [(2, 1)]
  else if cls = 4 then [(if m.op = 8 ∨ m.op = 9 then 3 else if 0x10 ≤ m.op.toNat ∧ m.op.toNat < 0x20 then 5 else 4, 1)]
  else if cls = 5 then [(6 + m.cacheCh.val, 1)]
  else [(9 + 2 * ioType m, 1), (10 + 2 * ioType m, (m.payload.length + 15) / 16)]

/-- Channel of a message that an edge port sends, as `egressPick` numbers the partner's credits: 0 to 8 as in `edgeCredits`, 9
posted, 10 non-posted, 11 completion. -/
def sendChannel (cls : Nat) (m : Msg) : Nat :=
  if cls = 2 then (if 0x10 ≤ m.op.toNat then 5 else 2)
  else if cls = 6 then 9 + ioType m
  else ((recvCredits cls m).map (·.1)).headD 0

/-- Does the partner of edge port p hold the credits of a message that it sends? -/
def State.hasCredits (s : State) (p cls : Nat) (m : Msg) : Bool :=
  (recvCredits cls m).all fun c => decide (s.dp.spent.get (16 * p + c.1) + c.2 ≤ s.edgeCredits p c.1)

/-- A stored record has used its credits, which return with its cell. -/
def State.spendCredits (s : State) (p cls r : Nat) (m : Msg) : State :=
  let cs := (recvCredits cls m).map fun c => (16 * p + c.1, c.2)
  { s with
    dp.spent := cs.foldl (fun t c => t.upd c.1 (· + c.2)) s.dp.spent
    dp.cellCredits := s.dp.cellCredits.upd (r / 16) (· ++ cs) }

/-- Max_Payload_Size Supported of edge port p: the largest size whose data credits both posted and completion hold. -/
def State.maxPayloadSupported (s : State) (p : Nat) : Nat :=
  let d := Nat.min (s.ioCredits p 0).2 (s.ioCredits p 2).2
  (([4096, 2048, 1024, 512, 256].find? fun n => decide (n / 16 ≤ d))).getD 128

/-! ### Cells -/

/-- Cells allocated to (ingress point, class). -/
def State.cellsUsed (s : State) (x cls : Nat) : Nat := s.dp.cellCount.get (8 * x + cls)

/-- Add a record's bytes to a bandwidth window (R422). -/
def Bandwidth.add (b : Bandwidth) (rx : Bool) (q n : Nat) : Bandwidth :=
  if rx then { b with rx := b.rx.set q (b.rx.getD q 0 + BitVec.ofNat 64 n) }
  else { b with tx := b.tx.set q (b.tx.getD q 0 + BitVec.ofNat 64 n) }

/-- Count a record written in ingress class q at point x (R416, R422). -/
def State.countRx (s : State) (x q units : Nat) : State :=
  if x < 72 then
    let s := s.count (pointCtr x q q)
    { s with obs.bandwidth := s.obs.bandwidth.upd x (·.add true q (16 * units)) }
  else s

/-- Take one free cell for (x, cls); which one is not the spec's to say (a free value). -/
def State.takeCell (s : State) (x cls : Nat) : Option (Nat × State) :=
  let (f, s) := s.free
  match searchFrom (fun c => (s.dp.cells.get c).audit == .free) 262144 f 262144 with
  | none => none
  | some c =>
    let r := s.dp.cells.get c
    let r := { r with owner := x, iclass := cls, use := 0, isOpen := false, stamp := r.stamp + 1, audit := .allocated }
    some (c, { s with
      dp.cells := s.dp.cells.set c r
      dp.cellCount := s.dp.cellCount.upd (8 * x + cls) (· + 1) })

/-- Take n free cells. -/
def State.takeCells (s : State) (x cls : Nat) : Nat → Option (List Nat × State)
  | 0 => some ([], s)
  | n + 1 =>
    match s.takeCell x cls with
    | none => none
    | some (c, s) => (s.takeCells x cls n).map fun r => (c :: r.1, r.2)

/-- Close the open cell of (x, cls) (R68). -/
def State.closeCell (s : State) (x cls : Nat) : State :=
  match s.dp.openCell.get (8 * x + cls) with
  | none => s
  | some (c, _) =>
    { s with
      dp.cells := s.dp.cells.upd c fun r => { r with isOpen := false }
      dp.openCell := s.dp.openCell.set (8 * x + cls) none }

/-- How many new cells a record of this size needs now. -/
def State.cellsNeeded (s : State) (x cls units : Nat) : Nat :=
  if 16 < units then (units + 15) / 16  -- the open cell is closed: the record does not fit it (R68)
  else match s.dp.openCell.get (8 * x + cls) with
    | some (_, u) => if u + units ≤ 16 then 0 else 1
    | none => 1

/-- Do the limits of (x, cls) allow a record of this size (R70, R72)? -/
def State.cellRoom (s : State) (x cls units : Nat) : Bool :=
  decide (s.cellsUsed x cls + s.cellsNeeded x cls units ≤ s.cellLimit x cls)

/-- Store a record (R67, R68): its number is 16 × cell + unit; none when its cell limit is reached. -/
def State.storeRecord (s : State) (x cls units : Nat) (m : Msg) : Option (Nat × State) :=
  if ¬ s.cellRoom x cls units then none
  else if 16 < units then
    match (s.closeCell x cls).takeCells x cls ((units + 15) / 16) with
    | some (c :: chain, s) =>
      let s := (c :: chain).foldl (fun s k => { s with dp.cells := s.dp.cells.upd k fun r => { r with use := 1 } }) s
      some (16 * c, { s with dp.recs := s.dp.recs.set (16 * c) (some { ingress := x, cls := cls, units := units, chain := chain, msg := m }) })
    | _ => none
  else
    let place : Option (Nat × Nat × State) :=
      match s.dp.openCell.get (8 * x + cls) with
      | some (c, u) =>
        if u + units ≤ 16 then some (c, u, s)
        else ((s.closeCell x cls).takeCell x cls).map fun r => (r.1, 0, r.2)
      | none => (s.takeCell x cls).map fun r => (r.1, 0, r.2)
    place.map fun (c, u, s) =>
      (16 * c + u, { s with
        dp.cells := s.dp.cells.upd c fun r => { r with use := r.use + 1, isOpen := true }
        dp.openCell := s.dp.openCell.set (8 * x + cls) (some (c, u + units))
        dp.recs := s.dp.recs.set (16 * c + u) (some { ingress := x, cls := cls, units := units, msg := m }) })

/-- Return a cell to the free list and credit its owner (R68, R70). -/
def State.freeCell (s : State) (c : Nat) : State :=
  let r := s.dp.cells.get c
  let key := 8 * r.owner + r.iclass
  let isOpen := match s.dp.openCell.get key with
    | some (k, _) => k == c
    | none => false
  { s with
    dp.cells := s.dp.cells.set c { r with use := 0, isOpen := false, audit := .free }
    dp.cellCount := s.dp.cellCount.upd key (· - 1)
    dp.spent := (s.dp.cellCredits.get c).foldl (fun t k => t.upd k.1 (· - k.2)) s.dp.spent
    dp.cellCredits := s.dp.cellCredits.set c []
    dp.openCell := if isOpen then s.dp.openCell.set key none else s.dp.openCell
    dp.freed := true }

/-- One record of a cell is released; the last returns the cell (R68). -/
def State.dropUse (s : State) (c : Nat) : State :=
  let r := s.dp.cells.get c
  if r.use ≤ 1 then s.freeCell c
  else { s with dp.cells := s.dp.cells.set c { r with use := r.use - 1 } }

/-- One more reference to a record. -/
def State.holdRec (s : State) (r : Option Nat) : State :=
  match r with
  | none => s
  | some k => { s with dp.recs := s.dp.recs.upd k (·.map fun x => { x with refs := x.refs + 1 }) }

/-- Credits of a message on a trunk (R276): its credit class, header credits 1, and its data credits. -/
def msgCredits (cls : Nat) (m : Msg) : Nat × Nat :=
  let op := m.op.toNat
  if cls = 1 then (0, if op = 2 then 5 else 4)
  else if cls = 0 ∨ cls = 3 then (0, 0)
  else if cls = 2 then (1, 0)
  else if cls = 6 then (3, (m.payload.length + 15) / 16)
  else (2, if op = 8 ∨ op = 9 then 4 else 0)

/-- Add a message's credits to a list of eight counters (R288, R300). -/
def addCredits (l : List U16) (cls : Nat) (m : Msg) : List U16 :=
  let c := msgCredits cls m
  (l.modify (2 * c.1) (· + 1)).modify (2 * c.1 + 1) (· + BitVec.ofNat 16 c.2)

/-- The release of a record that a trunk delivered returns its credits (R288). -/
def State.returnCredits (s : State) (r : Rec) : State :=
  if 64 ≤ r.ingress ∧ r.ingress < 72 then
    s.updTrunk (r.ingress - 64) fun t => { t with ret := addCredits t.ret r.cls r.msg }
  else s

/-- A reference to a record ends; with the last the record is released (R68). -/
def State.releaseRec (s : State) (r : Option Nat) : State :=
  match r with
  | none => s
  | some k =>
    match s.dp.recs.get k with
    | none => s
    | some x =>
      if x.refs ≤ 1 then
        let s := State.returnCredits { s with dp.recs := s.dp.recs.set k none } x
        (k / 16 :: x.chain).foldl State.dropUse s
      else { s with dp.recs := s.dp.recs.set k (some { x with refs := x.refs - 1 }) }

/-- Cells of a record. -/
def State.cellsOf (s : State) (r : Option Nat) : List Nat :=
  match r with
  | none => []
  | some k => match s.dp.recs.get k with
    | none => [k / 16]
    | some x => k / 16 :: x.chain

/-- Cells that live transaction entries and egress queue entries refer to (R86), and those of records that wait for a transaction
entry, which R86 does not name (DESIGN CHOICE, log entry 77). -/
def State.markedCells (s : State) : List Nat :=
  (s.dp.txns.cells.flatMap fun c =>
      if c.2.state == .free then []
      else s.cellsOf c.2.record ++ s.cellsOf (c.2.rsp.bind (·.2)) ++ c.2.attached.flatMap fun a => s.cellsOf a.record)
    ++ (s.dp.queues.cells.flatMap fun c => c.2.flatMap fun e => s.cellsOf e.record)
    ++ (s.dp.waiting.cells.flatMap fun c => c.2.flatMap fun r => s.cellsOf (some r))

/-- What a Hazel pass does with cell c (R86). -/
def State.hazelCell (s : State) (marked : List Nat) (c : Nat) : State :=
  let r := s.dp.cells.get c
  let m := marked.contains c
  let put (s : State) (r : CellRec) : State := { s with dp.cells := s.dp.cells.set c r }
  match r.audit with
  | .free =>
    if m then
      State.log ((put s { r with audit := .withheld }).countGlobal 64) 0x0108 2
        [(4, c), (1, r.owner), (1, r.iclass), (1, r.stamp.toNat)]
    else s
  | .withheld => if m then s else { put s { r with audit := .free } with dp.freed := true }
  | .allocated =>
    if m ∨ r.isOpen then s else put s { r with audit := .suspect, seen := r.stamp }
  | .suspect =>
    if m ∨ r.isOpen then put s { r with audit := .allocated }
    else if r.stamp = r.seen then
      State.log ((s.freeCell c).countGlobal 65) 0x0109 1 [(4, c), (1, r.owner), (1, r.iclass), (1, r.stamp.toNat)]
    else put s { r with seen := r.stamp }

end Sys2Proof.Machine
end

