-- ==== Sys2Proof/Machine/Egress.lean ====
section
/-! DEFINITION. Egress queues: limits, arrival of an entry with its fair-queuing tags, and link-down flushes (R73, R84,
R167, R168, R173). -/

namespace Sys2Proof.Machine

/-- The queue of class q at point x. -/
def State.queue (s : State) (x q : Nat) : List QEntry := s.dp.queues.get (8 * x + q)
/-- Limit of a queue (R73). -/
def State.queueLimit (s : State) (x q : Nat) : Nat := (s.param x).queueLimit.getD q 448
/-- Key of a flow's tags. -/
def flowKey (x q f : Nat) : Nat := (8 * x + q) * 4101 + f
/-- Is q a class with per-flow lists (R167)? -/
def flowClass (q : Nat) : Bool := q == 2 || q == 3 || q == 6

/-- Entries of flow f in a queue. -/
def State.flowLen (s : State) (x q f : Nat) : Nat := ((s.queue x q).filter (·.flow == f)).length

/-- Can n entries of flow f join queue q of x (R73, R168)? A point whose link is down takes any number: they are
discarded (R221). -/
def State.queueRoom (s : State) (x q f n : Nat) : Bool :=
  !s.pointUp x ||
    (decide ((s.queue x q).length + n ≤ s.queueLimit x q)
      && (!flowClass q || decide (4096 ≤ f) || decide (s.flowLen x q f + n ≤ (s.bank.meters.get f).queueCap)))

/-- Tags of a flow as an entry arrives, and the note that its class was empty (R173). -/
def State.arriveTags (s : State) (x q : Nat) (e : QEntry) : State :=
  let s := if flowClass q ∧ s.flowLen x q e.flow = 0 then
      let k := flowKey x q e.flow
      let t := s.dp.flows.get k
      let st := tagMax t.f (s.dp.v.get (8 * x + q))
      { s with dp.flows := s.dp.flows.set k ⟨st, st + tagDist (s.flowWeight x q e.flow) e.cost⟩ }
    else s
  if (s.queue x q).isEmpty then { s with dp.fresh := s.dp.fresh.set (8 * x + q) true } else s

/-- The trunk that R106 assigns an entry queued on trunk y to, while traffic of y's partner is moved: none for y. -/
def State.ownerOf (s : State) (y : Nat) (e : QEntry) : Option Nat :=
  let x := y ^^^ 1
  let key := match e.txn with
    | some i =>
      let t := s.dp.txns.get i
      if t.ingress = xMigration then t.qp else if t.ingress = xMgmt then 0 else e.msg.originPort.toNat
    | none => e.msg.originPort.toNat
  if (s.trunk x).move ≠ 0 ∧ key % 2 = x % 2 then some x else none

/-- Bandwidth of a point's link, rate times lanes, in tenths of GT/s; an internal point has no link (R75, R235, R264). -/
def State.linkSpeed (s : State) (x : Nat) : Option Nat :=
  if x < 64 then some ([25, 50, 80, 160, 320, 640].getD (s.port x).rate 0 * (s.port x).widthNow)
  else if x < 72 then some (320 * 2 ^ (s.trk.params.get (x - 64)).rate * 8)
  else none

/-- Does an entry for queue q of point x leave under store-and-forward (R75)? The sender has set the bit of a DUPLICATE's
copies. Cut-through lets a record leave earlier and changes nothing else. -/
def State.storeForward (s : State) (x q : Nat) (e : QEntry) : Bool :=
  let src := e.record.bind fun r => (s.dp.recs.get r).map (·.ingress)
  e.sf || ((e.record.bind s.dp.recs.get).elim false (·.badWrite)) || (s.param x).ctDisable.testBit q || e.cls == 6 || (decide (x < 64) && decide (2 ≤ (s.port x).ide))
    || match src with
      | none => false
      | some y => (decide (y < 64) && (s.port y).ide == 3)
        || match s.linkSpeed x, s.linkSpeed y with
          | some a, some b => decide (b < a)
          | _, _ => false

/-- An entry joins queue q of point x. -/
def State.enqueue (s : State) (x q : Nat) (e : QEntry) : State :=
  let s := (s.arriveTags x q e).holdRec e.record
  let e := if 64 ≤ x ∧ e.owner.isNone then { e with owner := s.ownerOf (x - 64) e } else e
  { s with dp.queues := s.dp.queues.upd (8 * x + q) (· ++ [{ e with sf := s.storeForward x q e }]) }

/-- Count a message discarded at a link that is down (R84). -/
def State.countFlush (s : State) (x : Nat) : State := s.count (pointCtr x 26 32)

/-- Queue a message, or discard it where the link is down (R84, R221). -/
def State.send (s : State) (x q : Nat) (e : QEntry) : State :=
  if s.pointUp x then s.enqueue x q e else s.countFlush x

/-- Take the k-th entry out of a queue. -/
def State.dequeueAt (s : State) (x q k : Nat) : State :=
  { s with dp.queues := s.dp.queues.upd (8 * x + q) (·.eraseIdx k), dp.freed := true }

/-- Void the queued messages that belong to a transaction (R82, R108). -/
def State.voidOf (s : State) (i : Nat) : State :=
  { s with dp.queues := ⟨s.dp.queues.cells.map fun c =>
      (c.1, c.2.map fun e => if e.txn = some i then { e with void := true, txn := none } else e)⟩ }

end Sys2Proof.Machine
end

