-- ==== Sys2Proof/Machine/DirStore.lean ====
section
/-! DEFINITION. The directory store (spec/06) and directory entries (R93 to R96): entry words with their parity, the two
copies, merging of damaged copies, the directory cache and the choice of a way. -/

namespace Sys2Proof.Machine

/-! ### Entries -/

/-- A directory entry's fields (R93). -/
structure DirE where
  tag : Nat := 0
  state : Nat := 0
  owner : Nat := 0x7F
  sharers : Nat := 0
  age : Nat := 0
deriving DecidableEq, Repr

/-- Parity of byte k: odd number of ones (R122). -/
def byteParity (v k : Nat) : Bool := popcount (v / 2 ^ (8 * k)) 8 % 2 == 1

/-- The word of an entry with its parity (R93, R122). -/
def DirE.encode (e : DirE) : BitVec 128 :=
  let v := pack [(36, e.tag), (3, e.state), (7, e.owner), (64, e.sharers), (2, e.age)]
  BitVec.ofNat 128 (v + 2 ^ 112 * bitsOf ((List.range 14).map (byteParity v)))

/-- The fields of a word. -/
def DirE.decode (w : BitVec 128) : DirE :=
  let v := w.toNat
  { tag := field v 0 36, state := field v 36 3, owner := field v 39 7, sharers := field v 46 64, age := field v 110 2 }

/-- Does byte k of the word pass parity (R122)? -/
def byteOk (w : BitVec 128) (k : Nat) : Bool := byteParity w.toNat k == w.toNat.testBit (112 + k)

/-- The three well-formed shapes (R94). -/
def DirE.wf (e : DirE) : Bool :=
  (e.state == 0 && e.owner == 0x7F && e.sharers == 0)
    || (e.state == 1 && e.owner == 0x7F && e.sharers != 0)
    || (e.state == 2 && decide (e.owner < 64) && e.sharers == 2 ^ e.owner)

/-- Does a word pass R122 whole? -/
def dirPass (w : BitVec 128) : Bool := (List.range 14).all (byteOk w) && (DirE.decode w).wf

/-- Slots that may hold the line (R99). -/
def DirE.holders (e : DirE) : List Nat :=
  if e.state = 2 then [e.owner] else if e.state = 1 then bitList e.sharers 64 else []
/-- The exclusive holder. -/
def DirE.ownerOf (e : DirE) : Option Nat := if e.state = 2 then some e.owner else none

/-- The entry of a line with the given holders, the only one exclusive when `owner` names it (R94). -/
def DirE.make (tag : Nat) (holders : List Nat) (owner : Option Nat) (age : Nat) : DirE :=
  match owner with
  | some o => { tag := tag, state := 2, owner := o, sharers := 2 ^ o, age := age }
  | none =>
    if holders.isEmpty then { tag := 0, state := 0, owner := 0x7F, sharers := 0, age := 0 }
    else { tag := tag, state := 1, owner := 0x7F, sharers := holders.foldl (fun n i => n ||| 2 ^ i) 0, age := age }

/-! ### Lines and sets (R95) -/

/-- Sets of the directory divided by 32. -/
def dirGroups : Nat := 1835008
/-- The set of line n. -/
def setOf (n : Nat) : Nat := 32 * (((n / 32) ^^^ (n / 2 ^ 23)) % dirGroups) + n % 32
/-- The TAG of line n. -/
def tagOf (n : Nat) : Nat := n / 32
/-- The line of a TAG in a set. -/
def lineAt (tag set : Nat) : Nat := tag * 32 + set % 32

/-! ### Channels and copies (R118, R120 to R123, R133) -/

/-- Is channel c in service? -/
def State.chanOk (s : State) (c : Nat) : Bool := !s.dir.retired.toNat.testBit c

/-- The pair that carries block i of pair p now: the reserve's pair for a relocated block (R133). -/
def State.pairFor (s : State) (p i : Nat) : Nat :=
  match s.dir.reloc with
  | some r =>
    if r.pair = p ∧ (r.done ∨ i < r.pointer) ∧ ¬ r.skipped.contains i then
      ((List.range 16).filter (· ≠ p)).getD (i % 15) p
    else p
  | none => p

/-- Are copy 0 and copy 1 of block `set`, which holds that directory set, in service? -/
def State.copiesUp (s : State) (set : Nat) : Bool × Bool :=
  let q := s.pairFor (set % 16) (set / 16)
  (s.chanOk q, s.chanOk (q + 16))

/-- Has the set lost both copies (R134)? -/
def State.setLost (s : State) (set : Nat) : Bool := !(s.copiesUp set).1 && !(s.copiesUp set).2

/-- Is copy 1 of block b the one that a normal read goes to (R121)? A relocated block keeps its number's parity (DESIGN CHOICE,
log entry 83). -/
def firstIsOne (b : Nat) : Bool := b / 16 % 2 == 1

/-- Data blocks of a pair (R133). -/
def pairBlocks : Nat := 3899392

/-- The data address whose bytes lie at address a of the reserve, once its block has moved there (R133). -/
def State.reserveHome (s : State) (a : Nat) : Option Nat :=
  match s.dir.reloc with
  | none => none
  | some r =>
    let q := a / 256 % 16
    let k := a / 4096 - pairBlocks
    if q = r.pair then none
    else
      let i := 15 * k + (if q < r.pair then q else q - 1)
      if i < pairBlocks ∧ (r.done ∨ i < r.pointer) ∧ ¬ r.skipped.contains i then some (256 * (16 * i + r.pair) + a % 256)
      else none

/-- The address under which the model holds the bytes at logical address a. -/
def State.homeAddr (s : State) (a : Nat) : Nat :=
  if a < 0x3B8000000 then a else (s.reserveHome a).getD a

/-- Bits of one copy of the byte at logical address a change, where its channel is in service. -/
def State.flipByte (s : State) (addr : Nat) (one : Bool) (f : Byte) : State :=
  let a := s.homeAddr addr
  let up := s.copiesUp (a / 256)
  let word (t : Tbl dirFill) : Tbl dirFill := t.upd (a / 16) (· ^^^ BitVec.ofNat 128 (f.toNat * 2 ^ (8 * (a % 16))))
  let bits (t : Tbl false) : Tbl false :=
    (bitList f.toNat 8).foldl (fun t j => t.upd ((a - 0x380000000) * 8 + j) (!·)) t
  let byte (t : Tbl (0 : Byte)) : Tbl (0 : Byte) := t.upd a (· ^^^ f)
  if ¬ (if one then up.2 else up.1) then s
  else if a < 0x380000000 then
    (if one then { s with dir.copy1 := word s.dir.copy1 } else { s with dir.copy0 := word s.dir.copy0 })
  else if a < 0x3A0000000 then
    (if one then { s with dir.dirty1 := bits s.dir.dirty1 } else { s with dir.dirty0 := bits s.dir.dirty0 })
  else if one then { s with dir.flip1 := byte s.dir.flip1 } else { s with dir.flip0 := byte s.dir.flip0 }

/-- By which bits does the copy of the byte at a that a read takes, the other one after a read fault, differ from what was written;
none where both copies are out of service? -/
def State.flipAt (s : State) (a : Nat) (swap : Bool) : Option Byte :=
  let up := s.copiesUp (a / 256)
  if ¬ up.1 ∧ ¬ up.2 then none
  else
    let one : Bool := if up.1 && up.2 then firstIsOne (a / 256) != swap else up.2
    some (if one then s.dir.flip1.get a else s.dir.flip0.get a)

/-- Do the copies of a span differ from what was written? -/
def State.flipped (s : State) (base len : Nat) : Bool :=
  (s.dir.flip0.keys ++ s.dir.flip1.keys).any fun a => decide (base ≤ a) && decide (a < base + len)

/-- Bytes written from `base` on, as one of the two copies of each block gives them. -/
def State.copyBytes (s : State) (base : Nat) (l : List Byte) (swap : Bool) : List Byte :=
  ((s.dir.flip0.keys ++ s.dir.flip1.keys).eraseDups.filter fun a =>
    decide (base ≤ a) && decide (a < base + l.length)).foldl (fun l a =>
      l.modify (a - base) (· ^^^ (s.flipAt a swap).getD 0)) l

/-- One entry of one copy. -/
def Dir.copy (d : Dir) (one : Bool) (set way : Nat) : BitVec 128 :=
  if one then d.copy1.get (16 * set + way) else d.copy0.get (16 * set + way)

/-- Does the read of block b fail its CRC for the fourth time, so that the other copy is read (R121)? It is counted against the
first channel. Where no other copy is in service the read is made once more (DESIGN CHOICE, log entry 83). -/
def State.readFault (s : State) (b : Nat) : Bool × State :=
  let up := s.copiesUp b
  let one : Bool := if up.1 && up.2 then firstIsOne b else up.2
  let c := s.pairFor (b % 16) (b / 16) + (if one then 16 else 0)
  if (up.1 || up.2) && s.dir.readErr.toNat.testBit c then
    (up.1 && up.2, State.countGlobal { s with dir.readErr := s.dir.readErr &&& ~~~ BitVec.ofNat 32 (2 ^ c) } (128 + c))
  else (false, s)

/-- What a read of one way finds (R123). -/
inductive WayRead where
  /-- a good entry, and the copies that failed and are rewritten -/
  | good (w : BitVec 128) (fix : List Bool)
  /-- uncorrectable in both copies: its TAG, when readable, or both where the copies differ (R126, R130) -/
  | bad (w : BitVec 128) (tags : List Nat)
deriving DecidableEq, Repr

/-- Byte by byte, with its parity bit, the other copy where it passes and the first copy otherwise (R123). Where every byte passes in
some copy this is the merged entry with parity recomputed. -/
def mergeWords (first other : BitVec 128) : BitVec 128 :=
  let src (k : Nat) : Nat := if byteOk other k then other.toNat else first.toNat
  let v := pack ((List.range 14).map fun k => (8, field (src k) (8 * k) 8))
  BitVec.ofNat 128 (v + 2 ^ 112 * bitsOf ((List.range 14).map fun k => (src k).testBit (112 + k)))

/-- The readable TAG of a word that is uncorrectable (R126). -/
def readableTag (w : BitVec 128) : List Nat := if (List.range 5).all (byteOk w) then [(DirE.decode w).tag] else []

/-- Read one way from the copies in service, the other copy first after a read fault (R121, R123). Where both copies fail and merge,
both are rewritten (DESIGN CHOICE, log entry 83). -/
def State.readWay (s : State) (set way : Nat) (swap : Bool := false) : WayRead :=
  let up := s.copiesUp set
  let a := s.dir.copy false set way
  let b := s.dir.copy true set way
  let alone (w : BitVec 128) : WayRead := if dirPass w then .good w [] else .bad w (readableTag w)
  match up.1, up.2, s.dir.conflicted.find? (·.1 == 16 * set + way) with
  | false, false, _ => .bad a []
  | _, _, some c => .bad a c.2
  | true, false, none => alone a
  | false, true, none => alone b
  | true, true, none =>
    let fromOne := firstIsOne set != swap
    let first := if fromOne then b else a
    let other := if fromOne then a else b
    if dirPass first then .good first []
    else if dirPass other then .good other [fromOne]
    else
      let m := mergeWords first other
      if dirPass m then .good m [false, true] else .bad m (readableTag m)

/-- Write words at a way and those after it in every copy in service (R120). -/
def State.writeCopies (s : State) (set way : Nat) (l : List (BitVec 128)) : State :=
  let up := s.copiesUp set
  let put (t : Tbl dirFill) : Tbl dirFill := l.zipIdx.foldl (fun t w => t.set (16 * set + way + w.2) w.1) t
  { s with
    dir.copy0 := if up.1 then put s.dir.copy0 else s.dir.copy0
    dir.copy1 := if up.2 then put s.dir.copy1 else s.dir.copy1 }

/-- Repair the failing copy of a way and count DIR_CORRECTED against its channel (R123), which also keeps the corrections of its
last second (R132). -/
def State.repairCopy (s : State) (set way : Nat) (one : Bool) (w : BitVec 128) : State :=
  let c := s.pairFor (set % 16) (set / 16) + (if one then 16 else 0)
  let s := if one then { s with dir.copy1 := s.dir.copy1.set (16 * set + way) w }
    else { s with dir.copy0 := s.dir.copy0.set (16 * set + way) w }
  let recent (l : List Nat) : List Nat := l.filter (fun t => decide (s.sys.ft < t + 1000000000)) ++ [s.sys.ft]
  State.countGlobal { s with dir.corrections := s.dir.corrections.upd c recent } (96 + c)

/-- A channel in service with more corrections in a second than the limit (R132). -/
def State.overLimit (s : State) : Option Nat :=
  (List.range 32).find? fun c => s.chanOk c && decide (s.tab.dirParam.correctionLimit < (s.dir.corrections.get c).length)

/-! ### The directory cache (R125) -/

/-- Row of a set. -/
def cacheRow (set : Nat) : Nat := set % 4096

/-- Is a set pinned: is a line of it held? Writes are accepted by both channels at once (DESIGN CHOICE, log entry 9). -/
def State.pinned (s : State) (set : Nat) : Bool :=
  s.dp.lines.cells.any fun c => c.2.isSome && setOf c.1 == set

/-- The cached set, when present. -/
def State.cachedSet (s : State) (set : Nat) : Option CacheSet := (s.dir.cache.get (cacheRow set)).find? (·.set == set)

/-- Count and log an uncorrectable entry (R126). -/
def State.logUncorrectable (s : State) (set way : Nat) : State :=
  let s := (s.countGlobal 80).log 0x0203 2 [(4, set), (1, way), (1, s.pairFor (set % 16) (set / 16))]
  s.freezeMaskable 6

/-- Read the 16 ways of a set from GDDR6, repairing copies and logging uncorrectable ways. -/
def State.readSet (s : State) (set : Nat) : List (BitVec 128) × State :=
  let (swap, s) := s.readFault set
  (List.range 16).foldl (fun (acc : List (BitVec 128) × State) w =>
    match acc.2.readWay set w swap with
    | .good v fix => (acc.1 ++ [v], fix.foldl (fun s one => s.repairCopy set w one v) acc.2)
    | .bad v _ => (acc.1 ++ [v], acc.2.logUncorrectable set w)) ([], s)

/-- Bring a set into the cache: the least recently used unpinned set makes room; none when all 8 ways are pinned. -/
def State.fetchSet (s : State) (set : Nat) : Option State :=
  let row := s.dir.cache.get (cacheRow set)
  match row.find? (·.set == set) with
  | some c =>
    some { s with dir.cache := s.dir.cache.set (cacheRow set) (c :: row.filter (·.set ≠ set)) }
  | none =>
    let victim := (row.reverse.find? fun c => !s.pinned c.set).map (·.set)
    let room : Option (List CacheSet) :=
      if row.length < 8 then some row else victim.map fun v => row.filter (·.set ≠ v)
    room.map fun rest =>
      let (ways, s) := (s.countGlobal 86).readSet set
      { s with dir.cache := s.dir.cache.set (cacheRow set) (⟨set, ways⟩ :: rest) }

/-- The ways of a set as cached. -/
def State.waysOf (s : State) (set : Nat) : List (BitVec 128) :=
  match s.cachedSet set with
  | some c => c.ways
  | none => (s.readSet set).1

/-- Write one way through the cache to both copies, with its neighbour in the same 32 B (R120, R125). -/
def State.writeWay (s : State) (set way : Nat) (w : BitVec 128) : State :=
  let ways := (s.waysOf set).set way w
  let upd (c : CacheSet) : CacheSet := if c.set = set then { c with ways := c.ways.set way w } else c
  let k := way / 2 * 2
  State.writeCopies
    { s with
      dir.cache := s.dir.cache.upd (cacheRow set) (·.map upd)
      dir.conflicted := s.dir.conflicted.filter (·.1 != 16 * set + way) }
    set k [ways.getD k dirFill, ways.getD (k + 1) dirFill]

/-- Is a cached way good: does it pass, and did its copies not differ? -/
def State.wayGood (s : State) (set way : Nat) (w : BitVec 128) : Bool :=
  dirPass w && !s.dir.conflicted.any (·.1 == 16 * set + way)

/-- A way's TAG, readable in some copy, or both TAGs of copies that differ (R126, R130). -/
def State.wayTags (s : State) (set way : Nat) : List Nat :=
  match s.readWay set way with
  | .good w _ => [(DirE.decode w).tag]
  | .bad _ t => t

/-- What a lookup of line n finds in its cached set (R96, R126). -/
inductive Found where
  | entry (way : Nat) (e : DirE)
  | absent
  /-- the way whose TAG is the line's, or the first way with unknown TAG -/
  | uncorrectable (way : Option Nat)
deriving DecidableEq, Repr

/-- Look a line up in the ways of its set: a damaged way with its TAG, then an entry, then a way whose TAG is unknown (R126). -/
def State.lookupLine (s : State) (n : Nat) : Found :=
  let set := setOf n
  if s.setLost set then .uncorrectable none
  else
    let ways := s.waysOf set
    let idx := List.range 16
    let good (w : Nat) : Bool := s.wayGood set w (ways.getD w dirFill)
    match idx.find? fun w => !good w && (s.wayTags set w).contains (tagOf n) with
    | some w => .uncorrectable (some w)
    | none =>
      match idx.find? fun w => good w && (DirE.decode (ways.getD w dirFill)).state != 0
          && (DirE.decode (ways.getD w dirFill)).tag == tagOf n with
      | some w => .entry w (DirE.decode (ways.getD w dirFill))
      | none =>
        match idx.find? fun w => !good w && (s.wayTags set w).isEmpty with
        | some w => .uncorrectable (some w)
        | none => .absent

/-- Uncorrectable ways of a set, with their readable TAGs. -/
def State.badWays (s : State) (set : Nat) : List (Nat × List Nat) :=
  let ways := s.waysOf set
  ((List.range 16).filter fun w => !s.wayGood set w (ways.getD w dirFill)).map fun w => (w, s.wayTags set w)

/-- The way for a new entry (R96): a free way, or the victim to evict. -/
inductive WayChoice where
  | free (way : Nat)
  | evict (way : Nat) (e : DirE)
  | wait
deriving DecidableEq, Repr

/-- Choose a way of a set for allocation (R96, R127). -/
def State.chooseWay (s : State) (set : Nat) : WayChoice :=
  let ways := s.waysOf set
  let e (w : Nat) : DirE := DirE.decode (ways.getD w dirFill)
  let good := (List.range 16).filter fun w => s.wayGood set w (ways.getD w dirFill)
  match good.find? fun w => (e w).state == 0 with
  | some w => .free w
  | none =>
    let held (w : Nat) : Bool := (s.dp.lines.get (lineAt (e w).tag set)).isSome
    let cands := good.filter fun w => !held w
    match (([3, 2, 1, 0] : List Nat).flatMap fun a => cands.filter fun w => (e w).age == a).head? with
    | some w => .evict w (e w)
    | none => .wait

/-- Write an entry into a newly allocated way: AGE 0 for it, one more for every other valid way (R96). -/
def State.allocWay (s : State) (set way : Nat) (e : DirE) : State :=
  let ways := s.waysOf set
  let s := ((List.range 16).filter (· ≠ way)).foldl (fun s w =>
    let v := ways.getD w dirFill
    let d := DirE.decode v
    if s.wayGood set w v ∧ d.state ≠ 0 ∧ d.age < 3 then s.writeWay set w ({ d with age := d.age + 1 }).encode else s) s
  s.writeWay set way ({ e with age := 0 }).encode

end Sys2Proof.Machine
end

