-- ==== Sys2Proof/Machine/Txn.lean ====
section
/-! DEFINITION. Transactions (R77 to R84): entries, tags, line holds, and the answers of COMPLETE and of R50. -/

namespace Sys2Proof.Machine

/-- Transaction i. -/
def State.txn (s : State) (i : Nat) : Txn := s.dp.txns.get i
/-- Write transaction i. -/
def State.putTxn (s : State) (i : Nat) (t : Txn) : State := { s with dp.txns := s.dp.txns.set i t }
/-- Change transaction i. -/
def State.updTxn (s : State) (i : Nat) (f : Txn → Txn) : State := s.putTxn i (f (s.txn i))

/-- Make a suspended or stalled transaction run again. -/
def State.wake (s : State) (i : Nat) : State :=
  let s := s.updTxn i fun t => if t.state = .free ∨ t.state = .draining then t else { t with state := .running }
  if s.dp.ready.contains i then s
  else { s with dp.ready := s.dp.ready ++ [i], dp.stalled := s.dp.stalled.filter (· ≠ i) }

/-! ### Entries -/

/-- TXN_QUOTA of an ingress point (R80). -/
def State.quota (s : State) (x : Nat) : Nat :=
  if x < 72 then (s.param x).txnQuota else if x = 72 then 16384 else if x = 74 then 256 else 0

/-- Shared entries in use. -/
def State.sharedUsed (s : State) : Nat :=
  (s.dp.txns.cells.filter fun c => c.2.state != .free && !c.2.reserve).length
/-- Reserve entries in use. -/
def State.reserveUsed (s : State) : Nat :=
  (s.dp.txns.cells.filter fun c => c.2.state != .free && c.2.reserve).length
/-- Shared entries that an ingress point holds. -/
def State.pointUsed (s : State) (x : Nat) : Nat :=
  (s.dp.txns.cells.filter fun c => c.2.state != .free && !c.2.reserve && c.2.ingress == x).length

/-- May a transaction of ingress point x take a shared entry (R80)? -/
def State.sharedRoom (s : State) (x : Nat) : Bool :=
  decide (s.sharedUsed < 129024) && decide (s.pointUsed x < s.quota x)
/-- Is a reserve entry free? -/
def State.reserveRoom (s : State) : Bool := decide (s.reserveUsed < 2048)

/-- Fill a free entry (R77, R52): which index it is, is a free value. -/
def State.newTxn (s : State) (t : Txn) : Option (Nat × State) :=
  let (f, s) := s.free
  match searchFrom (fun i => (s.txn i).state == .free) 131072 f 131072 with
  | none => none
  | some i =>
    let lo := s.tab.epoch.setWidth 8
    let t := { t with
      state := .running, bank := s.tab.cur, epochLo := lo, reuse := (s.txn i).reuse + 1
      lifeDl := usOf s.sys.ft + BitVec.ofNat 20 (s.tab.ident.completionMs * 1000) }
    some (i, { s.putTxn i t with dp.live := s.dp.live.upd lo.toNat (· + 1) })

/-! ### Tags (R78, R79) -/

/-- Trunk tag of transaction i. -/
def State.trunkTag (s : State) (i : Nat) : BitVec 24 :=
  BitVec.ofNat 24 (i % 2 ^ 17 + 2 ^ 17 * (s.txn i).reuse.toNat)

/-- Allocate a slot of downstream port p's tag table; the 16-bit CXL tag and the new state. -/
def State.takeTag (s : State) (p i : Nat) (u : TagUse) : Option (BitVec 24 × State) :=
  let (f, s) := s.free
  match searchFrom (fun k => !(s.dp.tags.get (4096 * p + k)).alloc) 4096 f 4096 with
  | none => none
  | some k =>
    let r := (s.dp.tags.get (4096 * p + k)).reuse + 1
    some (BitVec.ofNat 24 (k + 4096 * r.toNat),
      { s with dp.tags := s.dp.tags.set (4096 * p + k) { alloc := true, reuse := r, txn := i, use := u } })

/-- Has port p a free tag slot? -/
def State.tagRoom (s : State) (p n : Nat) : Bool :=
  decide ((s.dp.tags.cells.filter fun c => c.1 / 4096 == p && c.2.alloc).length + n ≤ 4096)

/-- Free a tag slot, keeping its reuse count. -/
def State.freeTag (s : State) (k : Nat) : State :=
  { s with dp.tags := s.dp.tags.upd k (fun t => { reuse := t.reuse }), dp.freed := true }

/-- Allocate a BITag slot of host port p. -/
def State.takeBiTag (s : State) (p i slot : Nat) : Option (BitVec 24 × State) :=
  let (f, s) := s.free
  match searchFrom (fun k => !(s.dp.bitags.get (4096 * p + k)).alloc) 4096 f 4096 with
  | none => none
  | some k =>
    some (BitVec.ofNat 24 k,
      { s with dp.bitags := s.dp.bitags.set (4096 * p + k) { alloc := true, txn := i, slot := slot } })

/-- Has host port p a free BITag slot? -/
def State.biTagRoom (s : State) (p : Nat) : Bool :=
  decide ((s.dp.bitags.cells.filter fun c => c.1 / 4096 == p && c.2.alloc).length < 4096)

/-- Free a BITag slot. -/
def State.freeBiTag (s : State) (k : Nat) : State :=
  { s with dp.bitags := s.dp.bitags.set k {}, dp.freed := true }

/-- Quarantine the BITags that transaction i still has outstanding (R79, R112). -/
def State.quarantineBi (s : State) (i : Nat) : State :=
  (s.dp.bitags.find fun _ t => t.alloc && !t.quarantined && t.txn == i).foldl
    (fun s k => { s with dp.bitags := s.dp.bitags.upd k fun t => { t with quarantined := true } }) s

/-- Quarantine what transaction i still has outstanding (R79). -/
def State.quarantine (s : State) (i : Nat) : State :=
  (s.dp.tags.find fun _ t => t.alloc && !t.quarantined && t.txn == i).foldl
    (fun s k => { s with dp.tags := s.dp.tags.upd k fun t => { t with quarantined := true } }) (s.quarantineBi i)

/-! ### Line holds (R97) -/

/-- The hold of transaction i on its line ends: the first in the queue takes it and resumes its DIR_LOOKUP. -/
def State.endHold (s : State) (i : Nat) : State :=
  match (s.txn i).line with
  | none => s
  | some n =>
    let s := s.updTxn i fun t => { t with line := none }
    match s.dp.lines.get n with
    | none => s
    | some a =>
      if a.holder ≠ i then s
      else match a.queue with
        | [] => { s with dp.lines := s.dp.lines.set n none, dp.freed := true }
        | j :: rest =>
          let s := { s with dp.lines := s.dp.lines.set n (some ⟨j, rest⟩), dp.freed := true }
          let s := s.updTxn j fun t => { t with line := some n, waitLine := none }
          let s := { s with dp.pendingWrites := s.dp.pendingWrites.filter (·.txn ≠ some j) }
          s.wake j

/-- Leave a line's wait queue. -/
def State.leaveQueue (s : State) (i : Nat) : State :=
  match (s.txn i).waitLine with
  | none => s
  | some n =>
    let s := s.updTxn i fun t => { t with waitLine := none }
    { s with dp.lines := s.dp.lines.upd n (·.map fun a => { a with queue := a.queue.filter (· ≠ i) }) }

/-- A record passes its ordering point (R107). -/
def State.passOrdering (s : State) (i : Nat) : State :=
  { s with dp.pendingWrites := s.dp.pendingWrites.filter (·.txn ≠ some i) }

/-- The answer that a trunk delivered to transaction i has gone on, or its transaction ends (R106). -/
def State.undeliver (s : State) (i : Nat) : State :=
  if s.dp.delivered.any (·.2 == i) then
    { s with dp.delivered := s.dp.delivered.filter (·.2 ≠ i), dp.freed := true }
  else s

/-- May transaction i answer now? The answers that one trunk delivered go on toward host ports in their order of delivery
(R106). -/
def State.answerTurn (s : State) (i : Nat) : Bool :=
  match s.dp.delivered.find? (·.2 == i) with
  | none => true
  | some d => (s.dp.delivered.find? (·.1 == d.1)) == some d

/-! ### Marked writes (R211) -/

/-- A marked write has landed: OUT of its phase (R211). -/
def State.dropMark (s : State) (mark : Option (Nat × Bool)) : State :=
  match mark with
  | none => s
  | some (k, w) =>
    { s with wq.slots := s.wq.slots.upd k fun m =>
        if w then { m with out1 := m.out1 - 1 } else { m with out0 := m.out0 - 1 } }

/-- Count a marked write of transaction i as landed. -/
def State.unmark (s : State) (i : Nat) : State :=
  (s.updTxn i fun t => { t with mark := none }).dropMark (s.txn i).mark

/-- Every write of attached record k of transaction i has landed. -/
def State.attachedLanded (s : State) (i k : Nat) : State :=
  match (s.txn i).attached[k]? with
  | none => s
  | some a =>
    if a.outstanding ≠ 0 then s
    else (s.updTxn i fun t => { t with attached := t.attached.modify k fun a => { a with mark := none } }).dropMark a.mark

/-- Set line n's dirty bit in slot k, both copies and the summary (R124, R211, R224). -/
def State.markDirty (s : State) (k n : Nat) : State :=
  let j := n % 2 ^ 22
  let block := 2048 * k + j / 2048
  let addr := 0x380000000 + k * 0x80000 + j / 2048 * 256
  let up := s.copiesUp (addr / 256)
  let s := if up.1 then { s with dir.dirty0 := s.dir.dirty0.set (k * 2 ^ 22 + j) true } else s
  let s := if up.2 then { s with dir.dirty1 := s.dir.dirty1.set (k * 2 ^ 22 + j) true } else s
  { s with wq.summary := s.wq.summary.set block true }

/-- A write to line n of the tile of slot k is marked and counted in OUT of the current phase (R211): its mark. -/
def State.addMark (s : State) (k n : Nat) : (Nat × Bool) × State :=
  let w := (s.wq.slots.get k).wphase
  let s := s.markDirty k n
  ((k, w), { s with wq.slots := s.wq.slots.upd k fun m =>
    if m.wphase then { m with out1 := m.out1 + 1 } else { m with out0 := m.out0 + 1 } })

/-- Does a transaction that has completed keep its line hold for the write made under it (R220)? -/
def Txn.keeps (t : Txn) : Bool :=
  t.line.isSome && !t.lifeOver && (match t.issuer with
    | .job _ 3 _ => true
    | _ => false)

/-! ### The end of a transaction -/

/-- Tell the issuer of an internal transaction how it ended. -/
def State.report (s : State) (i result : Nat) (data : Line) : State :=
  let t := s.txn i
  if t.issuer = .none ∨ t.reported then s
  else { s.putTxn i { t with reported := true } with dp.done := s.dp.done ++ [⟨t.issuer, result, data⟩] }

/-- Free a transaction entry and what it holds (R48, R77, R109). -/
def State.freeTxn (s : State) (i : Nat) (result : Nat := 0) : State :=
  let t := s.txn i
  if t.state = .free then s
  else
    let s := s.report i (if t.poisonedLine then 1 else result) 0
    let s := ((s.endHold i).leaveQueue i).unmark i
    let s := ((s.quarantine i).passOrdering i).undeliver i
    let s := (s.releaseRec t.record).releaseRec (t.rsp.bind (·.2))
    let s := t.attached.foldl (fun s a => (if a.done then s else s.releaseRec a.record).dropMark a.mark) s
    let confs := s.dp.conflicts.find fun _ c => c.valid && c.txn == i
    let s := confs.foldl (fun s k => { s with dp.conflicts := s.dp.conflicts.set k {} }) s
    { s.putTxn i { reuse := t.reuse } with
      dp.live := s.dp.live.upd t.epochLo.toNat (· - 1)
      dp.ready := s.dp.ready.filter (· ≠ i)
      dp.stalled := s.dp.stalled.filter (· ≠ i)
      dp.freed := true }

/-- The final message of transaction i is queued: the entry drains and its hold ends (R77, R97). Where the link is down
the message is discarded and the entry freed (R84). -/
def State.sendFinal (s : State) (i x q : Nat) (e : QEntry) : State :=
  let t := s.txn i
  let s := s.report i 0 0
  if s.pointUp x then
    let s := ((s.enqueue x q { e with txn := some i, final := true }).endHold i).undeliver i
    ((s.unmark i).passOrdering i).updTxn i fun t => { t with state := .draining, wait := .none }
  else (s.countFlush x).freeTxn i (if t.erroring then 2 else 0)

/-! ### Answers -/

/-- Is the transaction's tenant generation out of date (R22)? -/
def State.stale (s : State) (t : Txn) : Bool := !t.noTenant && s.tab.gens.get t.tenant != t.gen

/-- What to check again when a message leaves toward a host port (R22). -/
def Txn.genOf (t : Txn) (x : Nat) : Option (Nat × U16) := if x < 64 ∧ ¬ t.noTenant then some (t.tenant, t.gen) else none

/-- The header that every answer to the requester of t starts from (R49, R277). -/
def Txn.answerMsg (t : Txn) (op : Nat) : Msg :=
  { op := BitVec.ofNat 6 op, addr := t.msg.addr, tag := t.reqTag, tenant := BitVec.ofNat 12 t.tenant, gen := t.gen,
    attr := t.msg.attr, originRank := t.msg.originRank, originPort := t.msg.originPort, hostTag := t.msg.hostTag,
    colour := t.colour, ld := t.msg.ld, vppb := t.msg.vppb }

/-- The point by which a message for the host port `port` behind point x leaves: on a trunk, the one of its pair that the port's
parity names, or the other while that one is down (R106). -/
def State.backPoint (s : State) (x port : Nat) : Nat :=
  if 64 ≤ x ∧ x < 72 then ((s.trunkOfPair ((x - 64) / 2) port).map (64 + ·)).getD x else x

/-- The point by which answers return to the requester. -/
def State.answerPoint (s : State) (t : Txn) : Nat := s.backPoint t.ingress t.msg.originPort.toNat

/-- Room for n answers of transaction i, whose fields are t, to the requester. -/
def State.answerRoom (s : State) (i : Nat) (t : Txn) (n : Nat) : Bool :=
  72 ≤ t.ingress || (s.answerTurn i && s.queueRoom (s.answerPoint t) (if t.cls = 6 then 4 else 1) 0 n)

/-- Send the messages of COMPLETE to the requester, the last one final (R49, R50). A message of a stale generation is
discarded and counted, and the entry freed (R22). -/
def State.answer (s : State) (i : Nat) (ms : List (Msg × Option Nat × Nat)) : State :=
  let t := s.txn i
  let x := s.answerPoint t
  let q := if t.cls = 6 then 4 else 1
  if x < 64 ∧ s.stale t then (s.countPort x 21).freeTxn i
  else
    match ms.reverse with
    | [] => s.freeTxn i
    | (m, r, u) :: before =>
      let entry (m : Msg) (r : Option Nat) (u : Nat) : QEntry :=
        { msg := m, record := r, units := u, gen := t.genOf x, sf := decide (t.cls = 6),
          cls := if t.cls = 2 then 2 else if t.cls = 6 then 6 else 4 }
      let s := before.reverse.foldl (fun s p => s.send x q { entry p.1 p.2.1 p.2.2 with txn := some i }) s
      s.sendFinal i x q (entry m r u)

/-- The General Media event of an unmapped or denied access (R28), in the Warning log (DESIGN CHOICE, log entry 70). -/
def State.unmappedEvent (s : State) (t : Txn) : State :=
  match t.reason with
  | some r => if t.ingress < 64 ∧ r ≠ 1 then s.poolEvent t.ingress 1 0 [r, t.msg.addr.toNat] else s
  | none => s

/-- The error answer of R50 to the requester of t, with its units; none for a message that expects no response. -/
def Txn.errorAnswer (t : Txn) : Option (Msg × Nat) :=
  let io := t.cls == 6 && ioWantsCpl t.opcode t.msg.payload
  if t.cls = 7 then none
  else if 64 ≤ t.ingress then
    (if isRead t.cls t.opcode ∨ wantsCmp t.cls t.opcode ∨ t.cls = 3 ∨ io then some (t.answerMsg opFabricErr, 1) else none)
  else if isRead t.cls t.opcode then some ({ t.answerMsg opMemData with poison := true }, 5)
  else if wantsCmp t.cls t.opcode then some (t.answerMsg 0, 1)
  else if t.cls = 3 then some (t.answerMsg opBiConflictAck, 1)
  else if io then some ({ t.answerMsg 3 with unsupported := true }, 2)
  else none

/-- COMPLETE(ERROR) (R50); none while the requester's RESPONSE queue is full. -/
def State.completeError (s : State) (i : Nat) : Option State :=
  let t := s.txn i
  match t.errorAnswer with
  | none => some (if t.cls = 7 then (s.report i (if t.faulted then 3 else 2) 0).freeTxn i 2 else s.freeTxn i 2)
  | some (m, u) => if s.answerRoom i t 1 then some ((s.unmappedEvent t).answer i [(m, none, u)]) else none

/-- Begin to end a transaction as COMPLETE(ERROR) (R58, R82, R135): it runs again and ends. -/
def State.endError (s : State) (i : Nat) : State :=
  let s := (s.leaveQueue i).updTxn i fun t => { t with erroring := true, wait := .none }
  s.wake i

/-- Log and count a recipe fault, and end the transaction (R58). -/
def State.recipeFault (s : State) (i : Nat) : State :=
  let t := s.txn i
  let s := (s.countGlobal 1).log 0x0103 2
    [(1, t.cls), (1, t.opcode), (1, t.source), (1, t.ingress), (2, t.recipe), (1, t.step)]
  (s.freezeMaskable 9).endError i

/-- Header parity or CRC fails on a message of transaction i that is not its last: the transaction ends as COMPLETE(ERROR), and
what it still has queued is void (R76, R136). -/
def State.failSent (s : State) (i : Nat) : State :=
  let s := if (s.txn i).state = .draining then (s.voidOf i).updTxn i fun t => { t with state := .running } else s
  (s.quarantine i).endError i

/-! ### The start of a transaction -/

/-- Start a transaction (R52) or, without a dispatch entry, end it as R57 states. -/
def State.startTxn (s : State) (t : Txn) : Option (Nat × State) :=
  let idx := t.cls * 256 + t.opcode * 4 + t.source
  let d := (s.bank.dispatch.get idx).toNat
  match s.newTxn { t with recipe := field d 0 11 } with
  | none => none
  | some (i, s) =>
    if s.isDamaged (.dispatch (BitVec.ofNat 11 idx)) then some (i, s.recipeFault i)
    else if d.testBit 11 then some (i, s.wake i)
    else
      let s := (s.countGlobal 0).log 0x0102 2
        [(1, t.cls), (1, t.opcode), (1, t.source), (1, t.ingress), (2, 0), (1, 0)]
      some (i, s.endError i)

end Sys2Proof.Machine
end

