-- ==== Sys2Proof/Machine/Home.lean ====
section
/-! DEFINITION. The coherence home (spec/05): DIR_LOOKUP, DIR_UPDATE, SNOOP_SET, attached writebacks, answers to snoops,
conflicts, silent hosts and damaged entries; the steps' results. -/

namespace Sys2Proof.Machine

/-- What a step of the engine answers (R49, R52). -/
inductive StepRes where
  /-- the step's outcome -/
  | outcome (n : Nat) (s : State)
  /-- suspended in WAIT_RSP, WAIT_ORDER, WAIT_HOLD or POISON -/
  | suspend (s : State)
  /-- waits in its step for a queue, a tag, a way or an entry -/
  | stall (s : State)
  /-- COMPLETE or DISCARD: the step freed the entry or queued its final message -/
  | ended (s : State)
  /-- a table entry failed parity: the transaction ends as COMPLETE(ERROR) (R135) -/
  | error (s : State)
  /-- the step cannot act on the transaction's context (R58) -/
  | fault (s : State)

/-! ### The requester and the entry -/

/-- The requester's (rank, host port) (R105); none for internal sources. -/
def State.requester (s : State) (t : Txn) : Option (Nat × Nat) :=
  if t.ingress < 64 then some (s.rank, t.ingress)
  else if t.ingress < 72 then some (t.msg.originRank.toNat, t.msg.originPort.toNat)
  else none

/-- The requester's valid sharer slot (R92). -/
def State.ownSlot (s : State) (t : Txn) : Option Nat :=
  (s.requester t).bind fun r => (s.tab.bank t.bank).slotOf r.1 r.2

/-- Copy a home tile map entry into a transaction (R30, R49). -/
def Txn.copyHome (t : Txn) (rank tile : Nat) (h : HtEntry) : Txn :=
  { t with
    homeRank := rank, homeTile := tile, attr := h.attr, homeState := h.state, mirrored := h.mirrored,
    singleCopy := h.singleCopy, pPort := h.pPort, pTile := h.pTile, mPort := h.mPort, mTile := h.mTile,
    migSlot := h.migSlot, home := true }

/-- A home transaction on line n with its hold (R96, R115): `op` VICTIM_EVICT or ENTRY_REBUILD. Without a recipe it ends at once
(R57). None when no reserve entry is free. -/
def State.homeTxn (s : State) (op n : Nat) (f : Txn → Txn) : Option (Nat × State) :=
  if ¬ s.reserveRoom then none
  else
    let tile := n / 2 ^ 22
    let addr := fabricAddr s.rank tile (n % 2 ^ 22 * 64)
    let t : Txn := { cls := 7, opcode := op, source := 1, ingress := xHome, addr := addr, reserve := true,
                     noTenant := true, line := some n, msg := { addr := BitVec.ofNat 64 addr } }
    s.startTxn (f (t.copyHome s.rank tile (s.tab.ht.get tile)))

/-- Start a VICTIM_EVICT of an entry of line n; its hold is taken at once. -/
def State.startEvict (s : State) (n : Nat) (e : BitVec 128) (who : Issuer) : Option State :=
  match s.homeTxn opVictimEvict n (fun t => { t with victim := some e, issuer := who }) with
  | none => none
  | some (i, s) =>
    let q := ((s.dp.lines.get n).map (·.queue)).getD []
    some (State.countGlobal { s with dp.lines := s.dp.lines.set n (some ⟨i, q⟩) } 83)

/-- Start an ENTRY_REBUILD of line n, which takes over the hold of transaction `from` or joins ahead of the queue. -/
def State.startRebuild (s : State) (n : Nat) (way : Option (Nat × Nat)) (who : Issuer) : Option State :=
  match s.homeTxn opEntryRebuild n (fun t => { t with damagedWay := way, issuer := who }) with
  | none => none
  | some (i, s) =>
    let q := ((s.dp.lines.get n).map (·.queue)).getD []
    some (State.countGlobal { s with dp.lines := s.dp.lines.set n (some ⟨i, q⟩) } 84)

/-- Queue a candidate sweep of an unknown-TAG way, unless one runs or waits (R127). -/
def State.queueSweep (s : State) (set way : Nat) : State :=
  if s.dir.sweepQueue.contains (set, way) || s.dir.sweeps.any (fun w => w.set == set && w.way == way) then s
  else { s with dir.sweepQueue := s.dir.sweepQueue ++ [(set, way)] }

/-- A rebuild of line n for a damaged way is to start, unless one waits or runs (R126). -/
def State.queueRebuild (s : State) (n set way : Nat) : State :=
  if s.dir.rebuilds.contains (n, set, way)
      || s.dp.txns.cells.any (fun c => c.2.state != .free && c.2.line == some n && c.2.damagedWay == some (set, way)) then s
  else { s with dir.rebuilds := s.dir.rebuilds ++ [(n, set, way)] }

/-- Act on the uncorrectable ways of a set (R126): rebuild the lines of readable TAGs, sweep for an unknown one. -/
def State.handleBadWays (s : State) (set : Nat) : State :=
  (s.badWays set).foldl (fun s b =>
    if b.2.isEmpty then s.queueSweep set b.1
    else b.2.foldl (fun s tag => s.queueRebuild (lineAt tag set) set b.1) s) s

/-- Rebuilds of damaged ways start as reserve entries and holds are free (R80, R126); a way that has been written meanwhile needs
none. -/
def State.pumpRebuilds (s : State) : State :=
  s.dir.rebuilds.foldl (fun (s : State) r =>
    let fewer : State := { s with dir.rebuilds := s.dir.rebuilds.filter (· ≠ r) }
    let whole : Bool := match s.readWay r.2.1 r.2.2 with
      | .good _ _ => true
      | .bad _ _ => false
    if whole then fewer
    else if (s.dp.lines.get r.1).isSome ∨ s.sys.mode = .safe then s
    else (fewer.startRebuild r.1 (some r.2) .none).getD s) s

/-! ### DIR_LOOKUP -/

/-- The snoop set and snoop type of a request on an entry with these holders and owner (R99). -/
def snoopFor (t : Txn) (access : Nat) (want : Want) (holders : List Nat) (owner : Option Nat) : List Nat × Snoop :=
  let ownerOnly := match owner with
    | some o => [o]
    | none => []
  let r : List Nat × Snoop :=
    if access = 2 then ([], .inv)
    else if access = 3 then (ownerOnly, .cur)
    else if access = 1 then
      (if t.cls = 1 ∧ t.msg.snpType = .noOp ∧ owner.isSome ∧ owner = t.reqSlot then ([], .inv) else (holders, .inv))
    else if t.opcode = 0 ∨ t.opcode = 9 then (holders, .inv)
    else match want with
      | .excl => (holders, .inv)
      | .shared => (ownerOnly, .data)
      | .none => (ownerOnly, .cur)
  (r.1.filter fun i => t.ownSlot ≠ some i, r.2)

/-- Count a request without a usable slot against its ingress point (R92). -/
def State.countNoSlot (s : State) (t : Txn) : State :=
  if t.ingress < 72 ∧ t.reqSlot.isNone then s.count (pointCtr t.ingress 22 45) else s

/-- Is the line's tile in NO_CACHE, so that every request is served as wanting NONE (R216)? -/
def State.noCacheTile (s : State) (t : Txn) : Bool :=
  t.homeState == .migrating && (s.wq.slots.get t.migSlot).noCache

/-- Holders and owner of an entry: the valid slots it names (R99). -/
def State.validHolders (s : State) (t : Txn) (e : DirE) : List Nat × Option Nat :=
  let valid (k : Nat) : Bool := ((s.tab.bank t.bank).sharers.get k).valid
  (e.holders.filter valid, e.ownerOf.filter valid)

/-- DIR_LOOKUP (R49, R96 to R99, R126). -/
def State.dirLookup (s : State) (i : Nat) (access : Nat) : StepRes :=
  let t := s.txn i
  if access = 4 then
    match t.victim with
    | none => .fault s
    | some w =>
      let e := s.validHolders t (DirE.decode w)
      let s := s.putTxn i { t with holders := e.1, ownerNow := e.2, snoopSet := e.1, snoop := .inv }
      .outcome (if e.1.isEmpty then 0 else 1) s
  else if ¬ t.home then .fault s
  else if t.attr ≠ .sharedCoherent then .outcome 2 (s.passOrdering i)
  else
    let n := lineOf t.addr
    let held := t.line = some n
    match s.dp.lines.get n with
    | some a =>
      if ¬ held ∧ a.holder ≠ i then
        let q := if a.queue.contains i then a.queue else a.queue ++ [i]
        let s := { s with dp.lines := s.dp.lines.set n (some { a with queue := q }) }
        .suspend (s.putTxn i { t with state := .waitOrder, waitLine := some n })
      else lookup s n
    | none =>
      let s := { s with dp.lines := s.dp.lines.set n (some ⟨i, []⟩) }
      lookup ((s.putTxn i { t with line := some n }).passOrdering i) n
where
  /-- The lookup itself, with the line held. -/
  lookup (s : State) (n : Nat) : StepRes :=
    let t := s.txn i
    match s.fetchSet (setOf n) with
    | none => .stall s
    | some s1 =>
      let s := if (s.cachedSet (setOf n)).isSome then s1.countGlobal 85 else s1
      match s.lookupLine n with
      | .uncorrectable way =>
        let w := way.bind fun w => if (s.wayTags (setOf n) w).contains (tagOf n) then some (setOf n, w) else none
        match s.startRebuild n w .none with
        | none => .stall s
        | some s =>
          .outcome 3 ((s.updTxn i fun t => { t with line := none }).handleBadWays (setOf n))
      | .absent => found (s.handleBadWays (setOf n)) t [] none
      | .entry _ e =>
        let h := s.validHolders t e
        found (s.handleBadWays (setOf n)) t h.1 h.2
  /-- Build the snoop set. -/
  found (s : State) (t : Txn) (holders : List Nat) (owner : Option Nat) : StepRes :=
    let own := s.ownSlot t
    let slot := own.filter fun k => !s.slotSilent k
    let quiet := s.noCacheTile t
    let t := { t with ownSlot := own, reqSlot := slot, holders := holders, ownerNow := owner }
    let s := s.countNoSlot t
    let want := if slot.isNone ∨ quiet then .none else wantOf t.opcode t.msg
    let r := snoopFor t access want holders owner
    let s := s.putTxn i { t with want := want, snoopSet := r.1, snoop := r.2 }
    .outcome (if r.1.isEmpty then 0 else 1) s

/-! ### DIR_UPDATE -/

/-- Holders, owner and grant after the transaction (R99): `param` as in R49. In NO_CACHE every request is served as wanting NONE
(R216). -/
def Txn.after (t : Txn) (param : Nat) (quiet : Bool) : List Nat × Option Nat × Nat :=
  let others := t.holders.filter fun i => t.ownSlot ≠ some i
  let ownerElse := t.ownerNow.filter fun o => t.ownSlot ≠ some o
  let unchanged := (t.holders, t.ownerNow, 0)
  let removed := (others, ownerElse, 0)
  let invalidates := t.opcode = 0 ∨ t.opcode = 9
  match param with
  | 0 =>
    match t.reqSlot, (if quiet then Want.none else t.want) with
    | some r, .excl => ([r], some r, 2)
    | some r, .shared =>
      if invalidates then removed else if others.isEmpty then ([r], some r, 2) else (others ++ [r], none, 1)
    | _, _ => if invalidates then removed else unchanged
  | 1 =>
    match t.ownSlot with
    | none => unchanged
    | some r =>
      if quiet then removed
      else match t.msg.metaField, t.msg.metaValue with
        | .noOp, _ => unchanged
        | .meta0State, .invalid => removed
        | .meta0State, v =>
          -- a slot that is flagged is not added (R92)
          if t.reqSlot.isNone ∧ ¬ t.holders.contains r then unchanged
          else ([r], if v = .any then some r else none, 0)
  | 2 => removed
  | _ => ([], none, 0)

/-- Write line n's entry with these holders (R96); none while it must wait. -/
def State.putEntry (s : State) (n : Nat) (holders : List Nat) (owner : Option Nat) : Option State :=
  let set := setOf n
  if s.setLost set then some s
  else match s.fetchSet set with
    | none => none
    | some s =>
      let e := DirE.make (tagOf n) holders owner 0
      match s.lookupLine n with
      | .entry way _ => some (s.writeWay set way e.encode)
      | _ =>
        if e.state = 0 then some s
        else match s.chooseWay set with
          | .free way => some (s.allocWay set way e)
          | .wait => none
          | .evict way old =>
            match s.startEvict (lineAt old.tag set) old.encode .none with
            | none => none
            | some s => some (s.allocWay set way e)

/-- Clear line n's entry and the damaged way that a rebuild is for (R115, R127). -/
def State.clearEntry (s : State) (n : Nat) (damaged : Option (Nat × Nat)) : Option State :=
  match s.putEntry n [] none with
  | none => none
  | some s =>
    match damaged with
    | none => some s
    | some (set, way) =>
      if s.setLost set then some s
      else (s.fetchSet set).map fun s =>
        if s.wayGood set way ((s.waysOf set).getD way dirFill) then s else s.writeWay set way dirFill

/-- DIR_UPDATE (R49). -/
def State.dirUpdate (s : State) (i param : Nat) : StepRes :=
  let t := s.txn i
  match t.line with
  | none => .fault s
  | some n =>
    if param = 3 ∧ t.victim.isSome then .outcome 0 s
    else if param = 3 then
      match s.clearEntry n t.damagedWay with
      | none => .stall s
      | some s => .outcome 0 s
    else
      let (h, o, g) := t.after param (s.noCacheTile t)
      -- a lone holder that answered S stays SHARED (R100)
      match s.putEntry n h o with
      | none => .stall s
      | some s => .outcome 0 (s.updTxn i fun t => { t with grant := BitVec.ofNat 2 g })

/-! ### SNOOP_SET -/

/-- What becomes of the snoop to one slot (R104, R111). -/
inductive SnoopPlan where
  /-- the slot is flagged or cannot be reached: counts as timed out; KEY of its record -/
  | silent (key : Nat)
  /-- answered I at once: no address (counted), or an invalid slot -/
  | absent (count : Bool)
  | toPort (p : Nat) (hpa : Nat)
  | toTrunk (t : Nat)
deriving DecidableEq, Repr

/-- Plan the snoop of transaction i to a slot; none where the snoop address map failed parity (R135). -/
def State.planSnoop (s : State) (i slot : Nat) : Option SnoopPlan :=
  let t := s.txn i
  let b := s.tab.bank t.bank
  let e := b.sharers.get slot
  if ¬ e.valid then some (.absent false)
  else if e.rank = s.rank then
    match s.snoopAddr b e.port s.rank (field t.addr 28 19) (field t.addr 0 28 / 64 * 64) with
    | .damaged => none
    | .unmapped => some (if s.slotSilent slot then .silent 0 else .absent true)
    | .found a => some (if s.slotSilent slot ∨ ¬ (s.port e.port).dlUp then .silent (a / 64) else .toPort e.port a)
  else match (if s.slotSilent slot then none else s.trunkTo e.rank e.port) with
    | none => some (.silent (s.trunkTag i).toNat)
    | some k => some (.toTrunk k)

/-- Is there room to send a whole set of snoops (R104)? -/
def State.planRoom (s : State) (plans : List SnoopPlan) : Bool :=
  plans.all fun p => match p with
    | .toPort p _ => s.biTagRoom p && s.queueRoom p 0 0 1
    | .toTrunk k => s.queueRoom (64 + k) 0 0 (plans.count (.toTrunk k))
    | _ => true

/-- A free conflict record; which one is a free value. -/
def State.takeConflict (s : State) (c : Conflict) : Option State :=
  let (f, s) := s.free
  (searchFrom (fun k => !(s.dp.conflicts.get k).valid) 65536 f 65536).map fun k =>
    { s with dp.conflicts := s.dp.conflicts.set k c }

/-- Send one planned snoop and make its conflict record (R104, R109). ORIGIN_RANK and ORIGIN_PORT of a BISnp over a trunk are the
sharer slot's (DEDUCED, log entry 18). -/
def State.sendSnoop (s : State) (i slot : Nat) (type : Snoop) (plan : SnoopPlan) : Option State :=
  let t := s.txn i
  let base : Conflict := { valid := true, txn := i, slot := slot }
  match plan with
  | .silent key => s.takeConflict { base with key := BitVec.ofNat 58 key }
  | .absent count =>
    let s := if count then s.countGlobal 70 else s
    (s.takeConflict { base with answered := true }).map fun s => s.updTxn i fun t =>
      { t with got := t.got + 1, holders := t.holders.filter (· ≠ slot), ownerNow := t.ownerNow.filter (· ≠ slot) }
  | .toPort p hpa =>
    match s.takeBiTag p i slot with
    | none => none
    | some (tag, s) =>
      let m : Msg := { op := BitVec.ofNat 6 (snoopOp type), addr := BitVec.ofNat 64 hpa, tag := tag }
      (s.takeConflict { base with sent := true, key := BitVec.ofNat 58 (hpa / 64) }).map fun s =>
        s.send p 0 { txn := some i, msg := m, cls := 2 }
  | .toTrunk k =>
    let e := (s.tab.bank t.bank).sharers.get slot
    let tag := s.trunkTag i
    let m : Msg := { op := BitVec.ofNat 6 (snoopOp type), addr := BitVec.ofNat 64 (t.addr / 64 * 64), tag := tag,
                     originRank := BitVec.ofNat 4 e.rank, originPort := BitVec.ofNat 6 e.port,
                     attr := BitVec.ofNat 2 (attrNo t.attr)
                     snpType := match type with | .cur => .snpCur | .data => .snpData | .inv => .snpInv }
    (s.takeConflict { base with sent := true, key := tag.setWidth 58 }).map fun s =>
      s.send (64 + k) 0 { txn := some i, msg := m, cls := 2 }

/-- SNOOP_SET (R49, R104, R111). -/
def State.snoopSet (s : State) (i param : Nat) : StepRes :=
  let t := s.txn i
  if t.line.isNone then .fault s
  else
    let map := (s.tab.bank t.bank).sharers
    let slots := if param = 4 then map.find fun _ e => e.valid else t.snoopSet
    let type := match param with
      | 0 => t.snoop
      | 1 => Snoop.cur
      | 2 => Snoop.data
      | _ => Snoop.inv
    if slots.isEmpty then .outcome 1 s
    else if slots.any fun k => s.isDamaged (.sharer (Fin.ofNat 64 k)) then .error s
    else
      let used := (s.dp.conflicts.find fun _ c => c.valid).length
      match slots.mapM fun k => (s.planSnoop i k).map fun p => (k, p) with
      | none => .error s
      | some plans =>
      if ¬ s.planRoom (plans.map (·.2)) ∨ 65536 < used + slots.length then .stall s
      else
        let s := s.putTxn i { t with
          snoop := type, snoopSet := slots, expect := slots.length, got := 0, errSeen := false, snoopExpired := false
          holders := if param = 4 then slots else t.holders }
        match plans.foldl (fun (o : Option State) p => o.bind fun s => s.sendSnoop i p.1 type p.2) (some s) with
        | none => .stall s
        | some s => .outcome 0 s

/-! ### Writes to the line: attached writebacks and poison (R108, R112) -/

/-- Places of a transaction's line at the home: (port, device physical address) of the primary and, where it is written
too, the mirror (R36). -/
def Txn.places (t : Txn) : List (Nat × Nat) :=
  let off := field t.addr 0 28 / 64 * 64
  if t.homeState = .active ∨ t.homeState = .migrating then
    (t.pPort, t.pTile * 2 ^ 28 + off)
      :: (if t.mirrored ∧ ¬ t.singleCopy then [(t.mPort, t.mTile * 2 ^ 28 + off)] else [])
  else []

/-- Does a pool member's port take requests? While MEMBER_READY = 0 it is served as link down (R242). -/
def State.targetUp (s : State) (p : Nat) : Bool :=
  (s.port p).dlUp && ((s.port p).role != .poolMember || (s.port p).memberReady)

/-- Egress class and flow of a transaction's requests (R166, R167). HOME has neither in the spec; it takes REQUEST and
the MGMT flow (DESIGN CHOICE, log entry 10). -/
def Txn.lane (t : Txn) : Nat × Nat :=
  if t.cls = 7 then (if t.ingress = xMigration then (5, 0) else (2, flowMgmt))
  else if t.cls = 5 ∨ t.cls = 6 then (4, 0)
  else (colourClass t.colour, if 64 ≤ t.ingress then flowPair (t.ingress - 64) else t.tenant)

/-- Is there room to write every place of the line whose link is up? -/
def State.writeRoom (s : State) (t : Txn) : Bool :=
  (t.places.filter fun p => s.targetUp p.1).all fun p =>
    s.tagRoom p.1 1 && s.queueRoom p.1 t.lane.1 t.lane.2 1

/-- Write the line at every place: the number of writes sent. A place whose link is down counts as ended (R51, R221). -/
def State.writePlaces (s : State) (i : Nat) (m : Msg) (record : Option Nat) (units : Nat) (u : TagUse) : Nat × State :=
  let t := s.txn i
  t.places.foldl (fun (acc : Nat × State) p =>
    if ¬ acc.2.targetUp p.1 then (acc.1, acc.2.countFlush p.1)
    else match acc.2.takeTag p.1 i u with
      | none => acc
      | some (tag, s) =>
        let m := { m with addr := BitVec.ofNat 64 p.2, tag := tag }
        (acc.1 + 1, s.enqueue p.1 t.lane.1
          { txn := some i, record := record, msg := m, units := units, cost := 80, flow := t.lane.2, sf := true,
            cls := 1 })) (0, s)

/-- A write of the home itself to the line of transaction i, an attached writeback or poison, is marked and counted while its tile is
MIGRATING (R211): its mark. -/
def State.markIfMigrating (s : State) (t : Txn) : Option (Nat × Bool) × State :=
  let h := s.tab.ht.get t.homeTile
  if h.state = .migrating then
    let (w, s) := s.addMark h.migSlot (lineOf t.addr)
    (some w, s)
  else (none, s)

/-- Send the Cmp of an attached record to its requester (R108, R111), compared with the tenant's generation when it is queued and
when it leaves (R22); none while the queue is full. -/
def State.attachedCmp (s : State) (a : Attached) : Option State :=
  let x := s.backPoint a.ingress a.msg.originPort.toNat
  let gen := if x < 64 ∧ ¬ a.noTenant then some (a.tenant, a.gen) else none
  if a.relayed then some s
  else if x < 64 ∧ ¬ a.noTenant ∧ s.tab.gens.get a.tenant ≠ a.gen then some (s.countPort x 21)
  else if s.queueRoom x 1 0 1 then
    let m : Msg := { op := 0, addr := a.msg.addr, tag := a.msg.tag, tenant := BitVec.ofNat 12 a.tenant, gen := a.gen,
                     attr := a.msg.attr, originRank := a.msg.originRank, originPort := a.msg.originPort }
    some (s.send x 1 { msg := m, gen := gen })
  else none

/-- Have the writes of an attached record completed, or are there none? A relay has sent it on its trunk. -/
def Attached.applied (a : Attached) : Bool := a.dropped || (if a.started then a.outstanding == 0 else a.evict)

/-- Start the writes of attached record k of transaction i, when its turn has come: at once for the recorded owner, otherwise
after the last expected answer (R108). -/
def State.startAttached (s : State) (i k : Nat) (allIn : Bool) : State :=
  let t := s.txn i
  match t.attached[k]? with
  | none => s
  | some a =>
    if a.done ∨ a.dropped ∨ a.evict ∨ a.started then s
    else if ¬ (allIn ∨ t.ownerNow = some a.slot ∨ ¬ t.snoopSet.contains a.slot) then s
    else if ¬ s.writeRoom t then s
    else
      let (mark, s) := s.markIfMigrating t
      let (n, s) := s.writePlaces i { a.msg with snpType := .noOp } a.record (if a.msg.op = 2 then 6 else 5) (.attached k)
      let a := { a with started := true, outstanding := n, mark := mark }
      (s.updTxn i fun t => { t with attached := t.attached.set k a }).attachedLanded i k

/-- Change the open conflict record of transaction i for a slot. -/
def State.updConflict (s : State) (i slot : Nat) (f : Conflict → Conflict) : State :=
  (s.dp.conflicts.find fun _ c => c.valid && c.txn == i && c.slot == slot).foldl
    (fun s k => { s with dp.conflicts := s.dp.conflicts.upd k f }) s

/-- Once every attached record of a slot has been applied, their requesters get their Cmps, in order (R108, R111). -/
def State.finishSlot (s : State) (i slot : Nat) : State :=
  let mine := (s.txn i).attached.zipIdx.filter fun a => a.1.slot == slot
  if ¬ mine.all fun a => a.1.applied then s
  else
    mine.foldl (fun s a =>
      if a.1.done then s
      else match s.attachedCmp a.1 with
        | none => s
        | some s => (s.releaseRec a.1.record).updTxn i fun t =>
            { t with attached := t.attached.set a.2 { a.1 with done := true } })
      (s.updConflict i slot fun c => { c with wbApplied := true })

/-- Advance every attached record of transaction i in INGRESS_SEQ order (R108). -/
def State.stepAll (s : State) (i : Nat) (allIn : Bool) : State :=
  let s := (List.range (s.txn i).attached.length).foldl (fun s k => s.startAttached i k allIn) s
  (((s.txn i).attached.map (·.slot)).eraseDups).foldl (fun s k => s.finishSlot i k) s

/-- Take a record out of the queues of waiting messages. -/
def dropWaiting (t : Tbl ([] : List Nat)) (r : Nat) : Tbl ([] : List Nat) :=
  t.keys.foldl (fun t k => t.upd k (·.filter (· ≠ r))) t

/-- WB_COUNT of a slot's record follows what is attached (R109). -/
def State.countAttached (s : State) (i slot : Nat) : State :=
  let n := ((s.txn i).attached.filter (·.slot == slot)).length
  s.updConflict i slot fun c => { c with wbCount := n }

/-- Attach the indexed records of a key to transaction i (R108): they leave the index and their own transactions end
without a response. -/
def State.attach (s : State) (i slot : Nat) (p : PendingWrite → Bool) : State :=
  let ws := (s.dp.pendingWrites.filter p).mergeSort fun a b => decide (a.seq.toNat ≤ b.seq.toNat)
  ws.foldl (fun s w =>
    match s.dp.recs.get w.record with
    | none => s
    | some r =>
      let tenant := match w.txn with
        | some j => ((s.txn j).tenant, (s.txn j).gen, (s.txn j).noTenant)
        | none => (r.msg.tenant.toNat, r.msg.gen, true)
      let a : Attached :=
        { msg := r.msg, record := some w.record, seq := w.seq, slot := slot, ingress := w.point,
          tenant := tenant.1, gen := tenant.2.1, noTenant := tenant.2.2, evict := w.evict }
      let s := s.holdRec (some w.record)
      let s := { s with
        dp.pendingWrites := s.dp.pendingWrites.filter (·.record ≠ w.record)
        dp.waiting := dropWaiting s.dp.waiting w.record }
      let s := match w.txn with
        | some j => (s.voidOf j).freeTxn j
        | none => s.releaseRec (some w.record)
      (s.updTxn i fun t => { t with attached := t.attached ++ [a] }).countAttached i slot) s

/-- Indexed records of a sharer slot for line n (R107, R108): those of the local port by host physical line, those of a
trunk by origin and fabric line. -/
def State.indexedOf (s : State) (t : Txn) (slot n hpaLine : Nat) (w : PendingWrite) : Bool :=
  let e := (s.tab.bank t.bank).sharers.get slot
  if e.rank = s.rank then w.point == e.port && w.line == hpaLine
  else decide (64 ≤ w.point) && w.rank == e.rank && w.port == e.port && w.line == n

/-! ### Answers to snoops -/

/-- Answer code of a BIRsp opcode (R44): I 0, S 1, E 2. -/
def answerOf (op : Nat) : Nat := op % 4

/-- Is the answer one that the snoop allows (R100)? -/
def answerFits : Snoop → Nat → Bool
  | .inv, a => a == 0
  | .data, a => a == 0 || a == 1
  | .cur, a => a == 0 || a == 1 || a == 2

/-- The BIRsp of a slot reaches transaction i: the indexed records of the slot's port for the line are attached, and the answer is
applied once their writes have completed (R108, R111). -/
def State.applyAnswer (s : State) (i rec slot op : Nat) : State :=
  let t := s.txn i
  let s := s.attach i slot (s.indexedOf t slot (lineOf t.addr) (s.dp.conflicts.get rec).key.toNat)
  State.wake { s with dp.conflicts := s.dp.conflicts.upd rec fun c => { c with heard := some op } } i

/-- Apply the answer of conflict record rec to transaction i (R100, R111). -/
def State.settleAnswer (s : State) (i rec op : Nat) : State :=
  let t := s.txn i
  let c := s.dp.conflicts.get rec
  let e := (s.tab.bank t.bank).sharers.get c.slot
  let a := answerOf op
  let good := answerFits t.snoop a
  let s := if good then s
    else
      let s := if e.rank = s.rank then s.countPort e.port 24 else s
      s.log 0x0202 2 [(1, e.port), (1, snoopOp t.snoop), (1, a), (8, t.addr / 64)]
  let code := if good then a else 3
  let c := { c with answered := true, answer := BitVec.ofNat 2 code, heard := none }
  State.updTxn { s with dp.conflicts := s.dp.conflicts.set rec c } i fun t =>
    { t with
      got := t.got + 1, errSeen := t.errSeen || !good
      holders := if code = 0 then t.holders.filter (· ≠ c.slot) else t.holders
      ownerNow := if code = 0 ∨ code = 1 then t.ownerNow.filter (· ≠ c.slot) else t.ownerNow }

/-- Apply the answers whose attached records have all had their Cmps (R111). -/
def State.settleAnswered (s : State) (i : Nat) : State :=
  (s.dp.conflicts.find fun _ c => c.valid && c.txn == i && !c.answered).foldl (fun s k =>
    let c := s.dp.conflicts.get k
    match c.heard with
    | some op => if ((s.txn i).attached.filter (·.slot == c.slot)).all (·.done) then s.settleAnswer i k op else s
    | none => s) s

/-- A silent slot is flagged and logged, once until the flag is cleared (R112). -/
def State.flagSlot (s : State) (t : Txn) (slot : Nat) : State :=
  if s.slotSilent slot then s
  else
    let e := (s.tab.bank t.bank).sharers.get slot
    let s := { s with dp.unrespSlots := s.dp.unrespSlots ||| BitVec.ofNat 64 (2 ^ slot) }
    s.log 0x0201 2 [(1, slot), (1, e.rank), (1, e.port), (8, t.addr / 64)]

/-- Count a record of a local slot that timed out (R112, R416). -/
def State.countSilent (s : State) (t : Txn) (slot : Nat) : State :=
  let e := (s.tab.bank t.bank).sharers.get slot
  if e.rank = s.rank then s.countPort e.port 23 else s

/-- TIMEOUT of a BIRSP wait at the home (R112): flag the slots that have not answered; their attached data is lost, where it is
not already being written. -/
def State.snoopTimeout (s : State) (i : Nat) : State :=
  let silent := (s.dp.conflicts.cells.filter fun c => c.2.valid && c.2.txn == i && !c.2.answered).map (·.2.slot)
  let s := silent.foldl (fun s k => (s.countSilent (s.txn i) k).flagSlot (s.txn i) k) s
  (s.quarantineBi i).updTxn i fun t =>
    { t with
      snoopExpired := true
      attached := t.attached.map fun a => if silent.contains a.slot ∧ ¬ a.started then { a with dropped := true } else a }

/-- Conflict records of transaction i are freed as it applies its answers (R109). -/
def State.freeConflicts (s : State) (i : Nat) : State :=
  (s.dp.conflicts.find fun _ c => c.valid && c.txn == i).foldl
    (fun s k => { s with dp.conflicts := s.dp.conflicts.set k {}, dp.freed := true }) s

/-- The deferred BIConflictAck of a slot, queued after the last Cmp of its attached records (R110); none while the
queue is full. -/
def State.ackDeferred (s : State) (i k : Nat) : State :=
  let t := s.txn i
  let c := s.dp.conflicts.get k
  let mine := t.attached.filter (·.slot == c.slot)
  if ¬ c.confDeferred ∨ ¬ mine.all (·.done) then s
  else
    let e := (s.tab.bank t.bank).sharers.get c.slot
    let x := if e.rank = s.rank then some e.port else (s.trunkTo e.rank e.port).map (64 + ·)
    match x with
    | none => s
    | some x =>
      if ¬ s.queueRoom x 1 0 1 then s
      else
        let m : Msg := { op := BitVec.ofNat 6 opBiConflictAck, tag := c.confTag, addr := BitVec.ofNat 64 t.addr,
                         originRank := BitVec.ofNat 4 e.rank, originPort := BitVec.ofNat 6 e.port }
        let s := { s with dp.conflicts := s.dp.conflicts.set k { c with confDeferred := false } }
        let stale := match c.confGen with
          | some (n, g) => decide (x < 64) && s.tab.gens.get n != g
          | none => false
        if stale then s.countPort x 21 else s.send x 1 { msg := m, gen := if x < 64 then c.confGen else none }

/-- Deferred acknowledgements of transaction i. -/
def State.ackAll (s : State) (i : Nat) : State :=
  (s.dp.conflicts.find fun _ c => c.valid && c.txn == i && c.confDeferred).foldl (fun s k => s.ackDeferred i k) s

/-- CONFLICT (R110): outcome 0 ACK_NOW, 1 DEFERRED. -/
def State.conflictStep (s : State) (i : Nat) : StepRes :=
  let t := s.txn i
  if t.cls ≠ 3 ∨ ¬ t.home then .fault s
  else if t.attr ≠ .sharedCoherent then .outcome 0 s
  else
    let n := lineOf t.addr
    let slot := s.ownSlot t
    let holder := (s.dp.lines.get n).map (·.holder)
    match slot, holder with
    | some k, some j =>
      (match (s.dp.conflicts.find fun _ c => c.valid && c.txn == j && c.slot == k && !c.answered).head? with
      | none => .outcome 0 (s.countGlobal 5)
      | some r =>
        let tj := s.txn j
        let c := s.dp.conflicts.get r
        let s := { s with dp.conflicts := s.dp.conflicts.set r { c with conf := true } }
        let indexed := s.indexedOf tj k n c.key.toNat
        if tj.ownerNow = some k ∧ s.dp.pendingWrites.any indexed then
          let s := s.attach j k indexed
          let gen := if t.ingress < 64 ∧ ¬ t.noTenant then some (t.tenant, t.gen) else none
          let s := { s with dp.conflicts := s.dp.conflicts.upd r fun c =>
            { c with confDeferred := true, confTag := t.reqTag, confGen := gen } }
          .outcome 1 (s.wake j)
        else .outcome 0 s)
    | _, _ => .outcome 0 (s.countGlobal 5)

end Sys2Proof.Machine
end

