-- ==== Sys2Proof/Machine/Command.lean ====
section
/-! DEFINITION. The life of a management command (R358 to R368, R372): sources and roles, tickets, the checks of a
command, the journal's INTENT and END records (R340), answers, STATE_CONFLICT payloads. -/

namespace Sys2Proof.Machine

/-! ### Return codes: those of CXL 3.1 (PRESUMED, log entry 22) and R367 -/

/-- Success. -/
def rcSuccess : Nat := 0
/-- Invalid Input. -/
def rcInvalid : Nat := 2
/-- Unsupported. -/
def rcUnsupported : Nat := 3
/-- Busy. -/
def rcBusy : Nat := 6
/-- Invalid Payload Length. -/
def rcLength : Nat := 0x16
/-- STATE_CONFLICT. -/
def rcConflict : Nat := 0x8001
/-- EPOCH_MISMATCH. -/
def rcEpoch : Nat := 0x8002
/-- RESOURCE_EXHAUSTED. -/
def rcExhausted : Nat := 0x8003
/-- QUIESCE_REQUIRED. -/
def rcQuiesce : Nat := 0x8004
/-- LOCKED. -/
def rcLocked : Nat := 0x8005
/-- HANDOVER_IN_PROGRESS. -/
def rcHandover : Nat := 0x8006

/-! ### Sources and roles -/

/-- Number of a source. -/
def srcNo : CmdSrc → Nat
  | .i3c k => k.val | .mbox p => 2 + p.val | .vdm p => 66 + p.val | .trunk t => 130 + t.val

/-- Number of a mode (R356). -/
def modeNo : Mode → Nat
  | .reset => 0 | .prepare => 1 | .provision => 2 | .service => 3 | .degraded => 4 | .handover => 5 | .drain => 6
  | .safe => 7

/-- Is the source a fabric manager (R358)? -/
def State.isFm (s : State) : CmdSrc → Bool
  | .i3c _ => true
  | .mbox p => s.tab.policy.fmPorts.toNat.testBit p.val
  | .vdm p => s.tab.policy.fmPorts.toNat.testBit p.val
  | .trunk _ => s.tab.policy.trunkFm

/-- Is tenant n one of the source's tenants (R358)? -/
def State.ownsTenant (s : State) (src : CmdSrc) (n : Nat) : Bool :=
  let t := s.bank.tenants.get n
  match src with
  | .mbox p => t.valid && t.hostPort == p.val
  | .vdm p => t.valid && t.hostPort == p.val
  | _ => false

/-- Count MBOX_REFUSED of a source (R359, R416). -/
def State.countRefused (s : State) : CmdSrc → State
  | .i3c k => s.countGlobal (193 + k.val)
  | .mbox p => s.countPort p.val 44
  | .vdm p => s.countPort p.val 44
  | .trunk t => s.countTrunk t.val 42

/-- Who may issue a command: the fabric manager; also a tenant manager for a tenant of its own; or anyone. -/
inductive Scope where
  | fm
  | tenant (n : Nat)
  | anyone
deriving DecidableEq, Repr

/-- What the opcode tables say of a command: opcode, least input length, role, object that it changes. -/
structure CmdSpec where
  opcode : Nat
  len : Nat := 0
  scope : Scope := .fm
  /-- a reserved or out-of-range value of the input -/
  bad : Bool := false
  /-- it changes state: it writes an INTENT and an END record -/
  changes : Bool := false
  object : Option (Nat × Nat) := none
deriving Repr

/-- How a command ends: with a return code and output, as an L command by waiting, or with a vendor code after it has changed the
commit phase, whose records stay (R388). -/
inductive CmdRes where
  | done (s : State) (code : Nat) (payload : List Byte)
  | wait (s : State)
  | failed (s : State) (code : Nat) (payload : List Byte)

/-- Success without output. -/
def ok (s : State) : CmdRes := .done s rcSuccess []

/-! ### Journal (R340, R372) -/

/-- Is a pair ACTIVE? -/
def State.hasActive (s : State) : Bool := s.sys.pairA == .active || s.sys.pairB == .active

/-- Bolroth acts of itself: a pair is ACTIVE and no handover runs. -/
def State.bolrothRuns (s : State) : Bool := s.hasActive && s.sys.handover.isNone

/-- Write a journal record: type, ticket and code. -/
def State.journal (s : State) (type ticket : Nat) (code : Nat := 0) : State :=
  let seq := s.sys.journalTail + 1
  let s := s.dropStore (0x3AF000000 + 64 * (seq.toNat % 262144)) 64
  { s with
    sys.journalTail := seq
    sys.journal := s.sys.journal.set (seq.toNat % 262144)
      { type := BitVec.ofNat 8 type, ticket := BitVec.ofNat 16 ticket, seq := seq, code := BitVec.ofNat 16 code, at_ := s.sys.ft } }

/-! ### Answers -/

/-- A STATE_CONFLICT output (R368). -/
def State.conflictBytes (s : State) (kind id state holder : Nat) : List Byte :=
  leBytes (pack [(4, modeNo s.sys.mode), (4, 0), (8, kind), (16, 0), (48, id), (48, 0), (32, state), (16, holder),
    (16, 0)]) 24

/-- STATE_CONFLICT naming an object. -/
def conflict (s : State) (kind id state : Nat) : CmdRes := .done s rcConflict (s.conflictBytes kind id state 0)

/-- Give a source its answer (R362, R364): the mailbox's registers, or an MCTP response that is kept for 1 s. -/
def State.respond (s : State) (i : Instr) (src : CmdSrc) (tag : BitVec 24) (ticket code : Nat) (payload : List Byte) :
    State :=
  let s := s.emit (.answer src tag ticket code payload)
  match src with
  | .mbox p =>
    let m := s.mgmt.mbox.get p.val
    let m' : Mbox := { m with
      doorbell := false, length := BitVec.ofNat 21 payload.length, code := BitVec.ofNat 16 code
      ticket := BitVec.ofNat 16 ticket, output := payload }
    let s := { s with mgmt.mbox := s.mgmt.mbox.set p.val m' }
    if m.irqEn then s.emit (.msix p.val 0) else s
  | _ =>
    let r : Stored := { instr := i, src := src, tag := tag, done := s.sys.ft, ticket := ticket, code := code,
                        payload := payload }
    { s with mgmt.stored := (s.mgmt.stored.filter fun r => decide (s.sys.ft ≤ r.done + 1000000000)) ++ [r] }

/-- A running command ends: its END record, if it wrote an INTENT, and its answer. -/
def State.complete (s : State) (ticket code : Nat) (payload : List Byte) : State :=
  match s.mgmt.running.find? (·.ticket == ticket) with
  | none => s
  | some r =>
    let s := { s with mgmt.running := s.mgmt.running.filter (·.ticket ≠ ticket) }
    let s := if r.intent then s.journal 2 ticket code else s
    s.respond r.instr r.src r.tag ticket code payload

/-! ### Modes (R365) -/

/-- Commands that change nothing: those accepted in SAFE. -/
def safeOps : List Nat :=
  [0xC005, 0xC006, 0xC007, 0xC101, 0xC204, 0xC301, 0xC302, 0xC404, 0xC501, 0xC502, 0xC601, 0xC605, 0xC606, 0xC701,
   0xC703, 0xC901, 0xC907, 0x0001, 0x0003, 0x0100, 0x0102, 0x0200, 0x0300, 0x0400, 0x0401, 0x5100, 0x5101, 0x5200,
   0x5400, 0x5401, 0x5600, 0x5601, 0x5603]

/-- FM-API commands that act on a port or a vPPB. -/
def portOps : List Nat := [0x5102, 0x5103, 0x5201, 0x5202, 0x5300, 0x5402]

/-- Is an opcode accepted in PROVISION? -/
def provisionOk (op : Nat) : Bool :=
  if op < 0xC000 then !portOps.contains op
  else if op / 256 = 0xC6 then op == 0xC601 || op == 0xC605 || op == 0xC606
  else [0xC0, 0xC4, 0xC5, 0xC7, 0xC8, 0xC9].contains (op / 256)

/-- Does the mode accept the opcode? DEBUG_DISABLE is accepted in every mode (R371). -/
def State.modeAccepts (s : State) (op : Nat) : Bool :=
  if op = 0xC802 then true else if s.sys.mode = .provision then provisionOk op else if s.sys.mode = .safe then safeOps.contains op else true

/-! ### The path of a command -/

/-- The ticket that a doorbell of the source has taken already (R362). -/
def State.latchedTicket (s : State) : CmdSrc → Option Nat
  | .mbox p => (s.mgmt.mbox.get p.val).latched
  | _ => none

/-- The ticket of the source's next command. -/
def State.ticketOf (s : State) (src : CmdSrc) : Nat := (s.latchedTicket src).getD s.mgmt.ticket.toNat

/-- The mailboxes once the command behind the source's doorbell has been decoded. -/
def State.unlatched (s : State) : CmdSrc → Tbl ({} : Mbox)
  | .mbox p => s.mgmt.mbox.upd p.val fun m => { m with latched := none }
  | _ => s.mgmt.mbox

/-- Issue the next ticket to a source (R363, R372), unless its doorbell has taken one. -/
def State.issueTicket (s : State) (src : CmdSrc) : Nat × State :=
  let t := s.mgmt.ticket
  let taken := (s.latchedTicket src).isSome
  (s.ticketOf src, { s with
    mgmt.ticket := if taken then t else if t = 0xFFFF then 1 else t + 1
    mgmt.tickets := if taken then s.mgmt.tickets
      else s.mgmt.tickets.set t.toNat { tail := s.sys.journalTail, src := some src }
    mgmt.mbox := s.unlatched src
    obs.counters := if taken then s.obs.counters else (s.countGlobal 197).obs.counters })

/-- The retry hint of R343 in ms. -/
def State.retryHint (s : State) : Nat :=
  match s.sys.handover with
  | some t0 => Nat.max 1 ((50000000 - (s.sys.ft - t0) + 999999) / 1000000)
  | none => 1

/-- Put a command on its source as running: the mailbox reads Busy (R362). -/
def State.hold (s : State) (r : Running) (opcode len : Nat) : State :=
  let s := { s with mgmt.running := s.mgmt.running ++ [r] }
  match r.src with
  | .mbox p =>
    let m := s.mgmt.mbox.get p.val
    let m' : Mbox := { m with
      doorbell := true, opcode := BitVec.ofNat 16 opcode, length := BitVec.ofNat 21 len
      code := BitVec.ofNat 16 rcBusy, ticket := BitVec.ofNat 16 r.ticket }
    { s with mgmt.mbox := s.mgmt.mbox.set p.val m' }
  | _ => s

/-- Does Bolroth run a command now (R352, R365)? -/
def State.executorFree (s : State) : Bool := s.bolrothRuns && !s.mgmt.dbg.hold

/-- The L command that holds an object. -/
def State.holder (s : State) (o : Option (Nat × Nat)) : Option Running :=
  match o with
  | none => none
  | some _ => s.mgmt.running.find? fun r => r.started && r.object == o

/-- The checks of a command (R359, R362, R365), in their order: a refusal with its code and output, or none. -/
def State.refusal (s : State) (h : CmdHdr) (c : CmdSpec) : Option (State × Nat × List Byte) :=
  let trunkOff : Bool := match h.src with
    | .trunk _ => !s.tab.policy.trunkFm
    | _ => false
  let tmFails : Bool := match c.scope with
    | .tenant n => !s.ownsTenant h.src n
    | _ => false
  if trunkOff ∨ (c.scope = .fm ∧ ¬ s.isFm h.src) then some (s.countRefused h.src, rcUnsupported, [])
  else if ¬ s.isFm h.src ∧ tmFails then some (s.countRefused h.src, rcInvalid, [])
  else if 2048 < h.len ∨ h.len < c.len then some (s, rcLength, [])
  else if h.reservedSet ∨ c.bad then some (s, rcInvalid, [])
  else if ¬ s.modeAccepts c.opcode then some (s, rcConflict, s.conflictBytes 0 0 0 0)
  else match s.holder c.object, c.object with
    | some r, some (k, n) => some (s, rcConflict, s.conflictBytes k n 0 r.ticket)
    | _, _ => none

/-- Bolroth executes a command: checks, INTENT, action, END, answer (R362). The INTENT of a command that its own rules
refuse is not written, as it changes nothing (DESIGN CHOICE, log entry 32). -/
def State.execute (s : State) (i : Instr) (h : CmdHdr) (c : CmdSpec) (ticket : Nat) (run : State → Nat → CmdRes) : State :=
  match s.refusal h c with
  | some (s, code, p) => s.respond i h.src h.tag ticket code p
  | none =>
    match run (if c.changes then s.journal 1 ticket else s) ticket with
    | .done t code p =>
      if c.changes ∧ code ≠ rcSuccess then s.respond i h.src h.tag ticket code p
      else (if c.changes then t.journal 2 ticket code else t).respond i h.src h.tag ticket code p
    | .failed t code p => (if c.changes then t.journal 2 ticket code else t).respond i h.src h.tag ticket code p
    | .wait t =>
      t.hold { src := h.src, tag := h.tag, ticket := ticket, instr := i, object := c.object, intent := c.changes,
               started := true } c.opcode h.len

/-- A command arrives (R361 to R366). `gateway` is what the gateway itself does with it, when it decodes it (R345,
R371). -/
def State.command (s : State) (i : Instr) (h : CmdHdr) (c : CmdSpec) (gateway : Option (State → Nat → CmdRes))
    (run : State → Nat → CmdRes) : State :=
  if s.sys.mode = .reset ∨ s.sys.mode = .prepare then s
  else match s.mgmt.resuming with
  | some r => State.execute { s with mgmt.resuming := none } i h c r.ticket run
  | none =>
    match s.mgmt.running.find? (·.src == h.src) with
    | some r =>
      (match h.src with
        | .mbox p => s.countPort p.val 45
        | _ => s.emit (.answer h.src h.tag r.ticket rcBusy []))
    | none =>
      match s.mgmt.stored.find? fun r => r.src == h.src && r.tag == h.tag && r.instr == i
          && decide (s.sys.ft ≤ r.done + 1000000000) with
      | some r => s.emit (.answer h.src h.tag r.ticket r.code r.payload)
      | none =>
        let (ticket, s) := s.issueTicket h.src
        match gateway with
        | some g =>
          match s.refusal h { c with object := none } with
          | some (s, code, p) => s.respond i h.src h.tag ticket code p
          | none =>
            match g s ticket with
            | .done s code p | .failed s code p => s.respond i h.src h.tag ticket code p
            | .wait s => s
        | none =>
          if s.sys.handover.isSome then
            s.respond i h.src h.tag ticket rcHandover (leBytes s.retryHint 4)
          else if s.executorFree && s.mgmt.running.all (·.started) then s.execute i h c ticket run
          else s.hold { src := h.src, tag := h.tag, ticket := ticket, instr := i, object := c.object } c.opcode h.len

/-- The deferred command that Bolroth can take up now: the one with the oldest ticket (R365). -/
def State.deferred (s : State) : Option Running :=
  if s.executorFree then s.mgmt.running.find? (fun r => !r.started) else none

end Sys2Proof.Machine
end

