-- ==== Sys2Proof/Machine/Queues.lean ====
section
/-! DEFINITION. The work-queue engines (spec/09): doorbells, descriptor fetch and its checks (R187 to R189), starting
descriptors (R190), completions (R191 to R193), halts (R194, R195) and stops (R196 to R199). Every read and write of host memory
is a CXL.io memory request in egress class IO of the host port (R187); the row that brings what a read found acts once that read
has left. -/

namespace Sys2Proof.Machine

/-- Queue pair q. -/
def State.qp (s : State) (q : Nat) : Qp := s.wq.qps.get q
/-- Change queue pair q. -/
def State.updQp (s : State) (q : Nat) (f : Qp → Qp) : State := { s with wq.qps := s.wq.qps.upd q f }

/-- Bits of a queue pair's STATE (R181). -/
def qpNo : QpState → Nat
  | .unassigned => 0 | .disabled => 1 | .enabled => 2 | .haltedMalformed => 3 | .haltedError => 4 | .stopping => 5

/-- The word of a queue pair context (R181). -/
def Qp.toNat (k : Qp) : Nat :=
  pack [(3, qpNo k.state), (1, 0), (12, k.tenant), (6, k.hostPort), (12, k.dbPage), (8, k.qpGen.toNat), (5, k.sqLog2),
    (5, k.cqLog2), (7, k.jobMask.toNat), (11, k.msix), (9, k.maxJobs), (1, b2n k.dbPending), (16, k.tenantGen.toNat),
    (9, k.running), (23, 0), (64, k.sqBase.toNat), (64, k.cqBase.toNat), (64, k.tailAddr.toNat), (64, k.headAddr.toNat),
    (32, k.head.toNat), (32, k.cqNext.toNat), (32, k.haltSeq.toNat), (32, 0)]

/-- The queue pair that holds doorbell page `page` of host port p (R180). -/
def State.qpAt (s : State) (p page : Nat) : Option Nat :=
  (s.wq.qps.cells.find? fun c => c.2.state != .unassigned && c.2.hostPort == p && c.2.dbPage == page).map (·.1)

/-- Queue the waiting requests to host memory for which their port's IO queue has room, in order for each port; those of a port that
is down are dropped (R84). -/
def State.pumpOut (s : State) : State :=
  let put (acc : State × List HostReq) (r : HostReq) : State × List HostReq :=
    let (s, kept) := acc
    if ¬ s.pointUp r.port then (s.countFlush r.port, kept)
    else if (kept.any (·.port == r.port)) ∨ ¬ s.queueRoom r.port 4 0 1 then (s, kept ++ [r])
    else (s.enqueue r.port 4
      { msg := r.msg, cls := 6, units := r.units, cost := 16 * r.units, gen := r.gen, ask := r.ask }, kept)
  let (s, kept) := s.wq.out.foldl put (s, [])
  { s with wq.out := kept }

/-- The management function makes a CXL.io memory request of host memory (R187). -/
def State.hostRequest (s : State) (r : HostReq) : State := { s with wq.out := s.wq.out ++ [r] }

/-- The management function writes host memory for a queue pair, and sends an MSI-X message after it, under the queue pair's
tenant generation (R187, R193, R200). -/
def State.wqWrite (s : State) (q addr : Nat) (data : List Byte) (vector : Option Nat) : State :=
  let k := s.qp q
  let gen := some (k.tenant, k.tenantGen)
  let s := s.hostRequest
    { port := k.hostPort, gen := gen, units := 2 + (data.length + 15) / 16
      msg := { addr := BitVec.ofNat 64 addr, payload := data } }
  match vector with
  | some v => s.hostRequest { port := k.hostPort, gen := gen, units := 3, msg := { vector := some v, payload := leBytes 0 4 } }
  | none => s

/-- The engine reads host memory for a queue pair (R187). -/
def State.wqRead (s : State) (q addr bytes : Nat) (kind : WqRead) : State :=
  s.hostRequest { port := (s.qp q).hostPort, units := 2, ask := some (q, kind)
                  msg := { addr := BitVec.ofNat 64 addr, readLen := bytes } }

/-! ### Doorbells (R185) -/

/-- A write to SQ_DOORBELL. -/
def State.sqDoorbell (s : State) (p page : Nat) : State :=
  match s.qpAt p page with
  | none => s
  | some q =>
    if (s.qp q).state = .enabled then s.updQp q fun k => { k with dbPending := true } else s.countPort p 41

/-! ### Descriptors (R188, R189, R205) -/

/-- A field of a descriptor. -/
def dfield (d : BitVec 512) (lo w : Nat) : Nat := field d.toNat lo w

/-- Is the descriptor's body free of fields that its type does not use (R204, R205 code 1)? -/
def bodyClean (d : BitVec 512) (rank : Nat) : Bool :=
  let t := dfield d 0 8
  let z (lo w : Nat) : Bool := dfield d lo w == 0
  let uses (l : List Nat) : Bool := l.contains t
  z 110 2 && z 116 12 && z 139 53 && z 222 2 && z 254 258
    && (uses [1, 2, 3, 4, 5] || z 64 19) && (uses [1] || z 83 4) && (uses [1, 3, 4] || z 87 19)
    && (uses [4] || (uses [1] && dfield d 83 4 == rank) || z 106 1) && (uses [4] || z 107 1) && (uses [5] || z 108 1)
    && (uses [2] || z 109 1) && (uses [1, 3, 5] || z 112 4) && (uses [1, 3] || z 128 11)
    && (uses [6] || (z 192 30 && z 224 30))

/-- The body check that fails first (R205). -/
def bodyFault (d : BitVec 512) (rank : Nat) : Option Nat :=
  let t := dfield d 0 8
  let tile := dfield d 64 19
  let dst := dfield d 87 19
  if ¬ bodyClean d rank then some 1
  else if dfield d 112 4 = 1 then some 2
  else if 1024 < dfield d 128 11 then some 3
  else if t = 6 ∧ (dfield d 224 30 = 0 ∨ 939524096 < dfield d 192 30 + dfield d 224 30) then some 4
  else if (t = 1 ∧ dfield d 83 4 = rank ∧ dst = tile) ∨ ((t = 3 ∨ t = 4) ∧ dst = tile) then some 5
  else none

/-- Why a descriptor is malformed (R189): RESULT[15:0]. -/
def State.malformed (s : State) (k : Qp) (d : BitVec 512) : Option Nat :=
  let t := dfield d 0 8
  if 6 < t then some 1
  else if ¬ k.jobMask.toNat.testBit t then some 2
  else if dfield d 10 6 ≠ 0 ∨ dfield d 24 40 ≠ 0 ∨ (t = 0 ∧ dfield d 64 448 ≠ 0) then some 3
  else if dfield d 16 8 ≠ k.qpGen.toNat then some 4
  else if t = 0 then none
  else (bodyFault d s.rank).map fun c => 6 + 256 * c

/-! ### Halts -/

/-- Queue a completion that holds no job slot. -/
def Qp.queueEntry (k : Qp) (status jobType seq result : Nat) (irq : Bool) : Qp :=
  { k with completions := k.completions ++
      [{ status := status, gen := k.qpGen, jobType := jobType, seq := BitVec.ofNat 32 seq,
         result := BitVec.ofNat 192 result, irq := irq, slot := false }] }

/-- Halt a queue pair (R194). -/
def State.halt (s : State) (q : Nat) (st : QpState) (seq : U32) (status jobType result : Nat) (irq : Bool) : State :=
  s.updQp q fun k => { k.queueEntry status jobType seq.toNat result irq with state := st, haltSeq := seq }

/-- A read of host memory fails (R195): HALTED_ERROR. `jobType` is that of the descriptor that DESC_SEQ names. The spec gives none
where no descriptor has been fetched: a free value then (log entry 61). -/
def State.hostError (s : State) (q : Nat) (seq : U32) (jobType : Option Nat) : State :=
  match jobType with
  | some t => s.halt q .haltedError seq 5 t 0 false
  | none =>
    let (f, s) := s.free
    s.halt q .haltedError seq 5 (f % 256) 0 false

/-- Job slots that no descriptor holds, and none being read will take (R187). -/
def State.freeJobSlots (s : State) : Nat :=
  4096 - (s.wq.qps.cells.map fun c => c.2.running + (match c.2.ask with
    | some a => if a.kind = .descriptor then a.count else 0
    | none => 0)).sum

/-- Take the descriptors of one read (R187). -/
def State.takeDescs (s : State) (q : Nat) : List (BitVec 512) → State
  | [] => s
  | d :: ds =>
    let k := s.qp q
    let h : Held := { seq := k.head, desc := d }
    let s :=
      if k.state ≠ .enabled then
        s.updQp q fun k => { k with held := k.held ++ [{ h with unchecked := true }], running := k.running + 1 }
      else match s.malformed k d with
        | some r => s.halt q .haltedMalformed k.head 2 (dfield d 0 8) r (d.toNat.testBit 9)
        | none => s.updQp q fun k => { k with held := k.held ++ [h], running := k.running + 1 }
    (s.updQp q fun k => { k with head := k.head + 1 }).takeDescs q ds

/-- How many descriptors a queue pair's next read covers (R187). -/
def State.batch (s : State) (q : Nat) : Nat :=
  let k := s.qp q
  match k.tailSeen with
  | none => 0
  | some tail =>
    let n := (tail - k.head).toNat
    let size := 2 ^ k.sqLog2
    [k.maxJobs - k.running, s.freeJobSlots, 8, size - k.head.toNat % size].foldl Nat.min n

/-- The engine reads a queue pair's descriptors where it can take some, or else its tail word where a doorbell waits (R187). A read
that Bus Master Enable forbids fails at once (R195). -/
def State.pumpFetch (s : State) (q : Nat) : State :=
  let k := s.qp q
  let b := s.batch q
  if k.state ≠ .enabled ∨ k.ask.isSome ∨ (b = 0 ∧ ¬ k.dbPending) then s
  else if ¬ (s.port k.hostPort).busMaster then
    (s.updQp q fun k => { k with dbPending := k.dbPending && b != 0, tailSeen := none }).hostError q k.head none
  else if b = 0 then
    (s.updQp q fun k => { k with dbPending := false, ask := some ⟨.tailWord, 1, false⟩ }).wqRead q k.tailAddr.toNat 4 .tailWord
  else
    let s := s.updQp q fun k => { k with ask := some ⟨.descriptor, b, false⟩ }
    State.wqRead { s with wq.turn := q } q (k.sqBase.toNat + 64 * (k.head.toNat % 2 ^ k.sqLog2)) (64 * b) .descriptor

/-- The tail word has been read (R187). -/
def State.takeTail (s : State) (q : Nat) (t : U32) : State :=
  let k := s.qp q
  if 2 ^ k.sqLog2 < (t - k.head).toNat then s.halt q .haltedMalformed t 2 0 5 false
  else s.updQp q fun k => { k with tailSeen := if t = k.head then none else some t }

/-- Descriptors have been read: they are checked and held, and HEAD is written (R187). -/
def State.takeBatch (s : State) (q : Nat) (l : List (BitVec 512)) : State :=
  let s := s.takeDescs q l
  let s := s.wqWrite q (s.qp q).headAddr.toNat (leBytes (s.qp q).head.toNat 4) none
  let k := s.qp q
  if k.state ≠ .enabled ∨ k.tailSeen = some k.head then s.updQp q fun k => { k with tailSeen := none } else s

/-- DESCRIPTOR_FETCH: what the read that the engine waits for has found, once that read has left: the tail word, or descriptors. A
row that brings no descriptor leaves the read outstanding, and one that brings fewer than were read holds those that came first
(DESIGN CHOICE, log entry 33). -/
def State.descriptorFetch (s : State) (q : Nat) (tail : HostRead U32) (descs : HostRead (List (BitVec 512))) : State :=
  let k := s.qp q
  match k.ask with
  | none => s
  | some a =>
    if k.state ≠ .enabled ∨ ¬ a.sent ∨ a.kind = .ownBit then s
    else if a.kind = .tailWord then
      let s := s.updQp q fun k => { k with ask := none }
      match tail with
      | .failed => s.hostError q k.head none
      | .ok t => s.takeTail q t
    else match descs with
      | .failed => (s.updQp q fun k => { k with ask := none, tailSeen := none }).hostError q k.head none
      | .ok [] => s
      | .ok l => (s.updQp q fun k => { k with ask := none }).takeBatch q (l.take a.count)

/-! ### Starting and ending jobs (R190) -/

/-- The next descriptor of a queue pair that may start (R190): the first held one not started, of an ENABLED queue. -/
def State.nextJob (s : State) (q : Nat) : Option Held :=
  let k := s.qp q
  if k.state ≠ .enabled then none
  else match k.held.find? fun h => !h.started with
    | none => none
    | some h =>
      if h.unchecked then none
      else if h.desc.toNat.testBit 8 ∧ (k.held.any (·.started) ∨ k.completions.any (·.slot)) then none
      else some h

/-- Mark a descriptor as started. -/
def State.startHeld (s : State) (q : Nat) (seq : U32) : State :=
  s.updQp q fun k => { k with held := k.held.map fun h => if h.seq = seq then { h with started := true } else h }

/-- A job ends: its completion is queued, or discarded when a stop has already completed it (R196). -/
def State.jobEnd (s : State) (q : Nat) (seq : U32) (gen : Byte) (status : Nat) (result : BitVec 192) : State :=
  let k := s.qp q
  match k.held.find? (·.seq == seq) with
  | some h =>
    if k.qpGen = gen then
      s.updQp q fun k => { k with
        held := k.held.filter (·.seq ≠ seq)
        completions := k.completions ++
          [{ status := status, gen := gen, jobType := dfield h.desc 0 8, seq := seq, result := result,
             irq := h.desc.toNat.testBit 9 }] }
    else s.countPort k.hostPort 43
  | none => s.countPort k.hostPort 43

/-! ### Completions (R191 to R193, R195) -/

/-- The bytes of a completion entry, written with OWN = 1. -/
def Completion.bytes (c : Completion) : List Byte :=
  leBytes (pack [(1, 1), (7, 0), (8, c.status), (8, c.gen.toNat), (8, c.jobType), (32, c.seq.toNat),
    (192, c.result.toNat)]) 32

/-- The first queued completion leaves the queue and frees its job slot. -/
def State.dropEntry (s : State) (q : Nat) : State :=
  s.updQp q fun k =>
    { k with completions := k.completions.drop 1
             running := match k.completions with
               | c :: _ => if c.slot then k.running - 1 else k.running
               | [] => k.running }

/-- A completion that cannot be written (R195). -/
def State.entryLost (s : State) (q : Nat) (c : Completion) : State :=
  ((s.countPort (s.qp q).hostPort 42).log 0x030E 1 [(2, q), (4, c.seq.toNat)]).dropEntry q

/-- A failed read of an OWN bit (R195, R196): the completion names its descriptor's JOB_TYPE. -/
def State.ownFailed (s : State) (q : Nat) : State :=
  let k := s.qp q
  match k.completions with
  | [] => s
  | c :: _ =>
    if k.state = .stopping then s.entryLost q c
    else
      let s := if k.state = .enabled then s.hostError q c.seq (some c.jobType) else s
      s.updQp q fun k => { k with writesHeld := true }

/-- The engine reads the OWN bits of up to 8 completion entries from CQ_NEXT on, as many as it has completions to write and the
ring's end allows (R192). -/
def State.pumpOwn (s : State) (q : Nat) : State :=
  let k := s.qp q
  let size := 2 ^ k.cqLog2
  let at_ := k.cqNext.toNat % size
  let n := [8, size - at_].foldl Nat.min k.completions.length
  if n = 0 ∨ k.askOwn.isSome ∨ k.ownFree ≠ 0 ∨ k.ownStalled ∨ k.writesHeld then s
  else if ¬ (s.port k.hostPort).busMaster then s.ownFailed q
  else
    (s.updQp q fun k => { k with askOwn := some ⟨.ownBit, n, false⟩ }).wqRead q (k.cqBase.toNat + 32 * at_) (32 * (n - 1) + 4)
      .ownBit

/-- Write the first completion to its entry, whose OWN has read 0, and send its MSI-X message (R192, R193). -/
def State.writeCompletion (s : State) (q : Nat) (c : Completion) (writeOk : Bool) : State :=
  if ¬ writeOk then s.entryLost q c
  else
    let k := s.qp q
    let s := s.wqWrite q (k.cqBase.toNat + 32 * (k.cqNext.toNat % 2 ^ k.cqLog2)) c.bytes (if c.irq then some k.msix else none)
    (s.updQp q fun k => { k with cqNext := k.cqNext + 1, ownFree := k.ownFree - 1 }).dropEntry q

/-- COMPLETION_WRITE: the engine writes the next completion entry once OWN reads 0 (R192): by an earlier read, or by the read that it
waits for, once that has left. -/
def State.completionWrite (s : State) (q : Nat) (own : HostRead (List Bool)) (writeOk : Bool) : State :=
  let k := s.qp q
  match k.completions with
  | [] => s
  | c :: _ =>
    if k.ownFree ≠ 0 then s.writeCompletion q c writeOk
    else match k.askOwn with
      | none => s
      | some a =>
        if ¬ a.sent then s
        else match own with
          | .failed => (s.updQp q fun k => { k with askOwn := none }).ownFailed q
          | .ok [] => s
          | .ok (true :: _) => s.updQp q fun k => { k with askOwn := none, ownStalled := true, ownDue := s.sys.ft + 8000 }
          | .ok l =>
            let n := ((l.take a.count).takeWhile (· == false)).length
            (s.updQp q fun k => { k with askOwn := none, ownFree := n }).writeCompletion q c writeOk

/-- A stalled engine reads OWN again (R192). -/
def State.rereadOwn (s : State) (q : Nat) : State := s.updQp q fun k => { k with ownStalled := false }

/-- OWN_REREAD: 8 µs after it read OWN = 1, a stalled engine reads OWN again (R192), `late` nanoseconds after that where other queue
pairs have their turn first (R187; DESIGN CHOICE, log entry 33). -/
def State.ownTimer (s : State) (q late : Nat) : State :=
  if (s.qp q).ownStalled then (s.advanceTo ((s.qp q).ownDue + late)).rereadOwn q else s

/-- A write to CQ_DOORBELL (R185, R192). -/
def State.cqDoorbell (s : State) (p page : Nat) : State :=
  match s.qpAt p page with
  | none => s
  | some q => s.rereadOwn q

/-- Has a read of this kind left and not been answered? -/
def waitsFor (a : Option HostAsk) (what : WqRead) : Bool :=
  match a with
  | some a => a.sent && a.kind == what
  | none => false

/-- A read of host memory for a queue pair times out (R195). -/
def State.wqTimeout (s : State) (q : Nat) (what : WqRead) : State :=
  let k := s.qp q
  if waitsFor k.askOwn what then (s.updQp q fun k => { k with askOwn := none }).ownFailed q
  else if waitsFor k.ask what ∧ k.state = .enabled then
    (s.updQp q fun k => { k with ask := none, tailSeen := none }).hostError q k.head none
  else s

/-! ### Stops (R196 to R199) -/

/-- Is a transaction of an earlier generation of the queue pair outstanding (R199)? -/
def State.oldGenLive (s : State) (q : Nat) : Bool :=
  s.dp.txns.cells.any fun c =>
    c.2.state != .free && c.2.ingress == xMigration && c.2.qp == q && c.2.qpGen != (s.qp q).qpGen

/-- The ABORTED completions of a stop (R196 step 4): for held descriptors, then for those never fetched. -/
def Qp.aborted (k : Qp) (gen : Byte) (tail : U32) : List Completion :=
  let a (seq : U32) (jt : Nat) (started slot irq : Bool) : Completion :=
    { status := 1, gen := gen, jobType := jt, seq := seq, result := if started then 1 else 0, slot := slot, irq := irq }
  k.held.map (fun h => a h.seq (dfield h.desc 0 8) h.started true (h.desc.toNat.testBit 9))
    ++ (List.range (tail - k.head).toNat).map fun i => a (k.head + BitVec.ofNat 32 i) 0 false false false

/-- The tail word that a stop has read (R196 step 2): a value that R187 would reject, or a failed read, counts as HEAD. -/
def Qp.stopTail (k : Qp) : HostRead U32 → U32
  | .ok t => if 2 ^ k.sqLog2 < (t - k.head).toNat then k.head else t
  | .failed => k.head

/-- The tail word has been read: every descriptor without a completion gets its ABORTED one (R196 step 4). -/
def State.abortAll (s : State) (q : Nat) (st : Stop) (tail : U32) : State :=
  s.updQp q fun k => { k with
    completions := k.completions ++ k.aborted st.gen tail, held := [], ask := none
    stop := some { st with reading := false, upTo := tail } }

/-- Count and log the completions that a link-down stop leaves unwritten (R198). -/
def State.loseCompletions (s : State) (q : Nat) : State :=
  let k := s.qp q
  let s := s.updQp q fun k => { k with completions := [], running := 0, ownStalled := false, askOwn := none, ownFree := 0 }
  match k.completions with
  | [] => s
  | c :: _ => (s.count (portCtr k.hostPort 42) k.completions.length).log 0x030E 1 [(2, q), (4, c.seq.toNat)]

/-- Begin a stop (R196 step 1). -/
def State.beginStop (s : State) (q : Nat) (kind : StopKind) (tail : HostRead U32) (ticket : Nat) : State :=
  let defers := kind = .linkDown ∧ s.oldGenLive q
  let st : Stop := { kind := kind, tail := tail, ticket := ticket, gen := (s.qp q).qpGen, reading := true }
  let s := s.updQp q fun k =>
    { k with state := .stopping, qpGen := if defers then k.qpGen else k.qpGen + 1, genDeferred := decide defers
             tailSeen := none, dbPending := false, writesHeld := false, ownStalled := false, ask := none, stop := some st }
  if kind = .linkDown then (s.abortAll q st (s.qp q).head).loseCompletions q else s

/-- The read of the tail word that a stop makes (R196 step 2): it fails where Bus Master Enable forbids it. -/
def State.pumpStop (s : State) (q : Nat) : State :=
  let k := s.qp q
  match k.stop with
  | none => s
  | some st =>
    if ¬ st.reading then s
    else if ¬ (s.port k.hostPort).busMaster then s.abortAll q st k.head
    else match k.ask with
      | none =>
        (s.updQp q fun k => { k with ask := some ⟨.tailWord, 1, false⟩ }).wqRead q k.tailAddr.toNat 4 .tailWord
      | some a => if a.sent then s.abortAll q st (k.stopTail st.tail) else s

/-- A stop becomes a link-down stop while it waits (R202). -/
def State.stopByLink (s : State) (q : Nat) : State :=
  let k := s.qp q
  match k.stop with
  | none => s
  | some st =>
    let st := { st with kind := .linkDown }
    let s := if st.reading then s.abortAll q st k.head else s.updQp q fun k => { k with stop := some st }
    s.loseCompletions q

/-- Has the migration engine a job of the queue pair (R196 step 6)? -/
def State.hasJobs (s : State) (q : Nat) : Bool :=
  (s.wq.slots.cells.any fun c => c.2.valid && c.2.qp == q)
    || (s.wq.zeros.any fun z => match z.job with
      | some (a, _, _) => a == q
      | none => false)

/-- A command that stops queue pairs completes when all that it stops have stopped. -/
def State.stopEnds (s : State) (q : Nat) (st : Stop) : State :=
  if s.wq.qps.cells.any fun c => match c.2.stop with
      | some r => r.ticket == st.ticket
      | none => false
  then s
  else
    let quiesce := match s.mgmt.running.find? (·.ticket == st.ticket) with
      | some r => (match r.instr with
        | .tenantQuiesce _ _ _ => true
        | _ => false)
      | none => false
    s.complete st.ticket rcSuccess (if quiesce then [] else [(s.qp q).qpGen])

/-- Step 5 of a stop (R196), once every completion is written: HEAD := TAIL, and the head word, which a link-down stop does not
write (R198). -/
def State.stopHead (s : State) (q : Nat) (st : Stop) : State :=
  if st.headDone then s
  else
    let s := s.updQp q fun k => { k with head := st.upTo, running := 0, stop := some { st with headDone := true } }
    if st.kind = .linkDown then s else s.wqWrite q (s.qp q).headAddr.toNat (leBytes st.upTo.toNat 4) none

/-- Step 6: a reset ends as ENABLED once the queue's jobs have stopped too; every other stop ends as DISABLED after step 5 (R196 to
R198). In SAFE the migration engine itself has stopped (R411). -/
def State.checkStop (s : State) (q : Nat) : State :=
  let k := s.qp q
  match k.stop with
  | none => s
  | some st =>
    if k.state ≠ .stopping ∨ st.reading ∨ ¬ k.completions.isEmpty then s
    else
      let s := s.stopHead q st
      if st.kind = .reset ∧ s.hasJobs q ∧ s.sys.mode ≠ .safe then s
      else
        let s := s.updQp q fun k => { k with state := if st.kind = .reset then .enabled else .disabled, stop := none }
        s.stopEnds q st

/-- A QUEUE_ENABLE proceeds (R183). -/
def State.enableNow (s : State) (q : Nat) (u : QueueSetup) : State :=
  let s := s.updQp q fun k =>
    { k with
      qpGen := k.qpGen + 1, genDeferred := false, head := 0, cqNext := 0, tenantGen := s.tab.gens.get k.tenant
      sqBase := u.sqBase, cqBase := u.cqBase, sqLog2 := u.sqLog2.toNat, cqLog2 := u.cqLog2.toNat
      tailAddr := u.tailAddr, headAddr := u.headAddr, jobMask := u.jobMask, msix := u.msixVector.toNat
      maxJobs := u.maxJobs.toNat, dbPending := false, held := [], completions := [], running := 0, tailSeen := none
      ownStalled := false, ownFree := 0, ask := none, askOwn := none, writesHeld := false, stop := none, enabling := none }
  let s := s.wqWrite q u.headAddr.toNat (leBytes 0 4) none
  s.updQp q fun k => { k with state := .enabled }

/-- A QUEUE_ENABLE that waits for the previous generation goes on when it has ended (R199). -/
def State.checkEnable (s : State) (q : Nat) : State :=
  match (s.qp q).enabling with
  | none => s
  | some (u, ticket) =>
    if s.oldGenLive q then s else (s.enableNow q u).complete ticket rcSuccess [(s.enableNow q u).qp q |>.qpGen]

/-- A rollback takes the tenant of a waiting QUEUE_ENABLE out of use: the command ends with STATE_CONFLICT (R387; DESIGN CHOICE, log
entry 85). -/
def State.cancelEnable (s : State) (q : Nat) : State :=
  match (s.qp q).enabling with
  | none => s
  | some (_, ticket) =>
    (s.updQp q fun k => { k with enabling := none }).complete ticket rcConflict (s.conflictBytes 2 q (qpNo (s.qp q).state) 0)

/-- Every queue pair's waits (R183, R196), then what its engine asks of host memory: queue pairs are served round-robin, one batch
each (R187). -/
def State.checkQueues (s : State) : State :=
  let all := s.wq.qps.keys
  let s := all.foldl (fun s q => ((s.pumpStop q).checkStop q).checkEnable q) s
  let order := all.filter (fun q => decide (s.wq.turn < q)) ++ all.filter fun q => decide (q ≤ s.wq.turn)
  (order.foldl (fun s q => (s.pumpFetch q).pumpOwn q) s).pumpOut

end Sys2Proof.Machine
end

