-- ==== Sys2Proof/Machine/Registers.lean ====
section
/-! DEFINITION. Registers as software reads and writes them (R4 to R6): what an address holds, the latches of registers wider than
a dword, and the bits that a write covers. -/

namespace Sys2Proof.Machine

/-- What an address of a register space holds: the base and size of the register or entry, and its value. -/
structure CsrObject where
  base : Nat
  size : Nat
  value : Nat
  /-- hardware changes it, and it is wider than a dword: reads latch (R5) -/
  latches : Bool := false
  /-- the spec gives no contents: a read finds a free value -/
  isFree : Bool := false
deriving DecidableEq, Repr

/-- The register of a list at an offset from base; an offset that no register covers reads as a zero byte. -/
def regObject (base off : Nat) (l : List (Nat × Nat × Nat)) : CsrObject :=
  match l.find? fun r => decide (r.1 ≤ off) && decide (off < r.1 + r.2.1) with
  | some (o, n, v) => { base := base + o, size := n, value := v, latches := decide (4 < n) }
  | none => { base := base + off, size := 1, value := 0 }

/-- A write of `bytes` bytes at a to an object: the bits written, and the object's value with them. -/
def CsrObject.written (o : CsrObject) (a bytes data : Nat) : Nat × Nat :=
  let covers (i : Nat) : Bool := decide (a ≤ o.base + i) && decide (o.base + i < a + bytes)
  let l := List.range (if o.size < 64 then o.size else 64)
  let bits := pack (l.map fun i => (8, if covers i then field data (8 * (o.base + i - a)) 8 else 0))
  let merged := pack (l.map fun i => (8, if covers i then field data (8 * (o.base + i - a)) 8 else field o.value (8 * i) 8))
  (bits, merged)

/-- The dwords of wider registers that a read has latched, by address. -/
abbrev Latches := Tbl (none : Option U32)

/-- The latches after a read of an object's lowest dword: every higher dword is latched (R5, R266). -/
def CsrObject.latchAbove (o : CsrObject) (t : Latches) : Latches :=
  (List.range (o.size / 4 - 1)).foldl (fun t k =>
    t.set (o.base + 4 * (k + 1)) (some (BitVec.ofNat 32 (field o.value (32 * (k + 1)) 32)))) t

/-- The latches after a read of an object's highest dword: nothing of the object is latched (R5, R266). -/
def CsrObject.unlatch (o : CsrObject) (t : Latches) : Latches :=
  (List.range (o.size / 4 - 1)).foldl (fun t k => t.set (o.base + 4 * (k + 1)) none) t

/-- A read of the dword at address a of a register that latches: the lowest dword is live and latches the others, and a higher dword
is what was latched, or live (R5). Quality blocks keep their latch until the highest dword is read (R266). -/
def CsrObject.readDword (o : CsrObject) (a : Nat) (t : Latches) : Nat × Latches :=
  let live := field o.value (8 * (a - o.base)) 32
  if a = o.base then (live, o.latchAbove t)
  else (((t.get a).map (·.toNat)).getD live, if a + 4 = o.base + o.size then o.unlatch t else t)

/-- The dwords that a read of n bytes at a touches, rising. -/
def dwordsOf (a n : Nat) : List Nat := (List.range ((a % 4 + n + 3) / 4)).map fun k => a / 4 * 4 + 4 * k

/-- A read of one dword of a register space. -/
def readDword (find : Nat → Option CsrObject) (d : Nat) (t : Latches) : Nat × Latches :=
  match find d with
  | none => (0, t)
  | some o =>
    if o.latches then o.readDword d t
    else if 4 ≤ o.size then (field o.value (8 * (d - o.base)) 32, t)
    else (pack ((List.range 4).map fun i => (8, match find (d + i) with
      | some o => field o.value (8 * (d + i - o.base)) 8
      | none => 0)), t)

/-- A read of n bytes at a, dword by dword from the lowest (R4, R5). -/
def readSpan (find : Nat → Option CsrObject) (a n : Nat) (t : Latches) : Nat × Latches :=
  let r := (dwordsOf a n).foldl (fun (acc : List Nat × Latches) d =>
    let v := readDword find d acc.2
    (acc.1 ++ [v.1], v.2)) ([], t)
  (pack (r.1.map fun v => (32, v)) / 256 ^ (a % 4) % 256 ^ n, r.2)

end Sys2Proof.Machine
end

