-- ==== Sys2Proof/Machine/HostRegs.lean ====
section
/-! DEFINITION. What a host reaches of the switch itself by CXL.io: BAR0 of the management function with its mailbox page and its
doorbell pages (R180, R185, R360, R361), and the configuration space of the switch's own functions (R1, R236). -/

namespace Sys2Proof.Machine

/-! ### The mailbox page (R360) -/

/-- MB_CAP. -/
def mbCap : Nat := pack [(5, 11), (1, 1), (1, 0), (4, 0)]
/-- MB_CTRL. -/
def Mbox.ctrl (m : Mbox) : Nat := pack [(1, b2n m.doorbell), (1, b2n m.irqEn)]
/-- MB_CMD. -/
def Mbox.cmd (m : Mbox) : Nat := pack [(16, m.opcode.toNat), (21, m.length.toNat)]
/-- MB_STATUS. -/
def Mbox.status (m : Mbox) : Nat := pack [(1, 0), (31, 0), (16, m.code.toNat), (16, m.ticket.toNat)]

/-- The device capabilities array register: two capabilities. Its version and type are those of CXL 3.1 (PRESUMED, log entry 84). -/
def capArray : Nat := pack [(16, 0), (8, 1), (4, 2), (4, 0), (16, 2)]
/-- A capability header: ID, version 1, offset and length. -/
def capHeader (id off len : Nat) : Nat := pack [(16, id), (8, 1), (8, 0), (32, off), (32, len)]

/-- Device status: bit i is set while event log i of the management function holds a record (the order of the logs is that of
CXL 3.1: PRESUMED, log entry 84). -/
def State.eventStatus (s : State) : Nat := bitsOf (s.obs.mgmtLogs.logs.map fun l => !l.isEmpty)

/-- MB_PAYLOAD as it reads: the output buffer once a result exists (R361). -/
def Mbox.payloadByte (m : Mbox) (i : Nat) : Nat := if m.doorbell then 0 else (m.output.getD i 0).toNat

/-- What page 0 holds at an offset. -/
def State.mailboxObject (s : State) (p off : Nat) : CsrObject :=
  let m := s.mgmt.mbox.get p
  if 0x120 ≤ off ∧ off < 0x920 then { base := off, size := 1, value := m.payloadByte (off - 0x120) }
  else regObject 0 off [(0x000, 16, capArray), (0x010, 16, capHeader 1 0x080 8), (0x020, 16, capHeader 2 0x100 0x820),
    (0x080, 8, s.eventStatus), (0x100, 4, mbCap), (0x104, 4, m.ctrl), (0x108, 8, m.cmd), (0x110, 8, m.status), (0x118, 8, 0)]

/-- What a doorbell page holds at an offset: nothing where no queue pair holds it (R185). -/
def State.pageObject (s : State) (p page off : Nat) : CsrObject :=
  match s.qpAt p page with
  | none => { base := off, size := 1, value := 0 }
  | some q =>
    let k := s.qp q
    regObject 0 off [(0x008, 4, pack [(3, qpNo k.state), (5, 0), (8, k.qpGen.toNat)]), (0x00C, 4, k.haltSeq.toNat)]

/-- A host reads n bytes of BAR0. -/
def State.readBar0 (s : State) (p off n : Nat) : List Byte × State :=
  let m := s.mgmt.mbox.get p
  if off < 0x1000 then
    let r := readSpan (fun a => some (s.mailboxObject p a)) off n m.latch
    (leBytes r.1 n, { s with mgmt.mbox := s.mgmt.mbox.set p { m with latch := r.2 } })
  else (leBytes (readSpan (fun a => some (s.pageObject p (off / 0x1000) a)) (off % 0x1000) n .empty).1 n, s)

/-- DOORBELL is written 1 (R362 step 2): the gateway latches the command and gives it the next ticket. The command row of the same
mailbox that follows stands for what Bolroth then decodes (DESIGN CHOICE, log entry 4). -/
def State.ringDoorbell (s : State) (p : PortId) : State :=
  let (t, s) := s.issueTicket (.mbox p)
  { s with mgmt.mbox := s.mgmt.mbox.upd p.val fun m =>
      { m with doorbell := true, latched := some t, code := BitVec.ofNat 16 rcBusy, ticket := BitVec.ofNat 16 t } }

/-- The mailbox registers after a write of bytes b at an offset of page 0. While DOORBELL is 1, MB_CMD and MB_PAYLOAD keep their
contents (R361). -/
def Mbox.written (m : Mbox) (off : Nat) (b : List Byte) : Mbox :=
  let v (lo n old : Nat) : Nat := (CsrObject.written { base := lo, size := n, value := old } off b.length (leNat b)).2
  let m := { m with irqEn := (v 0x104 4 m.ctrl).testBit 1 }
  if m.doorbell then m
  else
    let c := v 0x108 8 m.cmd
    let lo := Nat.max off 0x120
    let part := (b.drop (lo - off)).take (0x920 - lo)
    { m with
      opcode := BitVec.ofNat 16 (field c 0 16), length := BitVec.ofNat 21 (field c 16 21)
      input := if part.isEmpty then m.input else patchBytes m.input (lo - 0x120) part }

/-- A write to page 0 of a host's BAR0 (R6, R360, R361). A write of MB_CMD, of MB_PAYLOAD or of DOORBELL = 1 while DOORBELL is 1 is
counted. -/
def State.writeMailbox (s : State) (p : PortId) (off : Nat) (b : List Byte) : State :=
  let m := s.mgmt.mbox.get p.val
  let touches (lo n : Nat) : Bool := decide (off < lo + n) && decide (lo < off + b.length)
  let rings := (CsrObject.written { base := 0x104, size := 4, value := 0 } off b.length (leNat b)).1.testBit 0
  let s := { s with mgmt.mbox := s.mgmt.mbox.set p.val (m.written off b) }
  if m.doorbell then (if rings ∨ touches 0x108 8 ∨ touches 0x120 0x800 then s.countPort p.val 45 else s)
  else if rings then s.ringDoorbell p
  else s

/-- A host writes bytes of BAR0: a doorbell register is rung by a write of any size and value (R185). -/
def State.writeBar0 (s : State) (p : PortId) (off : Nat) (b : List Byte) : State :=
  if off < 0x1000 then s.writeMailbox p off (b.take (0x1000 - off))
  else
    let o := off % 0x1000
    let s := if o < 4 ∧ b ≠ [] then s.sqDoorbell p.val (off / 0x1000) else s
    if o < 8 ∧ 4 < o + b.length then s.cqDoorbell p.val (off / 0x1000) else s

/-! ### The switch's own functions (R236) -/

/-- Does host port p have this function? -/
def State.hasFn (s : State) (p : Nat) : SwitchFn → Bool
  | .vppb k => decide (k.val < (s.param p).vppbCount)
  | _ => true

/-- Device ID. -/
def deviceId : SwitchFn → Nat
  | .upstream => 0x0640 | .management => 0x0642 | .vppb _ => 0x0641 | .poolView => 0x0643

/-- Class code; that of the CXL 3.1 switch mailbox CCI the spec does not give as a number. -/
def classCode : SwitchFn → Option Nat
  | .upstream => some 0x060400 | .management => none | .vppb _ => some 0x060400 | .poolView => some 0x050210

/-- A byte of a function's configuration space, as far as the spec gives it: Device ID, Bus Master Enable, Revision ID 0xB0, class
code. -/
def configByte (f : SwitchFn) (master : Bool) (i : Nat) : Option Nat :=
  if i = 2 ∨ i = 3 then some (field (deviceId f) (8 * (i - 2)) 8)
  else if i = 4 ∧ f = .management then some (4 * b2n master)
  else if i = 8 then some 0xB0
  else if 9 ≤ i ∧ i < 12 then (classCode f).map fun c => field c (8 * (i - 9)) 8
  else none

/-- A configuration read: bytes that the spec does not give are free values (log entry 29). -/
def State.readConfig (s : State) (p : Nat) (f : SwitchFn) (off n : Nat) : List Byte × State :=
  let (v, s) := s.free
  ((List.range n).map fun i =>
    BitVec.ofNat 8 ((configByte f (s.port p).busMaster (off + i)).getD (field v (8 * i) 8)), s)

/-- A configuration write: the host sets Bus Master Enable of the management function in its Command register (R195). -/
def State.writeConfig (s : State) (p : Nat) (f : SwitchFn) (off : Nat) (b : List Byte) : State :=
  if f = .management ∧ off ≤ 4 ∧ 4 < off + b.length then
    s.updPort p fun k => { k with busMaster := (b.getD (4 - off) 0).toNat.testBit 2 }
  else s

/-! ### HDM decoders (R19, R236) -/

/-- Decoder 0 of the upstream switch port, and the pool view's decoder: committed and locked to the range of R19, with vPPB 0 as its
target. -/
def State.poolHdm (s : State) (p : Nat) : HdmDecoder :=
  let k := s.port p
  { base := k.decBase, tiles := if k.decValid then k.decTilesM1 + 1 else 0, lock := true, commit := k.decValid, committed := k.decValid }

/-- HDM decoder d of host port p. -/
def State.hdm (s : State) (p d : Nat) : HdmDecoder := if d = 0 then s.poolHdm p else s.edge.hdms.get (8 * p + d)

/-- A decoder's registers: base, size, control and target list, as in CXL 3.1 (PRESUMED, log entry 88). -/
def HdmDecoder.toNat (d : HdmDecoder) : Nat :=
  pack [(64, d.base * 2 ^ 28), (64, d.tiles * 2 ^ 28), (4, d.ig), (4, d.iw), (1, b2n d.lock), (1, b2n d.commit), (1, b2n d.committed),
    (1, b2n d.error), (20, 0), (64, d.targets.toNat)]

/-- A decoder that the host's values fit (R236): 1, 2, 4 or 8 ways, 256 B to 16 KiB, below 2^64, and each way a vPPB from 1 on. -/
def HdmDecoder.fits (d : HdmDecoder) (vppbs : Nat) : Bool :=
  decide (d.iw ≤ 3) && decide (d.ig ≤ 6) && decide (0 < d.tiles) && decide (d.base + d.tiles ≤ 2 ^ 36)
    && (List.range (2 ^ Nat.min d.iw 3)).all fun i =>
      let v := field d.targets.toNat (8 * i) 8
      decide (0 < v) && decide (v < vppbs)

/-- A decoder with the value v written to its registers: a committed one takes only the commit bit, and none if it is locked; setting
the commit bit commits the decoder, or reports the error (PRESUMED of CXL 3.1, log entry 88). -/
def HdmDecoder.written (d : HdmDecoder) (vppbs v : Nat) : HdmDecoder :=
  let commit := v.testBit 137
  if d.committed then (if d.lock ∨ commit then d else { d with commit := false, committed := false })
  else
    let d : HdmDecoder :=
      { base := field v 28 36, tiles := field v 92 36, ig := field v 128 4, iw := field v 132 4, lock := v.testBit 136
        commit := commit, targets := BitVec.ofNat 64 (field v 160 64) }
    if commit then { d with committed := d.fits vppbs, error := !d.fits vppbs } else d

/-- The HDM decoders that a function carries, by number. -/
def hdmsOf : SwitchFn → List Nat
  | .upstream => List.range 8 | .poolView => [0] | _ => []

/-- Where decoder d stands in the component registers of a function (DESIGN CHOICE, log entry 88). -/
def hdmBase (d : Nat) : Nat := 0x1210 + 0x20 * d

/-- A host reads n bytes of a function's memory: its HDM decoders, and free values elsewhere. -/
def State.readHdms (s : State) (p : Nat) (f : SwitchFn) (off n : Nat) : List Byte × State :=
  let (v, s) := s.free
  ((List.range n).map fun i =>
    let a := off + i
    match (hdmsOf f).find? fun d => decide (hdmBase d ≤ a) && decide (a < hdmBase d + 28) with
    | some d => BitVec.ofNat 8 (field (s.hdm p d).toNat (8 * (a - hdmBase d)) 8)
    | none => BitVec.ofNat 8 (field v (8 * i) 8), s)

/-- A host writes bytes of a function's memory: the decoders 1 to 7 of its upstream switch port. -/
def State.writeHdms (s : State) (p : Nat) (f : SwitchFn) (off : Nat) (b : List Byte) : State :=
  (hdmsOf f).foldl (fun s d =>
    if d = 0 ∨ off + b.length ≤ hdmBase d ∨ hdmBase d + 28 ≤ off then s
    else
      let h := s.hdm p d
      let v := (CsrObject.written { base := hdmBase d, size := 28, value := h.toNat } off b.length (leNat b)).2
      { s with edge.hdms := s.edge.hdms.set (8 * p + d) (h.written (s.param p).vppbCount v) }) s

/-- What a CXL.io request does at a function of host port p, and the completion that it gets: data, or Unsupported Request. The
functions claim no I/O space. -/
def State.functionRequest (s : State) (p : PortId) (f : SwitchFn) (op : Nat) (m : Msg) : Option (List Byte × Bool) × State :=
  let a := m.addr.toNat
  let n := Nat.min m.readLen 4096
  if op = 0 then
    if m.payload = [] then
      (if f = .management then
        let r := s.readBar0 p.val (a % 2 ^ 24) n
        (some (r.1, false), r.2)
      else
        let r := s.readHdms p.val f (a % 2 ^ 16) n
        (some (r.1, false), r.2))
    else (none, if f = .management then s.writeBar0 p (a % 2 ^ 24) m.payload else s.writeHdms p.val f (a % 2 ^ 16) m.payload)
  else if op = 1 then (some ([], true), s)
  else if op = 2 then
    if m.payload = [] then
      let r := s.readConfig p.val f (a % 4096) (Nat.min n 4)
      (some (r.1, false), r.2)
    else (some ([], false), s.writeConfig p.val f (a % 4096) (m.payload.take 4))
  else (none, s)

end Sys2Proof.Machine
end

