-- ==== Sys2Proof/Machine/Steps.lean ====
section
/-! DEFINITION. The recipe engine: every step kind (R49), the step loop (R52) and the start of a transaction (R46, R57,
R80). -/

namespace Sys2Proof.Machine

/-! ### Access, meter, translation -/

/-- The checker of a transaction (R138, R140): none for source HOME. -/
def Txn.checker (t : Txn) : Option Nat :=
  if t.ingress ≤ 72 then some t.ingress
  else if t.ingress = xMgmt then (match t.issuer with
    | .mgmt m => some (73 + m)
    | _ => some 73)
  else none

/-- The checked access of a transaction (R141, R142, R144). -/
def State.accessOf (s : State) (t : Txn) : Access :=
  let b := s.tab.bank t.bank
  { space := if t.ingress < 64 then 0 else 1
    addr := t.addr
    needs := needsOf t.cls t.opcode t.msg
    tenant := t.tenant
    rank := if 64 ≤ t.ingress ∧ t.ingress < 72 then t.msg.originRank.toNat else s.rank
    priv := if t.ingress < 64 then !t.noTenant && (b.tenants.get t.tenant).privileged
      else t.checker == some 73 || t.checker == some 74
    noTenant := t.noTenant }

/-- CHECK_ACCESS (R49, R147). -/
def State.checkStep (s : State) (i : Nat) : StepRes :=
  let t := s.txn i
  match t.checker with
  | none => .outcome 0 s
  | some k =>
    if s.checkerBroken k ∨ (t.ingress < 64 ∧ ¬ t.noTenant ∧ s.isDamaged (.tenant (BitVec.ofNat 12 t.tenant))) then .error s
    else
      let a := s.accessOf t
      let (o, s) := if k = 75 ∧ ¬ (s.tab.checkers.get 75).enabled then (2, s.accessFault k a ⟨2, 0x7F, false⟩)
        else s.checkAccess (s.tab.bank t.bank) k a (s.defaultMap k a (if k = 74 then 0x400000 else 0))
      .outcome o (if o = 2 then (s.passOrdering i).updTxn i fun t => { t with faulted := true } else s)

/-- METER (R27, R49, R164). -/
def State.meterStep (s : State) (i : Nat) : StepRes :=
  let t := s.txn i
  if t.noTenant then .outcome 0 s
  else
    let m := (s.tab.bank t.bank).meters.get t.tenant
    let c := costOf t.cls t.opcode (unitsOf t.cls t.opcode t.msg)
    let (col, st) := (s.tab.meterState.get t.tenant).meter m c s.sys.ft
    let s := { s with tab.meterState := s.tab.meterState.set t.tenant st }
    .outcome (colourNo col) (s.putTxn i { t with colour := col })

/-- Count and log an UNSERVED or DENIED outcome against its ingress point (R49, R428): reason 0 UNMAPPED, 1 LOST,
2 DENIED. -/
def State.countUnserved (s : State) (t : Txn) (reason : Nat) : State :=
  let s := if t.ingress < 64 then s.countPort t.ingress (if reason = 0 then 16 else if reason = 2 then 17 else 54)
    else if t.ingress < 72 then s.countTrunk (t.ingress - 64) (if reason = 1 then 44 else 43)
    else s.countGlobal 71
  s.log 0x0106 1 [(1, t.ingress), (1, reason), (2, if t.noTenant then 0xFFFF else t.tenant), (8, t.addr)]

/-- Does TRANSLATE serve the request as a write that a switchover holds (R214)? -/
def Txn.holdable (t : Txn) : Bool := t.cls == 1 || (t.cls == 7 && t.opcode == opMgmtWrite)

/-- An UNSERVED or DENIED outcome of transaction i: counted, its reason kept; the record passes its ordering point (R107). -/
def State.endUnserved (s : State) (i reason : Nat) : State :=
  ((s.countUnserved (s.txn i) reason).passOrdering i).updTxn i fun t => { t with reason := some reason }

/-- TRANSLATE once a host's request has its copies (R30), or for a request with a fabric address: the home's service, at this switch
or another (R36, R39, R49). A write that a switchover holds keeps its copies, and uses them when it runs again (R214). -/
def State.translateHome (s : State) (i : Nat) : StepRes :=
  let t := s.txn i
  let host := t.ingress < 64
  let fabric := if host then fabricAddr t.homeRank t.homeTile (field t.addr 0 28) else t.addr
  match s.translateFabric (if host then t.attr else attrOf t.msg.attr.toNat) fabric t.holdable with
  | .here _ h => .outcome 0 (s.putTxn i ({ t with addr := fabric }.copyHome s.rank (field fabric 28 19) h))
  | .remote attr a =>
    .outcome 1 (s.putTxn i
      { t with addr := a, attr := attr, homeRank := field a 47 4, homeTile := field a 28 19
               via := if field fabric 47 4 = s.rank then some (field fabric 28 19) else none })
  | .unserved reason => .outcome 2 (s.endUnserved i reason)
  | .damaged => .error s
  | .hold => .suspend (s.putTxn i { t with state := .waitHold })

/-- TRANSLATE (R49). A host's request reads its translation entry once and copies HOME_RANK, HOME_TILE and ATTR (R30). -/
def State.translateStep (s : State) (i : Nat) : StepRes :=
  let t := s.txn i
  if 64 ≤ t.ingress ∨ t.tt.isSome then s.translateHome i
  else match s.readEntry (s.tab.bank t.bank) t.ingress t.addr with
    | .error .damaged => .error s
    | .error _ => .outcome 2 (s.endUnserved i 0)
    | .ok (k, e) =>
      let s := s.putTxn i { t with tt := some k, homeRank := e.homeRank, homeTile := e.homeTile, attr := e.attr }
      if t.holdable ∧ e.attr = .sharedReadonly then .outcome 3 (s.endUnserved i 2) else s.translateHome i

/-! ### Sending -/

/-- Key of R106 for a transaction's trunk: the origin host port, the queue pair of a MIGRATION request, 0 for MGMT. -/
def Txn.trunkKey (t : Txn) : Nat :=
  if t.ingress < 64 then t.ingress
  else if t.ingress < 72 then t.msg.originPort.toNat
  else if t.ingress = xMigration then t.qp
  else 0

/-- ORIGIN_PORT of a request that crosses a trunk (R105). One that no host port sent names a port of this switch that is no HOST
port, of the parity that R106 gives it (DESIGN CHOICE, log entry 73). -/
def State.originPort (s : State) (t : Txn) : Nat :=
  if t.ingress < 64 then t.ingress
  else if t.ingress < 72 then t.msg.originPort.toNat
  else ((List.range 64).find? fun p => p % 2 == t.trunkKey % 2 && (s.port p).role != .host).getD (t.trunkKey % 2)

/-- The message of a request of t as it is sent on: opcode, address and tag of the sender (R39, R78, R105). A write of an internal
master is no writeback: its SnpType is SnpInv (R98; DESIGN CHOICE, log entry 73). -/
def State.requestMsg (s : State) (t : Txn) (op : Nat) (addr : Nat) (tag : BitVec 24) : Msg :=
  { t.msg with
    op := BitVec.ofNat 6 op, addr := BitVec.ofNat 64 addr, tag := tag, tenant := BitVec.ofNat 12 t.tenant
    gen := t.gen, attr := BitVec.ofNat 2 (attrNo t.attr), colour := t.colour, grant := 0
    originRank := if 64 ≤ t.ingress ∧ t.ingress < 72 then t.msg.originRank else BitVec.ofNat 4 s.rank
    originPort := BitVec.ofNat 6 (s.originPort t)
    snpType := if t.cls = 7 ∧ ¬ isRead 7 t.opcode then .snpInv else t.msg.snpType
    hostTag := if t.cls = 3 ∧ t.ingress < 64 then t.reqTag.setWidth 16 else t.msg.hostTag }

/-- Does the message that is sent on expect a response (R55)? -/
def expectsReply (cls op : Nat) : Bool := cls ≤ 1 && !(cls == 0 && (op == 3 || op == 4 || op == 8)) || cls == 3 || cls == 7

/-- Begin to expect n answers. -/
def Txn.expecting (t : Txn) (n : Nat) (copies : List Nat) : Txn :=
  { t with expect := n, got := 0, good := 0, errSeen := false, poisonSeen := false, timedOut := false,
           copies := copies }

/-- A copy that a link which is down answers at once with an error (R51, R221). -/
def State.deadCopy (s : State) (i p : Nat) : State :=
  (s.countFlush p).updTxn i fun t => { t with got := t.got + 1, errSeen := true }

/-- Send a request of transaction i to downstream port p at device address a, with a tag slot when it expects a
response; none while there is no room. -/
def State.sendToPort (s : State) (i p op a : Nat) (sf : Bool) : Option State :=
  let t := s.txn i
  let units := unitsOf (if t.cls = 7 then (if isRead 7 t.opcode then 0 else 1) else t.cls) op t.msg
  let cost := costOf t.cls t.opcode units
  let (q, f) := t.lane
  if ¬ s.targetUp p then some (s.deadCopy i p)
  else if ¬ s.queueRoom p q f 1 then none
  else
    let cls := if t.cls = 7 then (if isRead 7 t.opcode then 0 else 1) else t.cls
    if expectsReply cls op then
      (s.takeTag p i .main).map fun r =>
        r.2.enqueue p q { txn := some i, record := t.record, msg := s.requestMsg t op a r.1, units := units,
                          cost := cost, flow := f, sf := sf, cls := cls }
    else some (s.enqueue p q { txn := some i, record := t.record, msg := s.requestMsg t op a 0, units := units,
                               cost := cost, flow := f, sf := sf, cls := cls })

/-- Send a request of transaction i over the trunk toward a rank (R39, R106): outcome 1 NO_TARGET without a route. -/
def State.sendToRank (s : State) (i rank key op a : Nat) : StepRes :=
  let t := s.txn i
  match s.trunkTo rank key with
  | none => .outcome 1 s
  | some k =>
    let (q, f) := if t.cls = 3 then (2, t.lane.2) else t.lane
    if ¬ s.queueRoom (64 + k) q f 1 then .stall s
    else
      let units := unitsOf t.cls t.opcode t.msg
      let e : QEntry :=
        { txn := some i, record := t.record, msg := s.requestMsg t op a (s.trunkTag i), units := units,
          cost := costOf t.cls t.opcode units, flow := f
          cls := if t.cls = 7 then (if isRead 7 t.opcode then 0 else 1) else t.cls }
      .outcome 0 ((s.putTxn i { t.expecting 1 [] with sentTo := 64 + k }).enqueue (64 + k) q e)

/-- The destination of a message within a virtual hierarchy (R49 VH): port and LD-ID. A host's message names the bound
vPPB that routing selects; a device's message goes to the host of its binding. -/
def State.vhTarget (s : State) (t : Txn) : Option (Nat × Nat) :=
  if (s.port t.ingress).role = .host then s.routedTo t.ingress t.cls t.msg
  else
    (s.edge.binds.cells.find? fun c => match c.2 with
      | some (p, ld) => p == t.ingress && (ld == t.msg.ld.toNat || !(s.port p).mld)
      | none => false).map fun c => (c.1 / 32, c.1 % 32)

/-- The host port whose virtual hierarchy a message is in. -/
def State.vhHost (s : State) (t : Txn) : Option Nat :=
  if (s.port t.ingress).role = .host then some t.ingress else (s.vhTarget t).map (·.1)

/-- A CXL.io message to a function of the switch itself (R49, R55): the request acts there, and its completion goes back. -/
def State.forwardFunction (s : State) (i op : Nat) (f : SwitchFn) : StepRes :=
  let t := s.txn i
  match s.vhHost t with
  | none => .outcome 1 s
  | some h =>
    if hp : h < 64 then
      if ¬ s.hasFn h f then .outcome 1 s
      else if ¬ s.queueRoom t.ingress 4 0 1 then .stall s
      else match s.functionRequest ⟨h, hp⟩ f op t.msg with
        | (none, s) => .outcome 0 s
        | (some (data, bad), s) =>
          let units := 2 + (data.length + 15) / 16
          .outcome 0 (s.send t.ingress 4
            { msg := { t.answerMsg 3 with payload := data, unsupported := bad }, cls := 6, units := units, cost := 16 * units })
    else .outcome 1 s

/-- A VDM message of a pool member reports one of its event records: the log, and the record's first 8 B, which Bolroth copies to the
Brittle log (R242; DESIGN CHOICE, log entry 89). -/
def State.memberEvent (s : State) (p : Nat) (b : List Byte) : State :=
  if s.bolrothRuns then
    (s.countPort p 46).log 0x030B 1 [(1, p), (1, (b.headD 0).toNat), (8, leNat ((b.drop 1).take 8))]
  else s

/-- FORWARD(VH) (R49, R55). MCTP over VDM goes to the management function, where its row stands for the command it carries. What a
virtual hierarchy forwards belongs to no tenant (DEDUCED, log entry 15). -/
def State.forwardVh (s : State) (i op : Nat) : StepRes :=
  let t := s.txn i
  let op := if op = 0xFF then t.opcode else op
  if 64 ≤ t.ingress then .fault s
  else if t.cls = 6 ∧ op = 5 then
    .outcome 0 (if (s.port t.ingress).role = .poolMember then s.memberEvent t.ingress t.msg.payload else s)
  else match if t.cls = 6 then t.msg.fn else none with
    | some f => s.forwardFunction i op f
    | none =>
    match s.vhTarget t with
    | none => .outcome 1 s
    | some (p, ld) =>
      if ¬ (s.port p).dlUp then (if t.cls ≤ 1 then .outcome 0 ((s.putTxn i (t.expecting 1 [p])).deadCopy i p)
        else .outcome 0 (s.countFlush p))
      else if t.cls ≤ 1 then
        match (s.putTxn i { t.expecting 1 [p] with sentTo := p, msg := { t.msg with ld := BitVec.ofNat 4 ld } }).sendToPort
            i p op t.addr false with
        | none => .stall s
        | some s => .outcome 0 s
      else if ¬ s.queueRoom p 4 0 1 then .stall s
      else
        let units := unitsOf t.cls op t.msg
        let m : Msg := { t.msg with ld := BitVec.ofNat 4 ld, op := BitVec.ofNat 6 op }
        .outcome 0 (s.enqueue p 4
          { txn := some i, record := t.record, msg := m, units := units, cost := costOf t.cls op units, sf := t.cls == 6
            cls := t.cls })

/-- FORWARD(SOURCE) (R49): an answer to where the message came from. -/
def State.forwardSource (s : State) (i op : Nat) : StepRes :=
  let t := s.txn i
  let x := s.answerPoint t
  if 72 ≤ x then .fault s
  else if x < 64 ∧ s.stale t then .outcome 0 (s.countPort x 21)
  else if ¬ s.queueRoom x 1 0 1 then .stall s
  else
    let m := t.answerMsg op
    let m := if t.cls = 2 then { m with originRank := BitVec.ofNat 4 s.rank } else m
    .outcome 0 (s.send x 1 { msg := m, gen := t.genOf x, cls := if t.cls = 3 then 4 else 2 })

/-- FORWARD(NAMED_PORT) (R49, R103, R105): outcome 1 NO_TARGET, 2 NOT_MAPPED. -/
def State.forwardNamed (s : State) (i op : Nat) : StepRes :=
  let t := s.txn i
  let p := t.msg.originPort.toNat
  if ¬ (t.cls = 2 ∧ 0x10 ≤ t.opcode ∧ 64 ≤ t.ingress) then .fault s
  else if s.portSilent p ∨ ¬ (s.port p).dlUp then .outcome 1 s
  else
    let a := t.msg.addr.toNat
    match s.snoopAddr (s.tab.bank t.bank) p (field a 47 4) (field a 28 19) (field a 0 28 / 64 * 64) with
    | .damaged => .error s
    | .unmapped => .outcome 2 s
    | .found hpa =>
      if ¬ s.biTagRoom p ∨ ¬ s.queueRoom p 0 0 1 then .stall s
      else match s.takeBiTag p i 64 with
        | none => .stall s
        | some (tag, s) =>
          let op := if op = 0xFF then t.opcode else op
          let m : Msg := { op := BitVec.ofNat 6 op, addr := BitVec.ofNat 64 hpa, tag := tag }
          let t := { t.expecting 1 [] with named := some p, sentTo := p }
          .outcome 0 ((s.putTxn i t).send p 0 { txn := some i, msg := m, record := t.record, cls := 2 })

/-- FORWARD (R49). -/
def State.forwardStep (s : State) (i param : Nat) : StepRes :=
  let t := s.txn i
  let dest := field param 0 4
  let op := field param 4 8
  let opq := if op = 0xFF then t.opcode else op
  let off := field t.addr 0 28
  if (dest ≤ 1 ∧ ¬ t.home) ∨ (dest = 6 ∧ t.issuer = .none) then .fault s
  else match dest with
  | 0 =>
    match (s.putTxn i { t.expecting 1 [t.pPort] with sentTo := t.pPort }).sendToPort i t.pPort opq
        (t.pTile * 2 ^ 28 + off) false with
    | none => .stall s
    | some s => .outcome 0 s
  | 1 =>
    if ¬ t.mirrored ∨ t.singleCopy then .outcome 1 s
    else
      let s := s.releaseRec (t.rsp.bind (·.2))
      match (s.putTxn i { t.expecting 1 [t.mPort] with sentTo := t.mPort, rsp := none }).sendToPort i t.mPort opq
          (t.mTile * 2 ^ 28 + off) false with
      | none => .stall (s.updTxn i fun t => { t with rsp := none })
      | some s => .outcome 0 s
  | 2 => s.sendToRank i t.homeRank t.trunkKey opq t.addr
  | 3 => s.forwardSource i opq
  | 4 => s.forwardNamed i op
  | 5 => s.forwardVh i op
  | 6 =>
    if 64 ≤ t.jobPort then s.sendToRank i (t.jobPort - 64) t.trunkKey opq t.jobDpa
    else match (s.putTxn i { t.expecting 1 [t.jobPort] with sentTo := t.jobPort }).sendToPort i t.jobPort opq
        t.jobDpa false with
      | none => .stall s
      | some s => .outcome 0 s
  | _ => .fault s

/-- DUPLICATE (R49, R51). -/
def State.duplicateStep (s : State) (i param : Nat) : StepRes :=
  let t := s.txn i
  let op := if field param 4 8 = 0xFF then t.opcode else field param 4 8
  let off := field t.addr 0 28
  let both := t.mirrored && !t.singleCopy
  let (q, f) := t.lane
  let ok (p : Nat) : Bool := !s.targetUp p || (s.queueRoom p q f 1 && s.tagRoom p 1)
  if ¬ t.home then .fault s
  else if ¬ (ok t.pPort && (!both || ok t.mPort)) then .stall s
  else
    let s := s.putTxn i (if both then t.expecting 2 [t.pPort, t.mPort] else t.expecting 1 [t.pPort])
    match s.sendToPort i t.pPort op (t.pTile * 2 ^ 28 + off) true with
    | none => .stall s
    | some s =>
      if both then
        match s.sendToPort i t.mPort op (t.mTile * 2 ^ 28 + off) true with
        | none => .stall s
        | some s => .outcome 0 s
      else .outcome 1 s

/-! ### Waiting -/

/-- Suspend in WAIT_RSP with the timers of R81. -/
def State.waitOn (s : State) (i : Nat) (k : WaitKind) : State :=
  s.updTxn i fun t =>
    let t := { t with state := .waitRsp }
    if t.wait = k then t
    else if k = .birsp then
      { t with wait := k, snoopTimer := true,
               snoopDl := usOf s.sys.ft + BitVec.ofNat 20 s.tab.ident.snoopUs }
    else { t with wait := k }

/-- The wait of transaction i ends. -/
def State.waitEnd (s : State) (i : Nat) : State :=
  s.updTxn i fun t => { t with state := .running, wait := .none, snoopTimer := false, timedOut := false, lifeOver := false }

/-- A relay's port stayed silent (R49, R113): it is flagged, counted and logged. A relay knows no sharer slot of the home: SLOT_UNRESPONSIVE
names slot 0xFF (DESIGN CHOICE, log entry 74). -/
def State.relaySilent (s : State) (i p : Nat) : State :=
  let s := State.countPort { s with dp.unrespPorts := s.dp.unrespPorts ||| BitVec.ofNat 64 (2 ^ p) } p 23
  (s.log 0x0201 2 [(1, 0xFF), (1, s.rank), (1, p), (8, (s.txn i).msg.addr.toNat / 64)]).updTxn i fun t =>
    { t with snoopExpired := true }

/-- Write back the answers' effect where no DIR_UPDATE follows (R99, NA_READ and MGMT_READ): a line with no entry gets
none. -/
def State.settleAnswers (s : State) (t : Txn) (n : Nat) : Option State :=
  if t.cls = 7 ∧ isRead 7 t.opcode then
    match s.lookupLine n with
    | .entry _ _ => s.putEntry n t.holders t.ownerNow
    | _ => some s
  else some s

/-- WAIT_RSP(BIRSP) at a relay (R49, R108, R113). -/
def State.waitRelay (s : State) (i p : Nat) : StepRes :=
  let s := s.stepAll i true
  let t := s.txn i
  if t.timedOut then .outcome 2 (((s.relaySilent i p).quarantine i).waitEnd i)
  else if t.rsp.isSome ∧ t.attached.all (·.done) then .outcome 0 (s.waitEnd i)
  else .suspend (s.waitOn i .birsp)

/-- Advance what transaction i has attached and heard (R108, R110, R111): writes, Cmps, deferred acknowledgements, answers. -/
def State.stepAnswers (s : State) (i : Nat) : State :=
  let open_ := s.dp.conflicts.cells.any fun c =>
    c.2.valid && c.2.txn == i && c.2.sent && !c.2.answered && c.2.heard.isNone
  ((s.stepAll i (!open_ || (s.txn i).snoopExpired)).ackAll i).settleAnswered i

/-- WAIT_RSP(BIRSP) (R49, R108, R111 to R113). Its outcome comes once every attached write has completed and every Cmp is queued; the
lifetime deadline does not wait for them (R82). -/
def State.waitBirsp (s : State) (i : Nat) : StepRes :=
  match (s.txn i).named with
  | some p => s.waitRelay i p
  | none =>
    let recs (s : State) := (s.dp.conflicts.cells.filter fun c => c.2.valid && c.2.txn == i).map (·.2)
    if (recs s).isEmpty ∧ ¬ (s.txn i).snoopExpired then .fault s
    else
      let s := s.stepAnswers i
      let due := (recs s).all fun c => c.answered || !c.sent && c.heard.isNone
      let silent := (recs s).any fun c => !c.answered
      let s := if ((s.txn i).timedOut ∨ due ∧ silent) ∧ ¬ (s.txn i).snoopExpired then (s.snoopTimeout i).stepAnswers i else s
      let t := s.txn i
      let settled := t.attached.all (·.done) && !(recs s).any (·.confDeferred)
      if t.snoopExpired then
        (if settled ∨ t.lifeOver then .outcome 2 (((s.quarantine i).freeConflicts i).waitEnd i) else .stall (s.waitOn i .birsp))
      else if ¬ due then .suspend (s.waitOn i .birsp)
      else if ¬ settled then .stall (s.waitOn i .birsp)
      else if t.errSeen then .outcome 3 ((s.freeConflicts i).waitEnd i)
      else
        match s.settleAnswers t ((t.line).getD 0) with
        | none => .stall (s.waitOn i .birsp)
        | some s => .outcome 0 ((s.freeConflicts i).waitEnd i)

/-- WAIT_RSP(RESPONSE) and (REMOTE) (R49, R81). -/
def State.waitResponse (s : State) (i : Nat) (k : WaitKind) : StepRes :=
  let t := s.txn i
  if t.expect = 0 then .fault s
  else if t.got < t.expect then
    (if t.timedOut then .outcome 2 (((s.quarantine i).unmark i).waitEnd i) else .suspend (s.waitOn i k))
  else
    let s := (s.unmark i).waitEnd i
    if t.expect = 2 then
      (if t.good = 2 then .outcome 0 s
       else if t.good = 1 then .outcome 1 (s.countPort (t.copies.headD 0) 37)
       else .outcome 3 s)
    else if t.errSeen then .outcome 3 s
    else if t.poisonSeen then .outcome 1 s
    else .outcome 0 s

/-- WAIT_RSP (R49). -/
def State.waitStep (s : State) (i param : Nat) : StepRes :=
  match param with
  | 0 => s.waitBirsp i
  | 1 => s.waitResponse i .response
  | 2 => s.waitResponse i .remote
  | _ => .fault s

/-! ### The other steps -/

/-- MARK_DIRTY (R49, R211). -/
def State.markStep (s : State) (i : Nat) : StepRes :=
  let t := s.txn i
  if ¬ t.home then .fault s
  else if t.homeState ≠ .migrating then .outcome 1 s
  else
    let k := t.migSlot
    let (w, s) := s.addMark k (lineOf t.addr)
    .outcome 0 (s.putTxn i { t with mark := some w, markSeen := true })

/-- GEN_CHECK (R49). -/
def State.genStep (s : State) (i param : Nat) : StepRes :=
  let t := s.txn i
  if param = 0 then
    let p := ((s.tab.bank t.bank).tenants.get t.tenant).hostPort
    if s.stale t then .outcome 1 (s.countPort p 21) else .outcome 0 s
  else if t.issuer = .none then .fault s
  else
    let q := s.wq.qps.get t.qp
    if q.qpGen ≠ t.qpGen then .outcome 1 (s.countPort q.hostPort 21) else .outcome 0 s

/-- POISON (R49, R112): DATA, or LINE with its wait for every poison write. -/
def State.poisonStep (s : State) (i param : Nat) : StepRes :=
  let t := s.txn i
  if param = 0 then .outcome 0 (s.putTxn i { t with poisonData := true })
  else if t.wait = .poison then
    (if t.got < t.expect then .suspend (s.updTxn i fun t => { t with state := .waitRsp })
    else .outcome 0 ((s.unmark i).waitEnd i))
  else match t.line with
    | none => .fault s
    | some n =>
      if ¬ s.writeRoom t then .stall s
      else match s.clearEntry n t.damagedWay with
        | none => .stall s
        | some s =>
          let m : Msg := { op := 1, poison := true }
          let (mark, s) := s.markIfMigrating t
          let (k, s) := s.writePlaces i m none 5 .poison
          let s := s.updTxn i fun t => { t with expect := k, got := 0, poisonedLine := true, mark := mark }
          if k = 0 then .outcome 0 (s.unmark i)
          else .suspend (s.updTxn i fun t => { t with state := .waitRsp, wait := .poison })

/-- COUNT (R49). -/
def State.countStep (s : State) (i param : Nat) : StepRes :=
  let t := s.txn i
  let g := field param 0 9
  let s := s.countGlobal g
  .outcome 0 (if param.testBit 15 then
    s.log 0x0101 1 [(1, t.cls), (1, t.opcode), (1, t.source), (2, t.recipe), (1, t.step), (2, g)] else s)

/-- The messages that COMPLETE(FROM_RSP) sends (R49): data with its granted state, or the completion received. -/
def State.fromRsp (s : State) (t : Txn) (m : Msg) (r : Option Nat) : List (Msg × Option Nat × Nat) :=
  let local_ := t.homeRank == s.rank
  let grant := if local_ then t.grant else m.grant
  if t.cls = 2 then
    let a := t.answerMsg m.op.toNat
    [({ a with originRank := BitVec.ofNat 4 s.rank }, r, 1)]
  else if m.op = 8 then
    let d := { t.answerMsg opMemData with data := m.data, poison := m.poison || t.poisonData }
    if 64 ≤ t.ingress then [({ d with grant := grant }, r, 5)]
    else (d, r, 5) :: (if grant = 0 ∨ t.source = 1 then []
      else [(t.answerMsg grant.toNat, none, 1)])
  else [(t.answerMsg m.op.toNat, r, 1)]

/-- COMPLETE (R49, R50). -/
def State.completeStep (s : State) (i param : Nat) : StepRes :=
  let t := s.txn i
  match param with
  | 0 =>
    (match t.rsp with
    | none => .fault s
    | some (m, r) =>
      if t.cls = 7 then
        let s := s.report i (if m.poison ∨ t.poisonData then 1 else 0) m.data
        if t.keeps then .suspend (s.updTxn i fun t => { t with state := .waitRsp }) else .ended (s.freeTxn i)
      else
        let ms := s.fromRsp t m r
        if s.answerRoom i t ms.length then .ended (s.answer i ms) else .stall s)
  | 1 | 2 =>
    if t.cls = 7 then .ended (s.freeTxn i)
    else if ¬ s.answerRoom i t 1 then .stall s
    else
      let op := if param = 2 then t.grant.toNat else 0
      .ended (s.answer i [(t.answerMsg op, none, 1)])
  | 3 =>
    (match s.completeError i with
    | none => .stall s
    | some s => .ended s)
  | _ => .fault s

/-- Execute one step (R49). -/
def State.execStep (s : State) (i kind param : Nat) : StepRes :=
  match kind with
  | 0x01 => s.checkStep i
  | 0x02 => s.meterStep i
  | 0x03 => s.translateStep i
  | 0x04 => s.dirLookup i param
  | 0x05 => s.dirUpdate i param
  | 0x06 => s.snoopSet i param
  | 0x07 => s.waitStep i param
  | 0x08 => s.forwardStep i param
  | 0x09 => s.duplicateStep i param
  | 0x0A => s.markStep i
  | 0x0B => s.genStep i param
  | 0x0C => s.conflictStep i
  | 0x0D => s.poisonStep i param
  | 0x0E => s.countStep i param
  | 0x0F => s.completeStep i param
  | 0x10 => .ended (s.freeTxn i (if (s.txn i).cls = 7 then 4 else 0))
  | _ => .fault s

/-! ### The step loop (R52) -/

/-- Is a word of the transaction's recipe waiting for its parity repair (R135)? -/
def State.recipeDamaged (s : State) (t : Txn) : Bool :=
  s.isDamaged (.recipeWord (BitVec.ofNat 11 t.recipe) (BitVec.ofNat 4 t.step))

/-- Run transaction i until it suspends, stalls or ends. -/
def runTxn : Nat → Nat → State → State
  | 0, _, s => s
  | fuel + 1, i, s =>
    let t := s.txn i
    let park (s : State) : State := { s with dp.stalled := s.dp.stalled.filter (· ≠ i) ++ [i] }
    if t.state ≠ .running then s
    else if t.erroring then
      match s.completeError i with
      | none => park s
      | some s => s
    else
      let w := ((s.tab.bank t.bank).steps.get (16 * t.recipe + t.step)).toNat
      let kind := field w 0 6
      if kind = 0 ∨ s.recipeDamaged t then s.recipeFault i
      else match s.execStep i kind (field w 32 16) with
        | .outcome n s =>
          let nx := field w (6 + 5 * n) 5
          if nx = 16 then s.freeTxn i
          else if 16 < nx ∨ nx ≤ t.step then s.recipeFault i
          else runTxn fuel i (s.updTxn i fun t => { t with step := nx })
        | .suspend s => s
        | .stall s => park s
        | .ended s => s
        | .error s => s.endError i
        | .fault s => s.recipeFault i

/-- Run every transaction that is ready; when something has been freed, the stalled ones try again. -/
def settle : Nat → State → State
  | 0, s => s
  | n + 1, s =>
    match s.dp.ready with
    | i :: rest => settle n (runTxn 18 i { s with dp.ready := rest })
    | [] =>
      if s.dp.freed ∧ s.dp.stalled ≠ [] then
        let l := s.dp.stalled
        settle n (l.foldl (fun s i => s.wake i) { s with dp.stalled := [], dp.freed := false })
      else { s with dp.freed := false }

/-! ### The start of a transaction -/

/-- A transaction's fields at classification (R22, R27, R43, R45, R77). -/
def State.classify (s : State) (x cls : Nat) (m : Msg) (record : Option Nat) (seq : U32) : Txn :=
  let source := s.sourceOf x cls m
  let win := if x < 64 ∧ source = 0 then s.bank.windowOf x (m.addr.toNat / 2 ^ 28) else none
  let who : Nat × U16 × Bool := match win with
    | some (_, w) => (w.tenant, s.tab.gens.get w.tenant, false)
    | none => if 64 ≤ x then (m.tenant.toNat, m.gen, false) else (0, 0, true)
  { cls := cls, opcode := m.op.toNat, source := source, ingress := x, seq := seq, tenant := who.1, gen := who.2.1,
    noTenant := who.2.2, reqTag := m.tag, addr := m.addr.toNat, msg := m, record := record,
    cell := (record.getD 0) / 16, unit := (record.getD 0) % 16, colour := if 64 ≤ x then m.colour else .green,
    homeRank := s.rank }

/-- Number record r of a message of class cls at point x, and count it (R43, R416). -/
def State.recordIn (s : State) (x cls r units : Nat) : State :=
  let seq := s.dp.arrival.get x
  State.countRx { s with
    dp.arrival := s.dp.arrival.set x (seq + 1)
    dp.recs := s.dp.recs.upd r fun o => o.map fun (k : Rec) => { k with seq := seq } } x cls units

/-- Is there a table entry for a message of this class from this point (R80)? -/
def State.startRoom (s : State) (x cls : Nat) : Bool := if cls = 2 ∨ cls = 4 then s.reserveRoom else s.sharedRoom x

/-- The ingress point whose turn it is to start a waiting message (R80): the next after the last served. -/
def State.waitingTurn (s : State) : Option Nat :=
  let can (x : Nat) : Bool := (List.range 8).any fun q => !(s.dp.waiting.get (8 * x + q)).isEmpty && s.startRoom x q
  searchFrom can 77 (s.dp.rrLast + 1) 77

/-- May a record of (x, cls) start as it arrives (R80)? None of its class waits at the point, and no point waits for an entry of
the pool that it would take. -/
def State.startsNow (s : State) (x cls : Nat) : Bool :=
  let reserve (q : Nat) : Bool := q == 2 || q == 4
  (s.dp.waiting.get (8 * x + cls)).isEmpty && s.startRoom x cls &&
    !(s.dp.waiting.cells.any fun c => !c.2.isEmpty && reserve (c.1 % 8) == reserve cls && s.startRoom (c.1 / 8) (c.1 % 8))

/-- A stored record waits in its cell for an entry (R80). -/
def State.parkRecord (s : State) (x cls r : Nat) : State :=
  let key := 8 * x + cls
  { s with dp.waiting := s.dp.waiting.set key (s.dp.waiting.get key ++ [r]) }

/-- Start the transaction of an internal master's stored record (R67). -/
def State.startStored (s : State) (r : Nat) (t : Txn) : State :=
  let s := { s with dp.parked := s.dp.parked.set r none }
  ((s.startTxn t).map (·.2)).getD s

/-- A request of an internal master (R67, R80): stored as a record, which starts or waits; none while its cells are full. -/
def State.startInternal (s : State) (t : Txn) : Option State :=
  let x := t.ingress
  let units := unitsOf 7 t.opcode t.msg
  (s.storeRecord x 7 units t.msg).map fun (r, s) =>
    let t := { t with record := some r, cell := r / 16, unit := r % 16, cls := 7, seq := s.dp.arrival.get x }
    let s := s.recordIn x 7 r units
    if s.startsNow x 7 then s.startStored r t
    else ({ s with dp.parked := s.dp.parked.set r (some t) }).parkRecord x 7 r

end Sys2Proof.Machine
end

