-- ==== Sys2Proof/Machine/Arrive.lean ====
section
/-! DEFINITION. Messages that arrive (R43, R46, R67, R80, R107): storing, indexing, matching with waiting transactions,
starting; the deadlines of R82; what a link that goes down does to queues and waits (R51, R84, R113). -/

namespace Sys2Proof.Machine

/-! ### Answers that arrive -/

/-- A response for the message of a FORWARD, DUPLICATE or JOB_TARGET step (R49, R51). -/
def State.deliverMain (s : State) (i x : Nat) (m : Msg) (r : Nat) : State :=
  let t := s.txn i
  let op := m.op.toNat
  let bad := op == 9 || op == opFabricErr
  let keep := op == 8 && t.rsp.isNone
  let s := if keep then s else s.releaseRec (some r)
  -- answers that a trunk delivers go on in order (R106)
  let s := if t.wait = .remote ∧ t.ingress < 64 then
      { s with dp.delivered := s.dp.delivered.filter (·.2 ≠ i) ++ [(x, i)] } else s
  (s.putTxn i { t with
    got := t.got + 1, errSeen := t.errSeen || bad, poisonSeen := t.poisonSeen || m.poison
    good := if bad then t.good else t.good + 1
    copies := if bad then t.copies else t.copies.filter (· ≠ x)
    rsp := if keep then some (m, some r) else if t.rsp.isSome then t.rsp else some (m, none) }).wake i

/-- Use a tag slot's answer: good when the message is no error. -/
def State.deliverUse (s : State) (i x : Nat) (u : TagUse) (m : Msg) (r : Nat) : State :=
  match u with
  | .main => s.deliverMain i x m r
  | .attached k =>
    (((s.releaseRec (some r)).updTxn i fun t =>
      { t with attached := t.attached.modify k fun a => { a with outstanding := a.outstanding - 1 } }).attachedLanded i k).wake i
  | .poison => ((s.releaseRec (some r)).updTxn i fun t => { t with got := t.got + 1 }).wake i

/-- Does transaction i wait for the answer of a tag slot with this use (R78)? -/
def State.waitsFor (s : State) (i : Nat) (u : TagUse) : Bool :=
  let t := s.txn i
  match u with
  | .main => t.state == .waitRsp && (t.wait == .response || t.wait == .remote)
  | .attached _ => t.state != .free && t.state != .draining
  | .poison => t.state == .waitRsp && t.wait == .poison

/-- What a message of class RSP or SNP matches (R46, R78). -/
inductive Match where
  | none
  /-- frees a quarantined slot and then matches nothing (R79) -/
  | lateTag (k : Nat)
  | lateBi (k : Nat)
  | response (i : Nat) (u : TagUse) (slot : Option Nat)
  /-- a BIRsp for conflict record `rec` of transaction i, or for the relay i -/
  | birsp (i : Nat) (rec : Option Nat) (slot : Option Nat)
deriving DecidableEq, Repr

/-- The conflict record of transaction i for sharer slot k that waits for an answer. -/
def State.conflictOf (s : State) (i k : Nat) : Option Nat :=
  (s.dp.conflicts.find fun _ c =>
    c.valid && c.txn == i && c.slot == k && c.sent && !c.answered && c.heard.isNone).head?

/-- Find what a response or BIRsp matches. -/
def State.matchRsp (s : State) (x cls : Nat) (m : Msg) : Match :=
  let op := m.op.toNat
  let tag := m.tag.toNat
  if 0x10 ≤ op ∧ op < 0x20 then .none
  else if 64 ≤ x then
    let i := tag % 2 ^ 17
    let t := s.txn i
    if t.state = .free ∨ field tag 17 4 ≠ t.reuse.toNat ∨ field tag 21 3 ≠ 0 then .none
    else if cls = 2 then
      (match (s.tab.bank t.bank).slotOf m.originRank.toNat m.originPort.toNat with
      | none => .none
      | some k => if t.state = .waitRsp ∧ t.wait = .birsp ∧ t.named.isNone ∧ ¬ t.snoopExpired then
          (match s.conflictOf i k with
          | some r => .birsp i (some r) none
          | none => .none)
        else .none)
    else if s.waitsFor i .main ∧ 64 ≤ t.sentTo then .response i .main none else .none
  else if cls = 2 then
    let k := 4096 * x + tag % 4096
    let b := s.dp.bitags.get k
    if ¬ b.alloc then .none
    else if b.quarantined then .lateBi k
    else if (s.txn b.txn).named.isSome then .birsp b.txn none (some k)
    else match s.conflictOf b.txn b.slot with
      | some r => .birsp b.txn (some r) (some k)
      | none => .lateBi k
  else
    let k := 4096 * x + tag % 4096
    let b := s.dp.tags.get k
    if ¬ b.alloc ∨ field tag 12 4 ≠ b.reuse.toNat then .none
    else if b.quarantined ∨ ¬ s.waitsFor b.txn b.use then .lateTag k
    else .response b.txn b.use (some k)

/-- At a relay, the records of the named port for the snooped line go over the trunk as attached writebacks, carrying
the home's tag, ahead of the BIRsp (R108). -/
def State.relayAttached (s : State) (i : Nat) : State :=
  let t := s.txn i
  match t.named with
  | none => s
  | some p =>
    let a := t.msg.addr.toNat
    match s.snoopAddr (s.tab.bank t.bank) p (field a 47 4) (field a 28 19) (field a 0 28 / 64 * 64) with
    | .unmapped => s
    | .damaged => s
    | .found hpa =>
      let s := s.attach i 64 fun w => w.point == p && w.line == hpa / 64
      let x := s.answerPoint t
      ((s.txn i).attached.zipIdx).foldl (fun s ak =>
        let w := ak.1
        let m : Msg := { w.msg with
          addr := t.msg.addr, tag := t.reqTag, attached := true, originRank := BitVec.ofNat 4 s.rank
          originPort := BitVec.ofNat 6 p, hostTag := w.msg.tag.setWidth 16, tenant := BitVec.ofNat 12 w.tenant
          gen := w.gen }
        let up := s.pointUp x
        let s := s.updTxn i fun t => { t with attached := t.attached.modify ak.2 fun a =>
          { a with started := true, outstanding := if up then 1 else 0 } }
        s.send x 1 { txn := some i, record := w.record, msg := m, units := unitsOf 1 w.msg.op.toNat w.msg,
                     note := some ak.2, cls := 1 }) s

/-- Deliver a BIRsp (R100, R108, R111). -/
def State.deliverBirsp (s : State) (i : Nat) (rec slot : Option Nat) (m : Msg) (r : Nat) : State :=
  let s := (s.releaseRec (some r))
  let s := match slot with
    | some k => s.freeBiTag k
    | none => s
  match rec with
  | some k => s.applyAnswer i k (s.dp.conflicts.get k).slot m.op.toNat
  | none => ((s.relayAttached i).updTxn i fun t => { t with got := t.got + 1, rsp := some (m, none) }).wake i

/-! ### Arrival -/

/-- Index a writeback or MemClnEvct as its record is written (R107). -/
def State.indexWrite (s : State) (x cls r : Nat) (seq : U32) (m : Msg) : State :=
  let evict := cls == 0 && m.op.toNat == 0xA
  let wb := isWrite cls m.op.toNat && m.snpType == .noOp
  if ¬ (evict ∨ wb) ∨ m.attached ∨ s.sourceOf x cls m = 1 ∨ s.sourceOf x cls m = 2 then s
  else
    let a := m.addr.toNat
    let line := if x < 64 then a / 64 else if field a 47 4 = s.rank then lineOf a else 2 ^ 60 + a / 64
    let w : PendingWrite :=
      { point := x, rank := if x < 64 then s.rank else m.originRank.toNat,
        port := if x < 64 then x else m.originPort.toNat, line := line, record := r, seq := seq, evict := evict }
    { s with dp.pendingWrites := s.dp.pendingWrites ++ [w] }

/-- Start the transaction of a stored record. -/
def State.startRecord (s : State) (x cls r : Nat) : State :=
  match s.dp.parked.get r, s.dp.recs.get r with
  | some t, _ => s.startStored r t
  | none, none => s
  | none, some rec =>
    match s.startTxn { s.classify x cls rec.msg (some r) rec.seq with reserve := cls == 2 || cls == 4 } with
    | none => s
    | some (i, s) => { s with dp.pendingWrites := s.dp.pendingWrites.map fun w =>
        if w.record = r ∧ w.txn.isNone then { w with txn := some i } else w }

/-- Start a stored record's transaction, or let the record wait in its cell (R80). -/
def State.startOrWait (s : State) (x cls r : Nat) : State :=
  if s.startsNow x cls then s.startRecord x cls r else s.parkRecord x cls r

/-- An attached writeback over a trunk (R46, R108): attached to the home's waiting transaction, or discarded. -/
def State.acceptAttached (s : State) (x r : Nat) (seq : U32) (m : Msg) : State :=
  let i := m.tag.toNat % 2 ^ 17
  let t := s.txn i
  let slot := (s.tab.bank t.bank).slotOf m.originRank.toNat m.originPort.toNat
  let ok := t.state != .free && field m.tag.toNat 17 4 == t.reuse.toNat && t.state == .waitRsp && t.wait == .birsp
    && t.named.isNone && !t.timedOut
  match slot with
  | some k =>
    if ok ∧ (s.conflictOf i k).isSome then
      let a : Attached :=
        { msg := m, record := some r, seq := seq, slot := k, ingress := x, tenant := m.tenant.toNat, gen := m.gen,
          evict := m.op.toNat == 0xA, relayed := true }
      (s.updTxn i fun t => { t with attached := t.attached ++ [a] }).countAttached i k
    else (s.releaseRec (some r)).countGlobal 4
  | none => (s.releaseRec (some r)).countGlobal 4

/-- What SAFE does with a message (R411): a request gets its error answer, anything else is discarded. -/
def State.safeMessage (s : State) (x cls : Nat) (m : Msg) : State :=
  let s := s.countRx x cls (unitsOf cls m.op.toNat m)
  let t : Txn := { cls := cls, opcode := m.op.toNat, ingress := x, reqTag := m.tag, msg := m, noTenant := true,
                   tenant := m.tenant.toNat, gen := m.gen }
  match t.errorAnswer with
  | none => s
  | some (a, u) => (s.countGlobal 72).send (s.answerPoint t) (if cls = 6 then 4 else 1) { msg := a, units := u, cls := if cls = 6 then 6 else 4 }

/-- Does port p discard CXL.mem and CXL.cache until its IDE stream is active (R244)? -/
def State.ideBlocked (s : State) (p : Nat) : Bool :=
  (s.param p).ideRequired && decide ((s.port p).ide < 2) || (s.port p).ideDiscard

/-- What the number-`seq` arrival at point x, stored as record r, goes on to (R46, R80, R107). -/
def State.takeIn (s : State) (x cls r : Nat) (seq : U32) (m : Msg) : State :=
  if 64 ≤ x ∧ cls = 6 then s.releaseRec (some r)
  else if m.attached ∧ 64 ≤ x then s.acceptAttached x r seq m
  else if cls = 2 ∨ cls = 4 then
    match s.matchRsp x cls m with
    | .none => s.startOrWait x cls r
    | .lateTag k => (s.freeTag k).startOrWait x cls r
    | .lateBi k => (s.freeBiTag k).startOrWait x cls r
    | .response i u slot =>
      let s := match slot with
        | some k => s.freeTag k
        | none => s
      s.deliverUse i x u m r
    | .birsp i rec slot => s.deliverBirsp i rec slot m r
  else (s.indexWrite x cls r seq m).startOrWait x cls r

/-- A message arrives from a link (R43, R46, R67, R72, R80, R107). -/
def State.accept (s : State) (x cls : Nat) (m : Msg) : State :=
  if ¬ s.pointUp x then s
  else if x < 64 ∧ cls < 6 ∧ s.ideBlocked x then s.countPort x 31
  else if s.sys.mode = .safe then s.safeMessage x cls m
  else
    let units := unitsOf cls m.op.toNat m
    let s := if x < 64 ∧ m.poison then s.countPort x 35 else s
    match (if x < 64 ∧ ¬ s.hasCredits x cls m then none else s.storeRecord x cls units m) with
    | none => s.count (pointCtr x 25 25)
    | some (r, s) =>
      let s := if x < 64 then s.spendCredits x cls r m else s
      (s.recordIn x cls r units).takeIn x cls r (s.dp.arrival.get x) m

/-- A waiting message of (x, cls) starts (R80). -/
def State.startWaiting (s : State) (x cls : Nat) : State :=
  let key := 8 * x + cls
  match s.dp.waiting.get key with
  | [] => s
  | r :: rest =>
    if s.startRoom x cls ∧ s.waitingTurn = some x then
      State.startRecord { s with dp.waiting := s.dp.waiting.set key rest, dp.rrLast := x } x cls r
    else s

/-! ### Deadlines -/

/-- Bits of a transaction's STATE (R77). -/
def tstateNo : TState → Nat
  | .free => 0 | .running => 1 | .waitRsp => 2 | .waitOrder => 3 | .waitHold => 4 | .draining => 5

/-- The lifetime of transaction i ends (R81, R82): fabric time has reached its deadline. -/
def State.lifetime (s : State) (i : Nat) : State :=
  let t := s.txn i
  if t.state = .free then s
  else
    let s := s.reachDeadline t.lifeDl
    if t.state = .waitRsp ∧ t.wait ≠ .poison then
      (s.updTxn i fun t => { t with timedOut := true, lifeOver := true }).wake i
    else
      let s := (s.countGlobal 7).log 0x0107 1 [(4, i), (1, tstateNo t.state), (2, t.recipe), (1, t.step)]
      if t.state = .draining then (s.voidOf i).freeTxn i 2
      else
        let s := s.updTxn i fun t => { t with state := .running }
        (s.quarantine i).endError i

/-- The snoop deadline of transaction i passes (R81, R112, R113): fabric time has reached it. -/
def State.snoopLate (s : State) (i : Nat) : State :=
  let t := s.txn i
  if t.state = .waitRsp ∧ t.wait = .birsp ∧ t.snoopTimer then
    ((s.reachDeadline t.snoopDl).updTxn i fun t => { t with timedOut := true }).wake i
  else s

/-! ### A link goes down -/

/-- Discard what is queued at point x (R84). -/
def State.flushPoint (s : State) (x : Nat) : State :=
  (List.range 8).foldl (fun s q =>
    let es := s.queue x q
    let s := { s with dp.queues := s.dp.queues.set (8 * x + q) [], dp.freed := true }
    es.foldl (fun s e =>
      let s := if e.void then s else s.countFlush x
      let s := s.releaseRec e.record
      match e.txn with
      | none => s
      | some i =>
        if e.final then s.freeTxn i
        else match e.note with
          | none => s
          | some k => (s.updTxn i fun t =>
              { t with attached := t.attached.modify k fun a => { a with outstanding := 0 } }).wake i) s) s

/-- The wait of a tag slot counts its port as having answered with an error (R51). -/
def State.endWait (s : State) (b : TagSlot) : State :=
  match b.use with
  | .main => (s.updTxn b.txn fun t => { t with got := t.got + 1, errSeen := true }).wake b.txn
  | .attached j => ((s.updTxn b.txn fun t =>
      { t with attached := t.attached.modify j fun a => { a with outstanding := a.outstanding - 1 } }).attachedLanded
        b.txn j).wake b.txn
  | .poison => (s.updTxn b.txn fun t => { t with got := t.got + 1 }).wake b.txn

/-- Every wait that depends on port p counts it as having answered with an error (R51), and its quarantined tags are
freed (R79). -/
def State.endPortWaits (s : State) (p : Nat) : State :=
  (s.dp.tags.find fun k t => k / 4096 == p && t.alloc).foldl (fun s k =>
    let b := s.dp.tags.get k
    let s := s.freeTag k
    if b.quarantined then s else s.endWait b) s

/-- The waits through vPPB v of host port h on port p end as on a link down (R239); their tags stay quarantined, as the device may
still answer (R79). -/
def State.endVppbWaits (s : State) (p h v : Nat) : State :=
  (s.dp.tags.find fun k t => k / 4096 == p && t.alloc && !t.quarantined && (s.txn t.txn).ingress == h
      && s.routedVppb h (s.txn t.txn).cls (s.txn t.txn).msg == some v).foldl (fun s k =>
    State.endWait { s with dp.tags := s.dp.tags.upd k fun t => { t with quarantined := true } } (s.dp.tags.get k)) s

/-- Snoops outstanding at host port p count as timed out at once, the port's slot is flagged, and relays end (R113). A slot with no
snoop outstanding is flagged with no line to name: SLOT_UNRESPONSIVE carries line 0 (DESIGN CHOICE, log entry 74). -/
def State.endPortSnoops (s : State) (p : Nat) : State :=
  let open_ := s.dp.conflicts.find fun _ c =>
    let e := (s.tab.bank (s.txn c.txn).bank).sharers.get c.slot
    c.valid && !c.answered && e.rank == s.rank && e.port == p
  let s := open_.foldl (fun s r =>
    let c := s.dp.conflicts.get r
    let s := { s with dp.conflicts := s.dp.conflicts.set r { c with sent := false, heard := none } }
    (s.flagSlot (s.txn c.txn) c.slot).wake c.txn) s
  let s := (s.dp.bitags.find fun k t => k / 4096 == p && t.alloc).foldl (fun s k =>
    let b := s.dp.bitags.get k
    let s := s.freeBiTag k
    if b.slot = 64 ∧ ¬ b.quarantined then (s.updTxn b.txn fun t => { t with timedOut := true }).wake b.txn else s) s
  match s.bank.slotOf s.rank p with
  | some k => if (s.port p).role = .host then s.flagSlot { bank := s.tab.cur } k else s
  | none => s

end Sys2Proof.Machine
end

