-- ==== Sys2Proof/Machine/Migration.lean ====
section
/-! DEFINITION. The migration engine (spec/10): job starts (R209), line copies and passes (R212, R213), switchover (R214),
NO_CACHE (R216), verification (R220), zeroing (R209, R218), mirror splits, aborts (R225) and the walk of a lost pool
member (R222). Queue pair 4096 stands for Bolroth's own queue pair, which runs a drain (R408). -/

namespace Sys2Proof.Machine

/-- Lines of a tile. -/
def tileLines : Nat := 4194304

/-- Migration slot k. -/
def State.mig (s : State) (k : Nat) : MigSlot := s.wq.slots.get k
/-- Change migration slot k. -/
def State.updMig (s : State) (k : Nat) (f : MigSlot → MigSlot) : State := { s with wq.slots := s.wq.slots.upd k f }

/-- Home tile map entry of tile n. -/
def State.tile (s : State) (n : Nat) : HtEntry := s.tab.ht.get n

/-- Is the entry a donor lent to tile n (R209)? -/
def HtEntry.lent (e : HtEntry) (rank n : Nat) : Bool := e.state == .moved && e.fwdRank == rank && e.fwdTile == n

/-- Is the live log too full for an entry write of the engine (R403)? -/
def State.liveFull (s : State) : Bool := decide (32768 < s.sys.liveLog.length + 64)

/-- Write a home tile map entry and append its live-log record (R403). -/
def State.writeTile (s : State) (n : Nat) (e : HtEntry) : State :=
  { s with tab.ht := s.tab.ht.set n e, sys.liveLog := s.sys.liveLog ++ [.entry n (BitVec.ofNat 128 e.toNat)]
           dp.freed := true }

/-- Has a live transaction copied entry n while it was ACTIVE (R212)? -/
def State.hasReaders (s : State) (n : Nat) : Bool :=
  s.dp.txns.cells.any fun c =>
    c.2.state != .free && c.2.homeState == .active && c.2.homeRank == s.rank && c.2.homeTile == n

/-- Has a live transaction copied a place (R209)? -/
def State.placeBusy (s : State) (port tile : Nat) : Bool :=
  s.dp.txns.cells.any fun c =>
    c.2.state != .free && c.2.homeState != .free && c.2.homeRank == s.rank && c.2.ingress != xMigration
      && ((c.2.pPort == port && c.2.pTile == tile) || (c.2.mirrored && c.2.mPort == port && c.2.mTile == tile))

/-- Is the link of port p up? -/
def State.linkUp (s : State) (p : Nat) : Bool := (s.port p).dlUp

/-! ### Results (R206) -/

/-- RESULT of a job. -/
def jobResult (reason passes lines hold : Nat) (flagged : List Nat) : BitVec 192 :=
  let first := flagged.foldl Nat.min (flagged.headD 0)
  let last := flagged.foldl Nat.max 0
  BitVec.ofNat 192 (pack [(8, reason), (4, passes), (4, 0), (32, lines), (16, Nat.min hold 65535), (32, flagged.length),
    (22, first), (10, 0), (22, last)])

/-- A job of a drain ends (R408). A MIRROR_SPLIT that succeeds leaves its subject for the copy; a subject whose job fails
for the third time counts in SHORT. -/
def Drain.jobEnded (d : Drain) (tile : Nat) (good : Bool) : Drain :=
  match d.running.find? fun r => r.2.1 == tile with
  | none => d
  | some (stage, (t, dr, dt, tries)) =>
    let running := d.running.filter (fun r => r.2.1 != tile)
    if good ∧ stage = 0 then { d with running := running, plan := (t, dr, dt, tries) :: d.plan }
    else if good then { d with moved := d.moved + 1, running := running }
    else if 3 ≤ tries + 1 then { d with short := d.short + 1, running := running }
    else { d with running := running, plan := (t, dr, dt, tries + 1) :: d.plan }

/-- A job of a queue pair or of a drain ends with a status and result. -/
def State.endOfJob (s : State) (q : Nat) (seq : U32) (gen : Byte) (tile status : Nat) (result : BitVec 192) : State :=
  if q = 4096 then { s with sys.drain := s.sys.drain.jobEnded tile (status == 0) } else s.jobEnd q seq gen status result

/-! ### Descriptors -/

/-- What a job needs of its descriptor (R204). -/
structure JobBody where
  type : Nat
  tile : Nat
  dstRank : Nat
  dstTile : Nat
  zero : Bool := false
  keep : Bool := false
  repair : Bool := false
  poison : Bool := false
  passes : Nat := 8
  converge : Nat := 256
deriving Repr

/-- The body of a descriptor (R204), with its defaults. -/
def JobBody.ofDesc (d : BitVec 512) : JobBody :=
  { type := dfield d 0 8, tile := dfield d 64 19, dstRank := dfield d 83 4, dstTile := dfield d 87 19,
    zero := d.toNat.testBit 106, keep := d.toNat.testBit 107, repair := d.toNat.testBit 108,
    poison := d.toNat.testBit 109, passes := orDefault (dfield d 112 4) 8, converge := orDefault (dfield d 128 11) 256 }

/-- Does the current bank hold the mirrored-tile set (R62, R219)? -/
def Bank.mirroredSet (b : Bank) : Bool := b.setInfo.setId == 2

/-- Why a job with a migration slot cannot run (R209, R219): its reason of R207. -/
def State.jobRefused (s : State) (b : JobBody) : Option Nat :=
  let e := s.tile b.tile
  let donor := s.tile b.dstTile
  if e.state ≠ .active then some 1
  else if b.type = 1 then
    (if b.dstRank = s.rank then
      (if donor.state ≠ .free ∨ (e.mirrored ∧ donor.pPort = e.mPort) then some 2 else none)
    else if e.mirrored then some 1 else none)
  else if b.type = 3 then
    (if e.mirrored then some 1
    else if donor.state ≠ .free ∨ donor.pPort = e.pPort then some 2
    else if ¬ s.bank.mirroredSet then some 3
    else none)
  else none

/-- The lowest free migration slot. -/
def State.freeSlot (s : State) : Option Nat := (List.range 1024).find? fun k => !(s.mig k).valid

/-- Start a job with a migration slot (R208, R212): the subject becomes MIGRATING, and a donor is lent to it (R209). None while it must
wait. -/
def State.startMig (s : State) (q : Nat) (seq : U32) (gen : Byte) (b : JobBody) : Option State :=
  let donor := s.tile b.dstTile
  let lends := b.type = 3 ∨ (b.type = 1 ∧ b.dstRank = s.rank)
  match s.jobRefused b with
  | some r => some (s.endOfJob q seq gen b.tile 4 (jobResult r 0 0 0 []))
  | none =>
    if s.liveFull ∨ (lends ∧ s.placeBusy donor.pPort donor.pTile) then none
    else match s.freeSlot with
      | none => none
      | some k =>
        let e := s.tile b.tile
        let m : MigSlot :=
          { valid := true, jobType := b.type, srcTile := b.tile, dstRank := b.dstRank, dstTile := b.dstTile, qp := q,
            descSeq := seq, qpGen := gen, start := s.sys.ft, zeroReleased := b.zero, repair := b.repair,
            maxPasses := b.passes, converge := b.converge, before := e, pass := 1 }
        let s := ({ s.countGlobal 224 with wq.slots := s.wq.slots.set k m }).writeTile b.tile
          { e with state := .migrating, migSlot := k }
        some (if lends then s.writeTile b.dstTile { donor with state := .moved, fwdRank := s.rank, fwdTile := b.tile } else s)

/-! ### Bitmaps (R211, R212, R224) -/

/-- Lines marked in block b of slot k, as ranges. -/
def State.markedLines (s : State) (k b : Nat) : List (Nat × Nat) :=
  let lo := k * 2 ^ 22 + 2048 * b
  let addr := 0x380000000 + k * 0x80000 + b * 256
  let up := s.copiesUp (addr / 256)
  if ¬ up.1 ∧ ¬ up.2 then [(2048 * b, 2048)]
  else
    let keys (t : Tbl false) : List Nat := (t.keys.filter fun i => decide (lo ≤ i) && decide (i < lo + 2048))
    let l := (if up.1 then keys s.dir.dirty0 else []) ++ (if up.2 then keys s.dir.dirty1 else [])
    (l.mergeSort.eraseDups).map fun i => (i - k * 2 ^ 22, 1)

/-- Clear block b of slot k. -/
def State.clearBlock (s : State) (k b : Nat) : State :=
  let lo := k * 2 ^ 22 + 2048 * b
  let keep (i : Nat) : Bool := !(decide (lo ≤ i) && decide (i < lo + 2048))
  { s with
    wq.summary := s.wq.summary.set (2048 * k + b) false
    dir.dirty0 := ⟨s.dir.dirty0.cells.filter fun c => keep c.1⟩
    dir.dirty1 := ⟨s.dir.dirty1.cells.filter fun c => keep c.1⟩ }

/-- Sweep the bitmap of slot k: the marked lines, with every marked block cleared and WPHASE turned (R212). -/
def State.sweepMap (s : State) (k : Nat) : List (Nat × Nat) × State :=
  let blocks := (s.wq.summary.keys.filter fun i => i / 2048 == k).map (· % 2048)
  let r := blocks.foldl (fun (a : List (Nat × Nat) × State) b => (a.1 ++ a.2.markedLines k b, a.2.clearBlock k b)) ([], s)
  (r.1, r.2.updMig k fun m => { m with wphase := !m.wphase })

/-- Drop a slot's bitmap when it is freed. -/
def State.clearSlotMap (s : State) (k : Nat) : State :=
  ((s.wq.summary.keys.filter fun i => i / 2048 == k).map (· % 2048)).foldl (fun s b => s.clearBlock k b) s

/-- Number of lines in ranges. -/
def rangeCount (l : List (Nat × Nat)) : Nat := (l.map (·.2)).sum

/-- The first line of some ranges, and the rest. -/
def takeLine : List (Nat × Nat) → Option (Nat × List (Nat × Nat))
  | [] => none
  | (a, n) :: rest => if n = 0 then takeLine rest else some (a, if n = 1 then rest else (a + 1, n - 1) :: rest)

/-! ### Line transactions -/

/-- A line read or write of a job (R203): tile and line at this home, its target, who hears of its end. -/
def State.lineTxn (s : State) (q : Nat) (gen : Byte) (op tile line : Nat) (target : Nat × Nat) (data : Line)
    (poison : Bool) (who : Issuer) : Option State :=
  let addr := fabricAddr s.rank tile (64 * line)
  let k := s.qp q
  let m : Msg :=
    { op := BitVec.ofNat 6 op, addr := BitVec.ofNat 64 addr, data := data, poison := poison
      originRank := BitVec.ofNat 4 s.rank }
  s.startInternal
    { cls := 7, opcode := op, source := 0, ingress := xMigration, addr := addr, msg := m, issuer := who, homeRank := s.rank
      tenant := if q = 4096 then 0 else k.tenant, gen := if q = 4096 then 0 else k.tenantGen
      noTenant := decide (q = 4096), qp := q, qpGen := gen, jobPort := target.1, jobDpa := target.2 }

/-- Where a job's copies go (R209, R215): a place of this switch, or a home tile of another rank. -/
def State.target (s : State) (m : MigSlot) (line : Nat) : Nat × Nat :=
  if m.jobType = 1 ∧ m.dstRank ≠ s.rank then (64 + m.dstRank, fabricAddr m.dstRank m.dstTile (64 * line))
  else
    let d := s.tile m.dstTile
    (d.pPort, d.pTile * 2 ^ 28 + 64 * line)

/-- Issue line transactions of slot k while it may (R212: at most 256 copies in flight). -/
def State.pump (s : State) (k : Nat) : Nat → State
  | 0 => s
  | fuel + 1 =>
    let m := s.mig k
    if ¬ m.valid ∨ m.wait ≠ .lines ∨ m.failing.isSome ∨ 256 ≤ m.inflight.length then s
    else match takeLine m.work with
      | none => s
      | some (l, rest) =>
        if m.inflight.contains l then s
        else
        let e := s.tile m.srcTile
        let place := (e.pPort, e.pTile * 2 ^ 28 + 64 * l)
        let op := if m.jobType = 5 then opVerifyRead else opNaRead
        match s.lineTxn m.qp m.qpGen op m.srcTile l place 0 false (.job k 0 l) with
        | none => s
        | some s =>
          (s.updMig k fun m => { m with work := rest, inflight := m.inflight ++ [l], passLines := m.passLines + 1 }).pump k fuel

/-! ### The end of a job -/

/-- Held writes run TRANSLATE again (R214). -/
def State.releaseHolds (s : State) : State :=
  (s.dp.txns.find fun _ t => t.state == .waitHold).foldl (fun s i => s.wake i) s

/-- Free migration slot k and the marks that name it. -/
def State.freeMig (s : State) (k : Nat) : State :=
  let s := s.clearSlotMap k
  let keep (m : Option (Nat × Bool)) : Option (Nat × Bool) := m.filter fun j => j.1 != k
  let marked := s.dp.txns.find fun _ t =>
    (t.mark.map (·.1)) == some k || t.attached.any fun a => (a.mark.map (·.1)) == some k
  let s := marked.foldl (fun s i => s.updTxn i fun t =>
    { t with mark := keep t.mark, attached := t.attached.map fun a => { a with mark := keep a.mark } }) s
  { s with wq.slots := s.wq.slots.set k {}, dp.freed := true }

/-- The subject returns to ACTIVE (R207, R225), unless a walk has changed it. -/
def State.restoreTile (s : State) (n k : Nat) : State :=
  let e := s.tile n
  if e.state = .migrating ∧ e.migSlot = k then s.writeTile n { e with state := .active, migSlot := 0 } else s

/-- Does a job lend a donor of this switch (R209)? -/
def MigSlot.lends (m : MigSlot) (rank : Nat) : Bool := m.jobType == 3 || (m.jobType == 1 && m.dstRank == rank)

/-- The donor of slot k's job, when it is still lent, becomes FREE again. -/
def State.restoreDonor (s : State) (k : Nat) : State :=
  let m := s.mig k
  let d := s.tile m.dstTile
  if m.lends s.rank ∧ d.lent s.rank m.srcTile then
    s.writeTile m.dstTile { d with state := .free, fwdRank := 0, fwdTile := 0 }
  else s

/-- A job in slot k ends with a status and reason; its entries go back (R207, R218). -/
def State.failJob (s : State) (k status reason : Nat) : State :=
  let m := s.mig k
  if ¬ m.valid then s
  else
    let s := ((s.restoreTile m.srcTile k).restoreDonor k).freeMig k
    (s.endOfJob m.qp m.descSeq m.qpGen m.srcTile status (jobResult reason m.passes m.lines.toNat 0 m.flagged)).releaseHolds

/-- Fail a job once the line transactions in flight have ended. -/
def State.failWhenQuiet (s : State) (k status reason : Nat) : State :=
  let m := s.mig k
  if m.inflight.isEmpty then s.failJob k status reason
  else s.updMig k fun m => { m with failing := m.failing.or (some (256 * status + reason)), work := [] }

/-- Order the zeroing of a released place (R209, R218), under a queue pair's tenant or none. -/
def State.orderZero (s : State) (n : Nat) (owner : Nat := 4096) : State :=
  { s with wq.zeros := s.wq.zeros ++ [{ tile := n, release := true, owner := owner }] }

/-- Writes of a tile's hosts that passed TRANSLATE under slot k and have not run MARK_DIRTY: the switchover waits for them (R227). -/
def State.unmarked (s : State) (k : Nat) : Bool :=
  s.dp.txns.cells.any fun c =>
    let t := c.2
    t.state != .free && t.state != .draining && t.state != .waitHold && t.homeState == .migrating && t.migSlot == k
      && t.homeRank == s.rank && !t.markSeen && (t.cls == 1 || (t.cls == 7 && t.opcode == opMgmtWrite))

/-- Has a write been marked in slot k since the last sweep, or is one outstanding? -/
def State.marksLeft (s : State) (k : Nat) : Bool :=
  (s.wq.summary.keys.any fun i => i / 2048 == k) || (s.mig k).out0 != 0 || (s.mig k).out1 != 0

/-- Step 3 of a switchover (R209, R214): the entries change, the hold ends, the slot is freed, the completion queued. -/
def State.flipTiles (s : State) (k : Nat) : State :=
  let m := s.mig k
  let e := s.tile m.srcTile
  let d := s.tile m.dstTile
  let base := { e with state := .active, migSlot := 0 }
  let s :=
    if m.jobType = 3 then
      (s.writeTile m.srcTile { base with mirrored := true, singleCopy := false, mPort := d.pPort, mTile := d.pTile }).writeTile
        m.dstTile { d with state := .moved, fwdRank := s.rank, fwdTile := m.srcTile }
    else if m.dstRank = s.rank then
      -- a place that is to be zeroed stays lent until its readers have ended
      let after : HtEntry := if m.zeroReleased then d else { d with state := .free, fwdRank := 0, fwdTile := 0 }
      (s.writeTile m.srcTile { base with pPort := d.pPort, pTile := d.pTile }).writeTile
        m.dstTile { after with pPort := e.pPort, pTile := e.pTile }
    else s.writeTile m.srcTile { base with state := .moved, fwdRank := m.dstRank, fwdTile := m.dstTile }
  let hold := s.sys.ft - m.holdStart
  let s := ((s.countGlobal 225).updMig k fun m => { m with phase := .finish }).freeMig k
  let s := s.endOfJob m.qp m.descSeq m.qpGen m.srcTile 0 (jobResult 0 (m.passes + 1) m.lines.toNat hold m.flagged)
  let s := if m.jobType = 1 ∧ m.dstRank = s.rank ∧ m.zeroReleased then s.orderZero m.dstTile m.qp else s
  s.releaseHolds

/-- The hold of slot k ends without a flip (R214): a failed attempt is one pass (R213). -/
def State.endHoldPhase (s : State) (k : Nat) : State :=
  let m := s.mig k
  if m.maxPasses ≤ m.passes + 1 then
    State.failJob (s.updMig k fun m => { m with passes := m.passes + 1, phase := .copy }) k 4 4
  else
    State.releaseHolds (s.updMig k fun m =>
      { m with phase := if m.noCache then .noCache else .copy, passes := m.passes + 1, pass := m.passes + 2, final := false
               wait := .ended })

/-- May step 3 take place (R219)? -/
def State.flipAllowed (s : State) (k : Nat) : Bool :=
  (s.mig k).jobType != 3
    || (s.bank.mirroredSet && s.dp.txns.cells.all fun c => c.2.state == .free || (s.tab.bank c.2.bank).mirroredSet)

/-- Does a job need invalidation before it may switch over (R216)? -/
def State.needsNoCache (s : State) (m : MigSlot) : Bool :=
  m.jobType == 1 && m.dstRank != s.rank && m.before.attr == .sharedCoherent && !m.noCache

/-- Lines of a tile that have a directory entry (R216). -/
def State.trackedLines (s : State) (tile : Nat) : List Nat :=
  let words := (s.dir.copy0.cells ++ s.dir.copy1.cells).map (·.1)
  (words.filterMap fun i =>
    match s.readWay (i / 16) (i % 16) with
    | .good w _ =>
      let e := DirE.decode w
      let n := lineAt e.tag (i / 16)
      if e.state != 0 && n / 2 ^ 22 == tile then some n else none
    | .bad _ _ => none).mergeSort.eraseDups

/-- Start the VICTIM_EVICT transactions of NO_CACHE that can start (R216). -/
def State.pumpEvicts (s : State) (k : Nat) : State :=
  let m := s.mig k
  if m.wait ≠ .evicts then s
  else m.again.foldl (fun s n =>
    if (s.dp.lines.get n).isSome then s
    else
      let drop (s : State) : State := s.updMig k fun m => { m with again := m.again.filter (· ≠ n) }
      match (s.trackedLines m.srcTile).contains n, s.lookupLine n with
      | true, .entry _ e =>
        (match s.startEvict n e.encode (.noCache k) with
        | none => s
        | some s => drop (s.updMig k fun m => { m with evicts := m.evicts + 1 }))
      | _, _ => drop s) s

/-- One more sweep of slot k, whose lines are then copied (R212, R214). -/
def State.sweepAgain (s : State) (k : Nat) : State :=
  let old := (s.mig k).wphase
  let (l, s) := s.sweepMap k
  s.updMig k fun m => { m with work := l, wait := .phase old }

/-- The copy inside a hold has ended: what still marks is drained and copied before the flip (R214, R227; DEDUCED, log entry 86). -/
def State.finalEnd (s : State) (k : Nat) : State :=
  if s.unmarked k then s.updMig k fun m => { m with wait := .writers }
  else if s.marksLeft k then s.sweepAgain k
  else if ¬ s.flipAllowed k then s.endHoldPhase k
  else if s.liveFull then s.updMig k fun m => { m with wait := .lines }
  else s.flipTiles k

/-- A pass of slot k has ended: what follows (R212, R213, R220). -/
def State.passEnd (s : State) (k : Nat) : State :=
  let m := s.mig k
  let s := s.updMig k fun m => { m with dirtyLast := m.passLines, wait := .ended }
  if m.final then s.finalEnd k
  else
    let passes := m.passes + 1
    let last := decide (m.maxPasses ≤ passes)
    let s := s.updMig k fun m => { m with passes := passes, pass := passes + 1 }
    if m.jobType = 5 then
      let marked := (s.wq.summary.keys.any fun i => i / 2048 == k)
      (if (m.again.isEmpty ∧ ¬ marked) ∨ last then
        let s := (s.restoreTile m.srcTile k).freeMig k
        s.endOfJob m.qp m.descSeq m.qpGen m.srcTile 0 (jobResult 0 passes m.lines.toNat 0 m.flagged)
      else s)
    else if m.pass = 1 ∨ m.converge < m.passLines then (if last then s.failJob k 4 4 else s)
    else if s.needsNoCache m then
      State.pumpEvicts (s.updMig k fun m =>
        { m with phase := .noCache, noCache := true, wait := .evicts, again := s.trackedLines m.srcTile }) k
    else s.updMig k fun m => { m with wait := .canSwitch }

/-- Line l of slot k is done. -/
def State.lineDone (s : State) (k l : Nat) : State :=
  (s.countGlobal 227).updMig k fun m => { m with inflight := m.inflight.filter (· ≠ l), lines := m.lines + 1 }

/-- Drop line l from flight, to be taken up again in this pass. -/
def State.lineAgain (s : State) (k l : Nat) : State :=
  s.updMig k fun m => { m with inflight := m.inflight.filter (· ≠ l), work := m.work ++ [(l, 1)], passLines := m.passLines - 1 }

/-- Flag line l, or not. -/
def flagLine (l : Nat) (f : Bool) (fl : List Nat) : List Nat := if f then (if fl.contains l then fl else fl ++ [l]) else fl

/-- STATUS and REASON of a failed line transaction: 3 ACCESS_FAULT, else JOB_FAILED with the reason. -/
def failOf (result reason : Nat) : Nat × Nat := if result = 3 then (3, 0) else (4, reason)

/-- Is line l's bit clear and the old phase drained (R220)? A line of a lost block counts as marked while its summary bit is set
(R224). -/
def State.lineQuiet (s : State) (k l : Nat) : Bool :=
  let m := s.mig k
  let block := 0x3800000 + 2048 * k + l / 2048
  let marked := if s.setLost block then s.wq.summary.get (2048 * k + l / 2048)
    else s.dir.dirty0.get (k * 2 ^ 22 + l) || s.dir.dirty1.get (k * 2 ^ 22 + l)
  !marked && (if m.wphase then m.out0 else m.out1) == 0

/-- The NA_READ under which line l of slot k was rewritten ends, and with it its line hold (R220). -/
def State.releaseKept (s : State) (k l : Nat) : State :=
  (s.dp.txns.find fun _ t => t.state != .free && t.issuer == .job k 3 l).foldl (fun s i => s.freeTxn i) s

/-- A line transaction of slot k has ended: stage 0 the read, 1 the copy write, 2 the read of the mirror, 3 the read of a
repair, 4 its write (R212, R220). Of two places of which one cannot be read, the line counts as mismatched (DESIGN CHOICE, log entry
86). -/
def State.migDone (s : State) (k stage l result : Nat) (data : Line) : State :=
  let m := s.mig k
  let e := s.tile m.srcTile
  let drop (s : State) : State :=
    (if stage = 3 then s.releaseKept k l else s).updMig k fun m => { m with inflight := m.inflight.filter (· ≠ l) }
  let flag (s : State) (f : Bool) : State :=
    s.updMig k fun m => { m with flagged := flagLine l f m.flagged, again := flagLine l f m.again }
  let s := if stage = 4 then s.releaseKept k l else s
  if ¬ m.valid ∨ ¬ m.inflight.contains l then s
  else if result = 4 ∨ m.wait = .drain ∨ m.failing.isSome then drop s
  else if 2 ≤ result then
    let f := failOf result (if stage = 1 ∨ stage = 4 then 6 else 7)
    if m.jobType = 5 ∧ result = 2 ∧ stage ≠ 4 ∧ e.mirrored ∧ ¬ e.singleCopy then
      flag ((if stage = 3 then s.releaseKept k l else s).lineDone k l) true
    else (drop s).failWhenQuiet k f.1 f.2
  else if m.jobType ≠ 5 then
    (if stage = 0 then
      match s.lineTxn m.qp m.qpGen opCopyWrite m.srcTile l (s.target m l) data (result == 1) (.job k 1 l) with
      | none => s.lineAgain k l
      | some s => s.updMig k fun m => { m with flagged := flagLine l (result == 1) m.flagged }
    else s.lineDone k l)
  else if stage = 0 then
    (if e.mirrored ∧ ¬ e.singleCopy then
      match s.lineTxn m.qp m.qpGen opVerifyRead m.srcTile l (e.mPort, e.mTile * 2 ^ 28 + 64 * l) 0 false (.job k 2 l) with
      | none => s.lineAgain k l
      | some s => s.updMig k fun m => { m with seen := m.seen ++ [(l, data, result == 1)] }
    else flag (s.lineDone k l) (result == 1))
  else if stage = 2 then
    let a := m.seen.find? (·.1 == l)
    let same := match a with
      | some (_, d, p) => d == data && p == (result == 1)
      | none => true
    let s := s.updMig k fun m => { m with seen := m.seen.filter (·.1 ≠ l) }
    if same then s.lineDone k l
    else if ¬ s.lineQuiet k l then (s.lineDone k l).updMig k fun m => { m with again := flagLine l true m.again }
    else
      let s := flag s true
      if ¬ m.repair then s.lineDone k l
      else match s.lineTxn m.qp m.qpGen opNaRead m.srcTile l (0, 0) 0 false (.job k 3 l) with
        | none => s.lineDone k l
        | some s => s
  else if stage = 3 then
    match s.lineTxn m.qp m.qpGen opCopyWrite m.srcTile l (e.mPort, e.mTile * 2 ^ 28 + 64 * l) data (result == 1)
        (.job k 4 l) with
    | none => (s.releaseKept k l).lineDone k l
    | some s => s
  else s.lineDone k l

/-- Move slot k on when what it waits for has come about (R212, R214, R225). -/
def State.stepMig (s : State) (k : Nat) : State :=
  let m := s.mig k
  if ¬ m.valid then s
  else match m.failing with
    | some c => if m.inflight.isEmpty then s.failJob k (c / 256) (c % 256) else s
    | none =>
      match m.wait with
      | .readers =>
        if s.hasReaders m.srcTile then s
        else State.pump (s.updMig k fun m => { m with wait := .lines, work := [(0, tileLines)], passLines := 0 }) k 256
      | .writers => if s.unmarked k then s else s.sweepAgain k
      | .phase w =>
        if (if w then m.out1 else m.out0) ≠ 0 then s
        else
          let s := s.updMig k fun m => { m with wait := .lines }
          if m.work.isEmpty then s.passEnd k else s.pump k 256
      | .lines => if m.work.isEmpty ∧ m.inflight.isEmpty then s.passEnd k else s.pump k 256
      | .evicts => s.pumpEvicts k
      | .drain =>
        if m.out0 = 0 ∧ m.out1 = 0 ∧ m.inflight.isEmpty then (s.restoreDonor k).freeMig k else s
      | .ended => s
      | .canSwitch => s

/-! ### The events of a slot -/

/-- SWEEP_AND_COPY (R212): the next pass begins. -/
def State.sweepAndCopy (s : State) (k : Nat) : State :=
  let m := s.mig k
  if ¬ m.valid ∨ m.wait ≠ .ended ∨ m.maxPasses ≤ m.passes then s
  else
    let old := m.wphase
    let (l, s) := s.sweepMap k
    let jt := m.jobType
    let extra := if jt = 5 then m.again.map (·, 1) else []
    let l := l ++ extra.filter fun r => !(l.any fun q => decide (q.1 ≤ r.1) && decide (r.1 < q.1 + q.2))
    (s.updMig k fun m =>
      { m with work := m.work ++ l, passLines := 0, again := if jt = 5 then [] else m.again, wait := .phase old }).stepMig k

/-- SWITCHOVER (R214): the hold starts with one more sweep. -/
def State.switchover (s : State) (k : Nat) : State :=
  let m := s.mig k
  if ¬ m.valid ∨ m.wait ≠ .canSwitch then s
  else
    ((s.updMig k fun m => { m with phase := .hold, holdStart := s.sys.ft, final := true, passLines := 0 }).sweepAgain k).stepMig k

/-- Lines that a sweep has taken up and that are not copied yet are marked again, without a count in OUT. -/
def State.remark (s : State) (k : Nat) : State :=
  let lines := (s.mig k).work.flatMap fun r => List.range' r.1 r.2
  (lines.foldl (fun s l => s.markDirty k l) s).updMig k fun m => { m with work := [] }

/-- HOLD_EXPIRY (R214): 20 µs after the hold started. What the hold's sweep found and did not copy is left to the next pass. -/
def State.holdExpiry (s : State) (k : Nat) : State :=
  let m := s.mig k
  if ¬ m.valid ∨ m.phase ≠ .hold then s
  else
    (((s.advanceTo (m.holdStart + 20000)).countGlobal 226).remark k).endHoldPhase k

/-- NO_CACHE (R216): every VICTIM_EVICT has ended, and the passes resume. -/
def State.noCacheEnd (s : State) (k : Nat) : State :=
  let m := s.mig k
  if m.valid ∧ m.wait = .evicts ∧ m.again.isEmpty ∧ m.evicts = 0 then
    (if m.maxPasses ≤ m.passes then s.failJob k 4 4 else s.updMig k fun m => { m with wait := .ended })
  else s

/-! ### Zeroing (R209, R218) -/

/-- Change the zeroing of a tile. -/
def State.updZero (s : State) (n : Nat) (f : ZeroJob → ZeroJob) : State :=
  { s with wq.zeros := s.wq.zeros.map fun z => if z.tile = n then f z else z }

/-- Start a ZERO_TILE (R209): none while transactions hold its place. -/
def State.startZero (s : State) (q : Nat) (seq : U32) (gen : Byte) (b : JobBody) : Option State :=
  let e := s.tile b.tile
  if e.state ≠ .free ∧ ¬ (e.state = .lost ∧ s.linkUp e.pPort) then
    some (s.endOfJob q seq gen b.tile 4 (jobResult 1 0 0 0 []))
  else if s.liveFull ∨ s.placeBusy e.pPort e.pTile ∨ (e.mirrored ∧ ¬ e.singleCopy ∧ s.placeBusy e.mPort e.mTile) then none
  else
    let z : ZeroJob := { tile := b.tile, job := some (q, seq, gen), poison := b.poison, wasLost := decide (e.state = .lost),
                         mirrored := e.mirrored && !e.singleCopy }
    some ({ s with wq.zeros := s.wq.zeros ++ [z] }.writeTile b.tile { e with state := .zeroing })

/-- The queue pair under which a zeroing's writes run (R203). -/
def ZeroJob.pair (z : ZeroJob) : Nat := match z.job with
  | some (q, _, _) => q
  | none => z.owner

/-- A zeroing write of line l to the primary (stage 0) or mirror place (stage 1). It runs under the queue pair's generation of now: a
ZERO_TILE that has started runs to its end (R225). -/
def State.zeroWrite (s : State) (z : ZeroJob) (l stage : Nat) : Option State :=
  let e := s.tile z.tile
  let place := if stage = 0 then (e.pPort, e.pTile * 2 ^ 28 + 64 * l) else (e.mPort, e.mTile * 2 ^ 28 + 64 * l)
  s.lineTxn z.pair (s.qp z.pair).qpGen opZeroWrite z.tile l place 0 z.poison (.tileJob z.tile stage l)

/-- Issue zeroing writes of a tile (256 lines in flight). A released place becomes ZEROING once no transaction holds it. -/
def State.pumpZero (s : State) (n : Nat) : Nat → State
  | 0 => s
  | fuel + 1 =>
    match s.wq.zeros.find? (·.tile == n) with
    | none => s
    | some z =>
      let e := s.tile n
      if z.release ∧ (e.state = .free ∨ e.state = .moved) then
        (if s.placeBusy e.pPort e.pTile then s
        else (s.writeTile n { e with state := .zeroing, fwdRank := 0, fwdTile := 0 }).pumpZero n fuel)
      else if z.complete ∨ z.failed.isSome ∨ e.state ≠ .zeroing ∨ 256 ≤ z.inflight.length then s
      else match z.redo with
        | (l, stage) :: rest =>
          (match s.zeroWrite z l stage with
          | none => s
          | some t => (t.updZero n fun z => { z with redo := rest, inflight := z.inflight ++ [l] }).pumpZero n fuel)
        | [] =>
          if tileLines ≤ z.next then s
          else
            let l := z.next
            match s.zeroWrite z l 0 with
            | none => s
            | some t =>
              (t.updZero n fun z =>
                { z with next := l + 1, inflight := z.inflight ++ [l]
                         redo := if z.mirrored then [(l, 1)] else [] }).pumpZero n fuel

/-- A zeroing write has ended. One that GEN_CHECK discarded is made again (R225). A line counts once both its places are written. -/
def State.zeroDone (s : State) (n stage l result : Nat) : State :=
  let s := s.updZero n fun z =>
    let left := z.inflight.erase l
    let whole := !left.contains l && !z.redo.any (·.1 == l)
    if result = 4 then { z with inflight := left, redo := z.redo ++ [(l, stage)] }
    else { z with inflight := left, lines := if whole then z.lines + 1 else z.lines
                  failed := if result = 3 then z.failed.or (some 0x300)
                    else if result = 2 then z.failed.or (some 0x406) else z.failed }
  s.updZero n fun z => { z with complete := decide (tileLines ≤ z.next) && z.inflight.isEmpty && z.redo.isEmpty }

/-- Remove a zeroing. -/
def State.dropZero (s : State) (n : Nat) : State := { s with wq.zeros := s.wq.zeros.filter (·.tile ≠ n) }

/-- A ZERO_TILE ends, well or not (R209, R223). -/
def State.stepZero (s : State) (n : Nat) : State :=
  match s.wq.zeros.find? (·.tile == n) with
  | none => s
  | some z =>
    let e := s.tile n
    match z.job, z.failed with
    | some (q, seq, g), some c =>
      if ¬ z.inflight.isEmpty then s
      else
        let s := if e.state = .zeroing then s.writeTile n { e with state := if z.wasLost then .lost else .free } else s
        (s.dropZero n).endOfJob q seq g n (c / 256) (jobResult (c % 256) 0 z.lines.toNat 0 [])
    | some (q, seq, g), none =>
      if ¬ z.complete then s.pumpZero n 256
      else
        let after : HtState := if z.wasLost ∧ z.poison then .active else .free
        ((s.writeTile n { e with state := after }).dropZero n).endOfJob q seq g n 0 (jobResult 0 0 z.lines.toNat 0 [])
    | none, _ => s.pumpZero n 256

/-- ZEROING_DONE (R209): the zeroing of a released place ends. -/
def State.zeroingDone (s : State) (n : Nat) : State :=
  match s.wq.zeros.find? fun z => z.tile == n && z.release with
  | none => s
  | some z =>
    if ¬ z.complete then s
    else
      let e := s.tile n
      (s.dropZero n).writeTile n { e with state := if s.linkUp e.pPort then .free else .lost }

/-! ### Mirror splits (R209) -/

/-- A MIRROR_SPLIT runs whole. -/
def State.mirrorSplit (s : State) (q : Nat) (seq : U32) (gen : Byte) (b : JobBody) : Option State :=
  let e := s.tile b.tile
  let d := s.tile b.dstTile
  let fail (r : Nat) : Option State := some (s.endOfJob q seq gen b.tile 4 (jobResult r 0 0 0 []))
  if e.state ≠ .active ∨ ¬ e.mirrored ∨ (e.singleCopy ∧ b.keep) then fail 1
  else if (d.state ≠ .moved ∧ d.state ≠ .lost) ∨ d.fwdRank ≠ s.rank ∨ d.fwdTile ≠ b.tile
      ∨ s.wq.zeros.any (·.tile == b.dstTile) then fail 2
  else if s.liveFull then none
  else
    let dropped := if b.keep then (e.pPort, e.pTile) else (e.mPort, e.mTile)
    let kept := if b.keep then (e.mPort, e.mTile) else (e.pPort, e.pTile)
    let up := s.linkUp dropped.1
    let s := s.writeTile b.tile
      { e with mirrored := false, singleCopy := false, pPort := kept.1, pTile := kept.2, mPort := 0, mTile := 0 }
    -- a place that is to be zeroed stays lent until its readers have ended
    let after : HtEntry := if up ∧ b.zero then { d with state := .moved }
      else { d with state := if up then .free else .lost, fwdRank := 0, fwdTile := 0 }
    let s := s.writeTile b.dstTile { after with pPort := dropped.1, pTile := dropped.2 }
    let s := s.endOfJob q seq gen b.tile 0 (jobResult 0 0 0 0 [])
    some (if up ∧ b.zero then s.orderZero b.dstTile q else s)

/-! ### Starting the next descriptor (R190) -/

/-- Start the next descriptor of queue pair q, when it is of the given type and the engine accepts it. -/
def State.startJob (s : State) (q type : Nat) : State :=
  match s.nextJob q with
  | none => s
  | some h =>
    if dfield h.desc 0 8 ≠ type then s
    else
      let gen := (s.qp q).qpGen
      let b := JobBody.ofDesc h.desc
      let t := s.startHeld q h.seq
      let r :=
        if type = 0 then some (t.jobEnd q h.seq gen 0 0)
        else if type = 2 then t.startZero q h.seq gen b
        else if type = 4 then t.mirrorSplit q h.seq gen b
        else t.startMig q h.seq gen b
      r.getD s

/-! ### Aborts (R225) -/

/-- Abort the jobs of queue pair q that hold a migration slot. -/
def State.abortJobs (s : State) (q : Nat) : State :=
  (s.wq.slots.find fun _ m => m.valid && m.qp == q).foldl (fun s k =>
    let m := s.mig k
    let s := s.restoreTile m.srcTile k
    (s.updMig k fun m => { m with phase := .aborting, wait := .drain, work := [], failing := none, final := false }).releaseHolds) s

/-- Stop a queue pair (R196 to R198). -/
def State.stopQp (s : State) (q : Nat) (kind : StopKind) (tail : HostRead U32) (ticket : Nat) : State :=
  (s.beginStop q kind tail ticket).abortJobs q

/-- A queue pair that is neither DISABLED nor UNASSIGNED stops as R198 states; one that is stopping goes on so (R202). -/
def State.stopLinkDown (s : State) (q : Nat) : State :=
  match (s.qp q).state with
  | .unassigned => s
  | .disabled => s
  | .stopping => s.stopByLink q
  | .enabled => s.stopQp q .linkDown .failed 0
  | .haltedMalformed => s.stopQp q .linkDown .failed 0
  | .haltedError => s.stopQp q .linkDown .failed 0

/-! ### Loss of a pool member (R222) -/

/-- Log and count an entry that the walk changed. -/
def State.tileLost (s : State) (n p : Nat) (single : Bool) : State :=
  if single then (s.countPort p 40).log 0x030D 1 [(4, n), (1, p)] else (s.countPort p 39).log 0x030C 2 [(4, n), (1, p)]

/-- End the job on tile n, when one runs, with a status and reason. -/
def State.endTileJob (s : State) (n status reason : Nat) (verifyOk : Bool) : State :=
  match (s.wq.slots.find fun _ m => m.valid && m.srcTile == n && m.wait != .drain).head? with
  | none => s
  | some k => if verifyOk ∧ (s.mig k).jobType = 5 then s.failJob k 0 0 else s.failJob k status reason

/-- The walk's action on one entry. -/
def State.walkEntry (s : State) (p n : Nat) : State :=
  let e := s.tile n
  let set (s : State) (e : HtEntry) : State := { s with tab.ht := s.tab.ht.set n e, dp.freed := true }
  let live := e.state = .active ∨ e.state = .migrating
  if live ∧ e.pPort = p ∧ (¬ e.mirrored ∨ e.singleCopy) then
    ((set s { e with state := .lost, migSlot := 0 }).tileLost n p false).endTileJob n 4 5 false
  else if live ∧ e.pPort = p then
    let s := (set s { e with pPort := e.mPort, pTile := e.mTile, mPort := e.pPort, mTile := e.pTile, singleCopy := true }).tileLost
      n p true
    s.endTileJob n 4 5 true
  else if live ∧ e.mirrored ∧ ¬ e.singleCopy ∧ e.mPort = p then (set s { e with singleCopy := true }).tileLost n p true
  else if e.state = .moved ∧ e.fwdRank = s.rank ∧ e.pPort = p then (set s { e with state := .lost }).tileLost n p false
  else if (e.state = .free ∨ e.state = .zeroing) ∧ e.pPort = p then
    let s := (set s { e with state := .lost }).tileLost n p false
    s.updZero n fun z => { z with failed := z.failed.or (some 0x406) }
  else s

/-- A job whose donor place lies on the port ends (R222). -/
def State.walkDonors (s : State) (p : Nat) : State :=
  (s.wq.slots.find fun _ m => m.valid && m.wait != .drain
      && (m.jobType == 3 || (m.jobType == 1 && m.dstRank == s.rank)) && (s.tile m.dstTile).pPort == p).foldl
    (fun s k => s.failJob k 4 6) s

/-- The walk of pool member p (R222). -/
def State.tileWalk (s : State) (p : Nat) : State :=
  let s := s.walkDonors p
  let s : State := s.tab.ht.keys.foldl (fun s n => s.walkEntry p n) s
  let s : State := { s with wq.zeros := s.wq.zeros.filter fun z => !(z.release && (s.tile z.tile).state == .lost) }
  { s with sys.liveLog := s.sys.liveLog ++ [.walk p] }

/-! ### The engine -/

/-- The end of an internal transaction of the migration engine. -/
def State.engineDone (s : State) (d : DoneMsg) : State :=
  match d.issuer with
  | .job k stage l => s.migDone k stage l d.result d.data
  | .tileJob n stage l => s.zeroDone n stage l d.result
  | .noCache k => s.updMig k fun m => { m with evicts := m.evicts - 1 }
  | _ => s

/-- Every slot and zeroing goes on. -/
def State.stepEngine (s : State) : State :=
  if s.sys.mode = .safe then s
  else
    let s := (s.wq.slots.find fun _ m => m.valid).foldl (fun s k => (s.stepMig k).stepMig k) s
    (s.wq.zeros.map (·.tile)).foldl (fun s n => s.stepZero n) s

end Sys2Proof.Machine
end

