-- ==== Sys2Proof/Machine/QueueCmds.lean ====
section
/-! DEFINITION. The queue and tile commands (R183, R184, R196, R197, R217, R370): QUEUE_ENABLE, QUEUE_RESET,
QUEUE_SHUTDOWN, QUEUE_STATUS, TENANT_QUIESCE, TENANT_GET, TILE_ENTRY_GET, MIG_SLOT_GET, TILE_MOVED_RELEASE. -/

namespace Sys2Proof.Machine

/-- Scope of a command that names a queue pair (R358). -/
def State.qpScope (s : State) (q : Nat) : Scope :=
  .tenant (if (s.qp q).state = .unassigned then 4096 else (s.qp q).tenant)

/-- STATE_CONFLICT naming a queue pair. -/
def State.qpConflict (s : State) (q : Nat) : CmdRes := conflict s 2 q (qpNo (s.qp q).state)

/-- Queue pairs of a tenant, rising. -/
def State.qpsOf (s : State) (n : Nat) : List Nat := s.wq.qps.find fun _ k => k.state != .unassigned && k.tenant == n

/-- Is an input of QUEUE_ENABLE well-formed (R181, R183)? -/
def setupOk (u : QueueSetup) : Bool :=
  decide (4 ≤ u.sqLog2.toNat) && decide (u.sqLog2.toNat ≤ 16) && decide (4 ≤ u.cqLog2.toNat)
    && decide (u.cqLog2.toNat ≤ 16) && decide (1 ≤ u.maxJobs.toNat) && decide (u.maxJobs.toNat ≤ 256)
    && u.sqBase.toNat % 4096 == 0 && u.cqBase.toNat % 4096 == 0 && u.tailAddr.toNat % 4 == 0 && u.headAddr.toNat % 4 == 0

/-- Job types that a tenant may enable (R184). -/
def jobMaskOf (privileged : Bool) : Nat := if privileged then 0x7F else 0x25

/-- The commit or rollback under way that takes tenant n out of use: its ticket, or 0. Its flip returns or stops the tenant's queue
pairs, so it works on them (R182, R365; DEDUCED, log entry 85). -/
def State.leavingBy (s : State) (n : Nat) : Option Nat :=
  let c := s.mgmt.cfg
  let slot := if c.phase = .rollingBack then c.previous else c.toFlip
  let stays : Bool := match slot with
    | none => true
    | some k => ((s.planAt (some k)).tenant n).any fun t => t.entry.valid
  if stays then none
  else some (match s.mgmt.running.find? fun (r : Running) => r.started && r.object == some (7, 0) with
    | some r => r.ticket
    | none => 0)

/-- QUEUE_ENABLE. -/
def State.cmdQueueEnable (s : State) (i : Instr) (h : CmdHdr) (u : QueueSetup) : State :=
  let q := u.qp.toNat
  s.command i h { opcode := 0xC201, len := 41, scope := s.qpScope q, bad := !setupOk u, changes := true, object := some (2, q) }
    none fun s ticket =>
      let k := s.qp q
      let t := s.bank.tenants.get k.tenant
      let waits := s.oldGenLive q
      if k.state ≠ .disabled ∨ k.enabling.isSome ∨ ¬ t.valid ∨ (waits ∧ ¬ k.genDeferred) then s.qpConflict q
      else if (s.leavingBy k.tenant).isSome then
        .done s rcConflict (s.conflictBytes 2 q (qpNo k.state) ((s.leavingBy k.tenant).getD 0))
      else if u.jobMask.toNat &&& jobMaskOf t.privileged ≠ u.jobMask.toNat then s.qpConflict q
      else if waits then .wait (s.updQp q fun k => { k with enabling := some (u, ticket) })
      else
        let s := s.enableNow q u
        .done s rcSuccess [(s.qp q).qpGen]

/-- QUEUE_RESET. -/
def State.cmdQueueReset (s : State) (i : Instr) (h : CmdHdr) (qp : U16) (tail : HostRead U32) : State :=
  let q := qp.toNat
  s.command i h
    { opcode := 0xC202, len := 2, scope := s.qpScope q, bad := decide (4095 < q), changes := true, object := some (2, q) }
    none fun s ticket =>
      let k := s.qp q
      if (k.state = .enabled ∨ k.state = .haltedMalformed ∨ k.state = .haltedError) ∧ ¬ s.oldGenLive q then
        .wait (s.stopQp q .reset tail ticket)
      else s.qpConflict q

/-- QUEUE_SHUTDOWN. -/
def State.cmdQueueShutdown (s : State) (i : Instr) (h : CmdHdr) (qp : U16) (tail : HostRead U32) : State :=
  let q := qp.toNat
  s.command i h
    { opcode := 0xC203, len := 2, scope := s.qpScope q, bad := decide (4095 < q), changes := true, object := some (2, q) }
    none fun s ticket =>
      let k := s.qp q
      if k.state = .disabled then .done s rcSuccess [k.qpGen]
      else if (k.state = .enabled ∨ k.state = .haltedMalformed ∨ k.state = .haltedError) ∧ ¬ s.oldGenLive q then
        .wait (s.stopQp q .shutdown tail ticket)
      else s.qpConflict q

/-- TENANT_QUIESCE: every queue pair of the tenant is shut down. -/
def State.cmdTenantQuiesce (s : State) (i : Instr) (h : CmdHdr) (tenant : U16) (tails : List (U16 × U32)) : State :=
  let n := tenant.toNat
  s.command i h
    { opcode := 0xC205, len := 2, scope := .tenant n, bad := decide (4095 < n), changes := true, object := some (1, n) }
    none fun s ticket =>
      let live := (s.qpsOf n).filter fun q => (s.qp q).state != .disabled
      match live.find? fun q => (s.qp q).state == .stopping || s.oldGenLive q || (s.holder (some (2, q))).isSome with
      | some q => s.qpConflict q
      | none =>
        if live.isEmpty then ok s
        else .wait (live.foldl (fun s q =>
          let tail : HostRead U32 := match tails.find? fun t => t.1.toNat == q with
            | some t => .ok t.2
            | none => .failed
          s.stopQp q .quiesce tail ticket) s)

/-- QUEUE_STATUS. -/
def State.cmdQueueStatus (s : State) (i : Instr) (h : CmdHdr) (qp : U16) : State :=
  let q := qp.toNat
  s.command i h { opcode := 0xC204, len := 2, scope := s.qpScope q, bad := decide (4095 < q) } none fun s _ =>
    .done s rcSuccess (leBytes (s.qp q).toNat 64)

/-- TENANT_GET. -/
def State.cmdTenantGet (s : State) (i : Instr) (h : CmdHdr) (tenant first : U16) : State :=
  let n := tenant.toNat
  s.command i h { opcode := 0xC101, len := 4, scope := .tenant n, bad := decide (4095 < n) } none fun s _ =>
    let qs := s.qpsOf n
    let l := (qs.drop first.toNat).take 1018
    .done s rcSuccess (leBytes ((s.bank.tenants.get n).toNat (s.tab.gens.get n)) 8 ++ leBytes qs.length 2
      ++ leBytes l.length 2 ++ l.flatMap fun q => leBytes q 2)

/-- Bits of a slot's PHASE (R208). -/
def phaseNo : MigPhase → Nat
  | .copy => 0 | .noCache => 1 | .hold => 2 | .finish => 3 | .aborting => 4

/-- The word of a migration slot entry (R208). -/
def MigSlot.toNat (m : MigSlot) : Nat :=
  pack [(1, b2n m.valid), (3, m.jobType), (3, phaseNo m.phase), (1, b2n m.wphase), (19, m.srcTile), (4, m.dstRank),
    (19, m.dstTile), (12, m.qp), (2, 0), (32, m.descSeq.toNat), (4, m.pass), (23, m.dirtyLast), (5, 0), (18, m.out0),
    (18, m.out1), (28, 0), (64, m.start)]

/-- TILE_ENTRY_GET. -/
def State.cmdTileEntryGet (s : State) (i : Instr) (h : CmdHdr) (tile : U32) : State :=
  let n := tile.toNat
  s.command i h { opcode := 0xC301, len := 4, bad := decide (2 ^ 19 ≤ n) } none fun s _ =>
    let e := s.tile n
    .done s rcSuccess (leBytes e.toNat 16 ++ (if e.state = .migrating then leBytes (s.mig e.migSlot).toNat 32 else []))

/-- MIG_SLOT_GET. -/
def State.cmdMigSlotGet (s : State) (i : Instr) (h : CmdHdr) (slot : U16) : State :=
  s.command i h { opcode := 0xC302, len := 2, bad := decide (1024 ≤ slot.toNat) } none fun s _ =>
    .done s rcSuccess (leBytes (s.mig slot.toNat).toNat 32)

/-- Is a transaction outstanding that TRANSLATE forwarded through entry n (R217)? -/
def State.forwardedThrough (s : State) (n : Nat) : Bool :=
  s.dp.txns.cells.any fun c => c.2.state != .free && c.2.via == some n

/-- TILE_MOVED_RELEASE (R217): the entry becomes ZEROING once no transaction holds its place (R209). -/
def State.cmdTileMovedRelease (s : State) (i : Instr) (h : CmdHdr) (tile : U32) : State :=
  let n := tile.toNat
  s.command i h
    { opcode := 0xC303, len := 4, bad := decide (2 ^ 19 ≤ n), changes := true, object := some (3, n) } none fun s _ =>
    let e := s.tile n
    if e.state ≠ .moved ∨ e.fwdRank = s.rank ∨ s.forwardedThrough n ∨ s.wq.zeros.any (·.tile == n) then conflict s 3 n (htNo e.state)
    else if ¬ s.linkUp e.pPort then ok (s.writeTile n { e with state := .lost, fwdRank := 0, fwdTile := 0 })
    else ok (s.orderZero n)

end Sys2Proof.Machine
end

