-- ==== Sys2Proof/Machine/ConfigCheck.lean ====
section
/-! DEFINITION. Validation of a staged image that needs no state of the switch (R383): header, walk, digest, canonical
order, and the type, scope, length and reserved values of each record; and the report of a failure. -/

namespace Sys2Proof.Machine

/-! ### Failures -/

/-- A failed check: what the report names, the return code, and the object of the R368 payload. -/
structure CfgFail where
  type : Nat := 0
  scope : Nat := 0
  key : Nat := 0
  off : Nat := 0
  check : Nat := 9
  detail : Nat := 0
  code : Nat := rcConflict
  /-- kind, number and state of the object that the check's rule names -/
  obj : Option (Nat × Nat × Nat) := none
  /-- place in canonical order of the first record involved, for checks that span records -/
  place : Nat × Nat × Nat := (0, 0, 0)
deriving DecidableEq, Repr

/-- A record's place in canonical order (R376). -/
def CfgRec.place (r : CfgRec) : Nat × Nat × Nat := (r.type, r.scope, r.key)

/-- Strictly before in canonical order. -/
def placeLt (a b : Nat × Nat × Nat) : Bool :=
  decide (a.1 < b.1) || (a.1 == b.1 && (decide (a.2.1 < b.2.1) || (a.2.1 == b.2.1 && decide (a.2.2 < b.2.2))))

/-- A failure that names a record. -/
def CfgRec.fail (r : CfgRec) (detail : Nat := 0) (code : Nat := rcConflict) (obj : Option (Nat × Nat × Nat) := none)
    (check : Nat := 9) : CfgFail :=
  { type := r.type, scope := r.scope, key := r.key, off := r.off, check := check, detail := detail, code := code
    obj := obj, place := r.place }

/-- A record that an image omits (R383). -/
def omitted (type scope key : Nat) : CfgRec := { type := type, scope := scope, key := key }

/-- The first failure of a list of checks. -/
def firstFail : List (Bool × CfgFail) → Option CfgFail
  | [] => none
  | (true, f) :: _ => some f
  | (false, _) :: rest => firstFail rest

/-- The failure whose first record involved comes first. -/
def earliest : List CfgFail → Option CfgFail
  | [] => none
  | f :: rest =>
    match earliest rest with
    | none => some f
    | some g => if placeLt g.place f.place then some g else some f

/-- The output of a failed validation: the R368 payload and the report (R383); `phase` is the commit phase. -/
def State.failBytes (s : State) (phase : Nat) (f : CfgFail) : List Byte :=
  let o := f.obj.getD (7, 0, phase)
  s.conflictBytes o.1 o.2.1 o.2.2 0
    ++ leBytes (pack [(16, f.type), (8, f.scope), (8, f.check), (32, f.off), (64, f.key), (32, f.detail), (32, 0)]) 24

/-! ### Steps 1 to 3 -/

/-- A failure that names the header. -/
def headFail (check : Nat) (code : Nat := rcConflict) : CfgFail := { check := check, code := code }

/-- The header (R374, R383): `staged` is the number of bytes staged, `base` the BASE_EPOCH of the command (log entry
46), `epoch` the current epoch. -/
def checkHead (h : ImageHead) (staged base epoch : Nat) : Option CfgFail :=
  let d := (h.epoch + 2 ^ 32 - h.base) % 2 ^ 32
  firstFail [
    (h.magic != 0x31464343 || h.format != 1 || h.length != staged || decide (h.length < 64) || decide (2 ^ 26 < h.length)
      || h.digest != 0, headFail 1),
    (h.rsvd != 0, headFail 7),
    (h.base != base || base != epoch || h.epoch == 0 || d == 0 || decide (2 ^ 31 ≤ d) || h.epoch % 256 == h.base % 256,
      headFail 2 rcEpoch)]

/-- The end index of a TILE_MAP run, by its record. -/
def CfgRec.runEnd (r : CfgRec) : Nat := field r.key 0 63 + leNat (sliceOf r.body 0 4)

/-- The canonical order: ascending records, and TILE_MAP runs of one kind and scope apart (R376). -/
def checkOrder : List CfgRec → Option CfgFail
  | a :: b :: rest =>
    let overlap := a.type == 0x0030 && b.type == 0x0030 && a.scope == b.scope && a.isHome == b.isHome
      && decide (field b.key 0 63 < a.runEnd)
    if !placeLt a.place b.place || overlap then some (b.fail 0 rcConflict none 4) else checkOrder (b :: rest)
  | _ => none

/-! ### Step 4: type, scope, length, reserved values -/

/-- The body length of a record; none where its KEY is outside the values of R377. -/
def bodyLength (t : RecType) (r : CfgRec) : Option Nat :=
  match t with
  | .identity => some 32
  | .port => some 64
  | .tenant => some (8 + 16 * field (leNat (sliceOf r.body 0 8)) 38 7)
  | .tileMap => some (if r.isHome then 24 else 16)
  | .accessRules | .meter | .schedule | .securityPolicy => some 32
  | .gateList => some (16 + 8 * field (leNat (sliceOf r.body 0 16)) 96 9)
  | .recipeBank => none
  | .slotPower => some 136
  | .trunk => some 72
  | .directoryPartition => some 160
  | .counterSelect =>
    if r.key < 80 ∨ (0x80 ≤ r.key ∧ r.key < 0x80 + 72) then some 8 else if r.key = 0x100 then some 32 else none

/-- Is the KEY one that R377 gives for the type? The index of a run is bounded by R41, as a limit. -/
def keyOk (t : RecType) (k : Nat) : Bool :=
  match t with
  | .identity => decide (k < 2 ^ 48)
  | .port | .schedule | .gateList => decide (k < 72)
  | .tenant | .meter => decide (k < 4096)
  | .tileMap => true
  | .accessRules => decide (k < 77 * 64)
  | .recipeBank | .directoryPartition | .securityPolicy => k == 0
  | .slotPower => decide (k < 64)
  | .trunk => decide (k < 8)
  | .counterSelect => decide (k < 80) || (decide (0x80 ≤ k) && decide (k < 0x80 + 72)) || k == 0x100

/-- Are bits [hi : lo] of n zero? -/
def zeroBits (n hi lo : Nat) : Bool := field n lo (hi + 1 - lo) == 0

/-- The reserved bits and reserved values of a body (R7): true when none is set. -/
def bodyClear (t : RecType) (r : CfgRec) : Bool :=
  let n := leNat r.body
  match t with
  | .identity =>
    zeroBits n 255 208 && (List.range 32).all fun i => decide (field n (4 * i) 4 ≤ 3) || field n (4 * i) 4 == 15
  | .port =>
    zeroBits n 31 27 && zeroBits n 191 184 && zeroBits n 511 504
      && (decide (64 ≤ r.key) || ([0, 1, 2, 4].contains (field n 0 3) && [2, 4, 8, 16].contains (field n 3 5)
        && decide (field n 8 3 ≤ 5) && field n 14 2 != 3))
  | .tenant =>
    zeroBits n 63 57 && zeroBits n 23 8 && (n.testBit 6 || field n 38 7 == 0)
      && (List.range (field n 38 7)).all fun i => zeroBits (leNat (sliceOf r.body (8 + 16 * i) 16)) 127 95
  | .tileMap =>
    let e := leNat (sliceOf r.body 8 16)
    zeroBits n 63 33 && decide (1 ≤ field n 0 32)
      && (if r.isHome then !e.testBit 7 && zeroBits e 127 117 && decide (field e 0 3 ≤ 5) && field e 3 2 != 3
          else !e.testBit 27 && zeroBits e 63 44 && decide (field e 0 2 ≤ 1) && field e 2 2 != 3)
  | .accessRules => zeroBits n 63 24 && zeroBits n 255 192
  | .meter =>
    zeroBits n 7 3 && zeroBits n 31 30 && zeroBits n 63 54 && zeroBits n 127 112 && zeroBits n 151 150 && zeroBits n 255 209
  | .schedule => zeroBits n 255 80
  | .gateList =>
    zeroBits n 95 94 && zeroBits n 127 105 && decide (field n 96 9 ≤ 256)
      && (List.range (field n 96 9)).all fun i => zeroBits (leNat (sliceOf r.body (16 + 8 * i) 8)) 63 38
  | .recipeBank =>
    let h := SetHead.ofBody r.body
    h.rsvd == 0 && (r.body.drop h.length).all (· == 0)
      && ((setDispatch r.body h).all fun d => zeroBits d.2.toNat 15 12)
      && ((setSteps r.body h).all fun w => zeroBits w.2.toNat 31 26 && zeroBits w.2.toNat 63 48)
  | .slotPower => true
  | .trunk => true
  | .directoryPartition =>
    ((List.range 64).all fun i => zeroBits (leNat (sliceOf r.body (2 * i) 2)) 15 11) && zeroBits n 1055 1050
      && zeroBits n 1071 1067 && zeroBits n 1279 1168
  | .counterSelect =>
    if r.key < 80 then true else if r.key < 0x100 then zeroBits n 63 21
    else !n.testBit 79 && zeroBits n 83 80 && zeroBits n 137 128
  | .securityPolicy => zeroBits n 71 68 && zeroBits n 255 104

/-- Step 4 for one record, as far as it needs no chapter. -/
def checkForm (r : CfgRec) : Option CfgFail :=
  match recTypeOf r.type with
  | none => some (r.fail 0 rcConflict none 5)
  | some t =>
    let scopeOk := if t = .recipeBank then r.scope == 0xFF else decide (r.scope < 16)
    let lengthOk := r.body.length % 8 == 0 && (match bodyLength t r with
      | some n => r.body.length == n
      | none => true)
    firstFail [
      (!scopeOk, r.fail 0 rcConflict none 5),
      (!lengthOk, r.fail 0 rcConflict none 6),
      (!(keyOk t r.key && zeroBits (leNat r.head) 31 24 && bodyClear t r), r.fail 0 rcConflict none 7)]

end Sys2Proof.Machine
end

