-- ==== Sys2Proof/Machine/Wire.lean ====
section
/-! DEFINITION. What a trunk's lanes carry: LANE_ANN blocks (R259), flit bytes with header and CRC (R271, R272), scrambling and
lane steering (R252, R253), and the check bytes on the idle lane (R278). -/

namespace Sys2Proof.Machine

/-! ### Shift registers -/

/-- One step of a CRC that takes bits least significant first, its polynomial bit-reversed. -/
def crcStep (poly c : Nat) (b : Bool) : Nat := if c.testBit 0 != b then (c / 2) ^^^ poly else c / 2

/-- Such a CRC over bytes in order. -/
def crcOf (poly init : Nat) (l : List Byte) : Nat :=
  l.foldl (fun c b => (List.range 8).foldl (fun c i => crcStep poly c (b.getLsbD i)) c) init

/-- CRC-64 of a flit (R271): polynomial 0x42F0_E1EB_A9EA_3693, which is bit-reversed here. That the register runs in the order of the
bits is PRESUMED (log entry 87). -/
def flitCrc (l : List Byte) : Nat := crcOf 0xC96C5795D7870F42 (2 ^ 64 - 1) l ^^^ (2 ^ 64 - 1)

/-- CRC-16 of a LANE_ANN block (R259): polynomial 0x8005, bit-reversed (PRESUMED, log entry 87). -/
def annCrc (l : List Byte) : Nat := crcOf 0xA001 0xFFFF l

/-- One step of the scrambler x²³ + x²¹ + x¹⁶ + x⁸ + x⁵ + x² + 1 (R253), in the form of PCIe 6.1 (PRESUMED, log entry 87): its bit
is bit 22 of the state. -/
def scramStep (x : Nat) : Nat := if x.testBit 22 then (2 * x % 2 ^ 23) ^^^ 0x210125 else 2 * x

/-- One step of PRBS31, x³¹ + x²⁸ + 1 (R257), shifted upward (PRESUMED, log entry 87): its bit is bit 30 of the state. -/
def prbsStep (x : Nat) : Nat := 2 * x % 2 ^ 31 + b2n (x.testBit 30 != x.testBit 27)

/-- A register after n steps. -/
def runSteps (step : Nat → Nat) : Nat → Nat → Nat
  | 0, x => x
  | n + 1, x => runSteps step n (step x)

/-- n bytes that a register gives from state x on, least significant bit first: bit `top` of each state. -/
def keyBytes (step : Nat → Nat) (top : Nat) : Nat → Nat → List Byte
  | 0, _ => []
  | n + 1, x =>
    let bits := (List.range 8).map fun k => (runSteps step k x).testBit top
    BitVec.ofNat 8 (bitsOf bits) :: keyBytes step top n (runSteps step 8 x)

/-- Seed of the scrambler of logical lane i (R253). -/
def scramSeed (i : Nat) : Nat := 0x1DBFBC ^^^ (i * 0x0F0F0F)
/-- Start of the PRBS31 of physical lane n (R257). -/
def prbsSeed (n : Nat) : Nat := 0x7FFFFFFF - n

/-- The scrambler's next 32 bytes on logical lane i, once `pos` flit bits have passed (R253). -/
def scramBytes (i pos : Nat) : List Byte := keyBytes scramStep 22 32 (runSteps scramStep pos (scramSeed i))
/-- q: the next 32 bytes of the PRBS31 of physical lane n, once `pos` bits have passed (R257, R278). -/
def prbsBytes (n pos : Nat) : List Byte := keyBytes prbsStep 30 32 (runSteps prbsStep pos (prbsSeed n))

/-- Two byte lists, exclusive-ORed. -/
def xorBytes (a b : List Byte) : List Byte := (a.zip b).map fun p => p.1 ^^^ p.2

/-! ### Flits -/

/-- Fields of a flit header (R272). -/
structure FlitHead where
  seq : Nat := 0
  ack : Nat := 0
  type : Nat := 0
  ackValid : Bool := false
  nak : Bool := false
  steer : Bool := false
  replayed : Bool := false
  /-- the credit counter returned, in the order of R300 -/
  credit : Option Nat := none
  count : Nat := 0
deriving DecidableEq, Repr

/-- The header word (R272). -/
def FlitHead.word (h : FlitHead) : Nat :=
  let c := h.credit.getD 0
  pack [(12, h.seq), (12, h.ack), (4, h.type), (1, b2n h.ackValid), (1, b2n h.nak), (1, b2n h.steer), (1, b2n h.replayed),
    (1, b2n h.credit.isSome), (2, c / 2), (1, c % 2), (16, h.count), (12, 0)]

/-- Bytes of each number of a payload: message units (R275), DIGEST entries (R305), else the whole payload. -/
def payloadStride (type : Nat) : Nat := if type = 2 then 16 else if type = 6 then 48 else 240

/-- The 240 bytes of a payload (R271). -/
def payloadBytes (type : Nat) (l : List Nat) : List Byte :=
  let b := l.flatMap fun v => leBytes v (payloadStride type)
  (b ++ List.replicate (240 - b.length) 0).take 240

/-- The 256 bytes of a flit (R271). -/
def flitBytes (h : FlitHead) (payload : List Nat) : List Byte :=
  let l := leBytes h.word 8 ++ payloadBytes h.type payload
  l ++ leBytes (flitCrc l) 8

/-- The bytes of logical lane i, scrambled (R253): byte k of the flit on lane k mod 8. -/
def laneBytes (bytes : List Byte) (i pos : Nat) : List Byte :=
  xorBytes ((List.range 32).map fun j => bytes.getD (8 * j + i) 0) (scramBytes i pos)

/-- The 32 check bytes: the exclusive OR of the byte in position i of each logical lane (R278). -/
def checkBytes (lanes : List (List Byte)) : List Byte := lanes.foldl xorBytes (List.replicate 32 0)

/-- What the nine physical lanes carry of one flit, under a lane map, `pos` flit bits after bring-up and `prbs` bits into PRBS31
(R252, R253, R278). In compatibility mode lane 8 is in electrical idle (R256). -/
def physicalLanes (bytes : List Byte) (skip pos prbs : Nat) (compat : Bool) : List (List Byte) :=
  let logical := (List.range 8).map fun i => laneBytes bytes i pos
  if compat then logical ++ [[]]
  else
    (List.range 9).map fun n =>
      if n = skip then xorBytes (checkBytes logical) (prbsBytes n prbs)
      else logical.getD (if n < skip then n else n - 1) []

/-! ### PAM4 (R253) -/

/-- Gray coding of the bits of a lane in the order sent: the first of two is the more significant. -/
def graySymbols : List Bool → List Nat
  | a :: b :: l => (if a then (if b then 2 else 3) else b2n b) :: graySymbols l
  | _ => []

/-- 1/(1+D) precoding after the level `last`: each level and the one before it add up to the symbol, modulo 4. -/
def precode (last : Nat) : List Nat → List Nat
  | [] => []
  | x :: l => let y := (x + 4 - last % 4) % 4; y :: precode y l

/-- The levels of bytes sent on one lane, least significant bit first. -/
def pam4Levels (last : Nat) (bytes : List Byte) : List Nat :=
  precode last (graySymbols (bytes.flatMap fun b => (List.range 8).map b.getLsbD))

/-! ### LANE_ANN (R259) -/

/-- The LANE_ANN block of physical lane n. -/
def annBlock (n rxSkip : Nat) (measured start compat : Bool) (rate : Nat) : Nat :=
  let v := pack [(32, 0x3C5A96E1), (4, n), (4, rxSkip), (1, b2n measured), (1, b2n start), (2, rate), (1, b2n compat), (67, 0)]
  v + 2 ^ 112 * annCrc (leBytes v 14)

/-- A group of blocks, one on each lane. -/
def annGroup (rxSkip : Nat) (measured start compat : Bool) (rate : Nat) : List Nat :=
  (List.range 9).map fun n => annBlock n rxSkip measured start compat rate

end Sys2Proof.Machine
end

