-- ==== Sys2Proof/Machine/Qoray.lean ====
section
/-! DEFINITION. What a trunk sends (spec/13): message units (R275 to R277), flits with their acknowledgement and credit
fields (R272, R282, R289), the replay buffer (R280 to R285), credits (R286 to R288) and fences (R294). -/

namespace Sys2Proof.Machine

/-! ### Messages as units -/

/-- Bits of MetaField as CXL 3.1 numbers them (PRESUMED, log entry 21). -/
def metaFieldNo : MetaField → Nat
  | .meta0State => 0 | .noOp => 3
/-- Bits of MetaValue (PRESUMED, log entry 21). -/
def metaValueNo : MetaValue → Nat
  | .invalid => 0 | .any => 2 | .shared => 3
/-- Bits of SnpType (PRESUMED, log entry 21). -/
def snpTypeNo : SnpType → Nat
  | .noOp => 0 | .snpData => 1 | .snpCur => 2 | .snpInv => 3

/-- Units of a message on a trunk (R276). -/
def trunkUnits (cls : Nat) (m : Msg) : Nat :=
  let op := m.op.toNat
  if cls = 1 then (if op = 2 then 7 else 6)
  else if cls = 0 ∨ cls = 3 ∨ (cls = 2 ∧ 0x10 ≤ op) then 2
  else if cls = 4 ∧ (op = 8 ∨ op = 9) then 5
  else if cls = 6 then 3 + (m.payload.length + 15) / 16
  else 1

/-- Unit 0 (R277). -/
def msgUnit0 (cls : Nat) (m : Msg) : Nat :=
  pack [(4, trunkUnits cls m), (3, cls), (6, m.op.toNat), (1, b2n m.poison), (1, b2n m.attached), (1, 0),
    (24, m.tag.toNat), (2, colourNo m.colour), (4, m.originRank.toNat), (6, m.originPort.toNat), (16, m.hostTag.toNat),
    (2, m.grant.toNat)]

/-- Unit 1 (R277). -/
def msgUnit1 (m : Msg) : Nat :=
  pack [(51, m.addr.toNat), (12, m.tenant.toNat), (16, m.gen.toNat), (2, m.attr.toNat), (2, metaFieldNo m.metaField),
    (2, metaValueNo m.metaValue), (3, snpTypeNo m.snpType)]

/-- The four data units of a line. -/
def lineUnits (d : Line) : List Nat := (List.range 4).map fun k => field d.toNat (128 * k) 128

/-- The units of a message (R276, R277). -/
def msgUnits (cls : Nat) (m : Msg) : List Nat :=
  let op := m.op.toNat
  if cls = 1 then
    [msgUnit0 cls m, msgUnit1 m] ++ (if op = 2 then [m.be.toNat] else []) ++ lineUnits m.data
  else if cls = 0 ∨ cls = 3 ∨ (cls = 2 ∧ 0x10 ≤ op) then [msgUnit0 cls m, msgUnit1 m]
  else if cls = 4 ∧ (op = 8 ∨ op = 9) then msgUnit0 cls m :: lineUnits m.data
  else if cls = 6 then
    [msgUnit0 cls m, msgUnit1 m, m.vppb.elim 0 (·.val)]
      ++ (List.range ((m.payload.length + 15) / 16)).map fun k => leNat ((m.payload.drop (16 * k)).take 16)
  else [msgUnit0 cls m]

/-! ### Credits -/

/-- The static values A of trunk t (R287). -/
def State.creditA (s : State) (t : Nat) : List Nat :=
  let c (i : Nat) : Nat := s.cellLimit (64 + t) i
  [Nat.min (Nat.min (16 * c 0) (16 * c 3)) (2 * c 1), 10 * c 1, 16 * c 2, 0, 3 * c 4, 12 * c 4, c 6, 12 * c 6].map
    (Nat.min 65535)

/-- Credits of the live records that trunk t has delivered (R287, R291). -/
def State.liveCredits (s : State) (t : Nat) : List U16 :=
  s.dp.recs.cells.foldl (fun l c => match c.2 with
    | some r => if r.ingress = 64 + t then addCredits l r.cls r.msg else l
    | none => l) (List.replicate 8 0)

/-- The sender's window of counter k (R288). -/
def Trunk.window (t : Trunk) (k : Nat) : Nat := (t.lim.getD k 0 - t.used.getD k 0).toNat

/-- Does the window hold a message's credits (R286)? -/
def Trunk.creditsFor (t : Trunk) (cls : Nat) (m : Msg) : Bool :=
  let c := msgCredits cls m
  decide (1 ≤ t.window (2 * c.1)) && decide (c.2 ≤ t.window (2 * c.1 + 1))

/-- The next credit return to send: the next counter in rotation that has changed, or that its period makes due (R289). -/
def Trunk.nextReturn (t : Trunk) : Option Nat :=
  searchFrom (fun k => t.ret.getD k 0 != t.retSent.getD k 0 || t.retDue.testBit k) 8 t.crNext 8

/-! ### Flits -/

/-- Outstanding sequenced flits (R280). -/
def Trunk.outstanding (t : Trunk) : Nat := (t.next - t.oldest).toNat

/-- One flit slot of a class of R423: 0 DELIVERED, 1 WASTED_REPLAY, 2 WASTED_DISCARD, 3 WASTED_POISON, 4 FRONT_STARVED,
5 BACK_STARVED, 6 CONTROL. A slot without a message, for which one was picked and discarded, is WASTED_DISCARD. -/
def Focus.slot (f : Focus) (kind units : Nat) : Focus :=
  let k := if f.lost ∧ (kind = 4 ∨ kind = 5) then 2 else kind
  let f := { f with lost := f.lost && (k == 1 || k == 6) }
  match k with
  | 0 => { f with delivered := f.delivered + 1, deliveredUnits := f.deliveredUnits + BitVec.ofNat 64 units }
  | 1 => { f with wastedReplay := f.wastedReplay + 1 }
  | 2 => { f with wastedDiscard := f.wastedDiscard + 1 }
  | 3 => { f with wastedPoison := f.wastedPoison + 1 }
  | 4 => { f with frontStarved := f.frontStarved + 1 }
  | 5 => { f with backStarved := f.backStarved + 1 }
  | _ => { f with control := f.control + 1 }

/-- Change the focus records of point x. -/
def State.updFocus (s : State) (x : Nat) (g : Focus → Focus) : State :=
  { s with obs.focus := (List.range 8).foldl (fun t k => t.upd k fun f => if f.valid && f.point == x then g f else f) s.obs.focus }

/-- Count one flit slot of point x (R423). -/
def State.focusSlot (s : State) (x kind units : Nat) : State := s.updFocus x (·.slot kind units)

/-- A message picked at point x is discarded: an edge port's slot is gone, a trunk's flit may still take another message. -/
def State.lostSlot (s : State) (x : Nat) : State :=
  if x < 64 then s.focusSlot x 2 0 else s.updFocus x fun f => { f with lost := true }

/-- The slot of one flit of trunk t that carries the messages ms (R423). -/
def State.flitSlot (s : State) (t type : Nat) (replayed : Bool) (ms : List TrunkMsg) : State :=
  let held := s.dp.queues.cells.any fun c =>
    c.1 / 8 == 64 + t && c.2.any fun e => !(s.trunk t).creditsFor e.cls e.msg
  let kind :=
    if type ≠ 1 ∧ type ≠ 2 then 6 else if replayed then 1
    else if ms.isEmpty then (if held then 5 else 4) else if ms.all (·.msg.poison) then 3 else 0
  s.focusSlot (64 + t) kind (ms.map fun m => trunkUnits m.cls m.msg).sum

/-- What physical lanes carry leaves the block, in PAM4 as levels too (R253). -/
def State.emitLanes (s : State) (t : Nat) (lanes : List (List Byte)) : State :=
  let s := s.emit (.lanes t lanes)
  if (s.trk.params.get t).rate = 0 then s
  else
    let l := lanes.zipIdx.map fun b => pam4Levels ((s.trunk t).levels.getD b.2 0) b.1
    State.emit (s.updTrunk t fun k =>
      { k with levels := l.zipIdx.map fun v => v.1.getLast?.getD (k.levels.getD v.2 0) }) (.levels t l)

/-- Send one flit with its current acknowledgement, NAK, steering and credit fields (R272, R274, R282, R285, R289), on the lanes of the
map before it steers (R269, R278). The scramblers and PRBS31 run over the flits that the model sends (DESIGN CHOICE, log entry 87). -/
def State.putFlit (s : State) (t type seq : Nat) (replayed : Bool) (payload : List Nat) : State :=
  let k := s.trunk t
  let carries := type ≠ 0 ∧ type ≠ 4
  let cr := if carries then k.nextReturn else none
  let steer := match k.steerTo with
    | some _ => !replayed && type != 0
    | none => false
  let ack := decide carries && k.ackDue
  let nak := decide carries && k.nakDue
  let body := [seq, (k.expect - 1).toNat, b2n ack, b2n nak, b2n steer, b2n replayed, b2n cr.isSome, cr.getD 0,
    (cr.elim 0 fun i => (k.ret.getD i 0).toNat)] ++ payload
  let head : FlitHead :=
    { seq := seq, ack := if carries then (k.expect - 1).toNat else 0, type := type, ackValid := ack, nak := nak, steer := steer
      replayed := replayed, credit := cr, count := cr.elim 0 fun i => (k.ret.getD i 0).toNat }
  let lanes := physicalLanes (flitBytes head payload) k.txSkip k.flitBits (k.prbsStart + k.flitBits) (s.trk.params.get t).compat
  let k := { k with
    ackDue := k.ackDue && !ack, sinceAck := if ack then 0 else k.sinceAck, nakDue := k.nakDue && !nak
    txSkip := if steer then k.steerTo.getD k.txSkip else k.txSkip, steerTo := if steer then none else k.steerTo
    retSent := match cr with
      | some i => k.retSent.set i (k.ret.getD i 0)
      | none => k.retSent
    crNext := cr.elim k.crNext (· + 1), flitBits := k.flitBits + 256, sinceFiller := if type = 0 then 0 else k.sinceFiller + 1
    retDue := cr.elim k.retDue fun i => if k.retDue.testBit i then k.retDue - 2 ^ i else k.retDue }
  State.emitLanes (State.emit (s.updTrunk t fun _ => k) (.flit t type body)) t lanes

/-- Send one flit; in native mode a FILLER goes first where 1,023 flits have gone without one (R255, R274). -/
def State.sendFlit (s : State) (t type seq : Nat) (replayed : Bool) (payload : List Nat) (ms : List TrunkMsg := []) : State :=
  let due := decide (1023 ≤ (s.trunk t).sinceFiller) && !(s.trk.params.get t).compat
  let s := if due then (s.flitSlot t 0 false []).putFlit t 0 0 false [] else s
  (s.flitSlot t type replayed ms).putFlit t type seq replayed payload

/-- Payload words of a PAYLOAD flit. -/
def flitUnits (ms : List TrunkMsg) : List Nat := ms.flatMap fun m => msgUnits m.cls m.msg

/-- Send a sequenced flit and keep its copy (R280). -/
def State.sendSeq (s : State) (t type : Nat) (ms : List TrunkMsg) (body : List Nat) : State :=
  let k := s.trunk t
  let f : TxFlit := { seq := k.next, type := type, msgs := ms, body := body }
  let s := s.updTrunk t fun k => { k with next := k.next + 1, replay := k.replay ++ [f] }
  s.sendFlit t type f.seq.toNat false (flitUnits ms ++ body) ms

/-- Close the open flit (R275), unless the replay buffer is full. -/
def State.closeFlit (s : State) (t : Nat) : State :=
  let k := s.trunk t
  if k.openFlit.isEmpty ∨ 1536 ≤ k.outstanding then s
  else (s.updTrunk t fun k => { k with openFlit := [] }).sendSeq t 2 k.openFlit []

/-- Send control flits that wait for room (R274, R280). -/
def State.flushCtl (s : State) (t : Nat) : State :=
  (s.trunk t).ctl.foldl (fun s c =>
    if 1536 ≤ (s.trunk t).outstanding then s
    else (s.updTrunk t fun k => { k with ctl := k.ctl.drop 1 }).sendSeq t c.1 [] c.2) s

/-- Send a LANE_CTL or LINK_CTL flit (R300). -/
def State.sendCtl (s : State) (t type : Nat) (body : List Nat) : State :=
  (s.updTrunk t fun k => { k with ctl := k.ctl ++ [(type, body)] }).flushCtl t

/-- A replay pass from OLDEST (R283). -/
def State.replayPass (s : State) (t : Nat) : State :=
  (s.trunk t).replay.foldl (fun s f =>
    (s.countTrunk t 22).sendFlit t f.type f.seq.toNat true (flitUnits f.msgs ++ f.body) f.msgs) s

/-- Add a message to the open flit, closing the flit first when it does not fit (R275), and consume its credits. -/
def State.packMsg (s : State) (t : Nat) (m : TrunkMsg) : State :=
  let used := ((s.trunk t).openFlit.map fun m => trunkUnits m.cls m.msg).sum
  let s := if used + trunkUnits m.cls m.msg ≤ 15 then s else s.closeFlit t
  s.updTrunk t fun k => { k with openFlit := k.openFlit ++ [m], used := addCredits k.used m.cls m.msg }

/-! ### INIT (R261) -/

/-- Advertise credits (R287): A less the credits of the live records. -/
def State.advertise (s : State) (t : Nat) : State :=
  let live := s.liveCredits t
  let adv := (s.creditA t).zipIdx.map fun a => BitVec.ofNat 16 (a.1 - (live.getD a.2 0).toNat)
  s.updTrunk t fun k =>
    { k with adv := adv, ret := adv, retSent := adv, rcv := List.replicate 8 0, leak := List.replicate 8 0,
             mismatch := List.replicate 8 0, crNext := 0 }

/-- Send one INIT flit (R261). -/
def State.sendInit (s : State) (t : Nat) : State :=
  let k := s.trunk t
  let p := s.trk.params.get t
  let si := s.bank.setInfo
  let v1 := p.compat
  s.sendFlit t 4 0 false
    [pack ([(8, if v1 then 1 else 2), (48, Config.provisionedId.toNat), (4, if s.tab.ident.valid then s.rank else 0),
      (1, b2n s.tab.ident.valid), (3, t), (1, b2n k.acked), (1, b2n p.compat), (2, p.rate), (1, b2n !p.compat), (11, 0),
      (16, if v1 then 0 else si.setId), (8, if v1 then 0 else si.versionMajor), (8, if v1 then 0 else si.compatMin),
      (16, 0)] ++ k.adv.map fun c => (16, c.toNat))]

/-! ### Fences (R293, R294, R298) -/

/-- Flag the message flits that a trunk has outstanding: a fence waits for them. -/
def State.flagFence (s : State) (t : Nat) : State :=
  s.updTrunk t fun k => { k with replay := k.replay.map fun f => { f with fence := f.fence || !f.msgs.isEmpty } }

/-- Does the fence of trunk x hold? -/
def State.fenceHolds (s : State) (x : Nat) : Bool :=
  match (s.trunk x).fenceOn with
  | some f => ((s.trunk f).replay.all fun r => !r.fence)
  | none => false

/-- A resynchronisation goes on with INIT once the traffic has moved and every sequenced flit is acknowledged (R293). -/
def State.checkResync (s : State) (x : Nat) : State :=
  let k := s.trunk x
  if k.resync ∧ k.move = 1 ∧ k.phase = .active ∧ k.replay.isEmpty then
    ((s.updTrunk x fun k => { k with phase := .init, acked := false, answerInit := false }).advertise x).sendInit x
  else s

/-- Complete the moves whose fence holds: a planned move away ends in MOVE 1, a move back in MOVE 0. -/
def State.checkFence (s : State) (x : Nat) : State :=
  let k := s.trunk x
  if k.move ≠ 3 ∨ ¬ s.fenceHolds x then s.checkResync x
  else if k.fenceOn = some x then (s.updTrunk x fun k => { k with move := 1, fenceOn := none }).checkResync x
  else { s.updTrunk x fun k => { k with move := 0, fenceOn := none } with dp.freed := true }

/-- Move the queued messages of trunk x to trunk y, behind y's own (R294). -/
def State.moveQueues (s : State) (x y : Nat) : State :=
  (List.range 8).foldl (fun s q =>
    let es := (s.queue (64 + x) q).filter fun e => e.owner.isNone
    let stay := (s.queue (64 + x) q).filter fun e => e.owner.isSome
    let add (l : List QEntry) : List QEntry := l ++ es.map fun e => { e with owner := some x }
    { s with dp.queues := (s.dp.queues.set (8 * (64 + x) + q) stay).upd (8 * (64 + y) + q) add }) s

/-- Move the messages of trunk x that wait on y back to x (R298). -/
def State.moveBack (s : State) (x y : Nat) : State :=
  (List.range 8).foldl (fun s q =>
    let es := (s.queue (64 + y) q).filter fun e => e.owner == some x
    let stay := (s.queue (64 + y) q).filter fun e => e.owner != some x
    let add (l : List QEntry) : List QEntry := es.map (fun e => { e with owner := none }) ++ l
    { s with dp.queues := (s.dp.queues.set (8 * (64 + y) + q) stay).upd (8 * (64 + x) + q) add }) s

/-- A planned move of x's traffic to its partner y (R293, R294). -/
def State.planMove (s : State) (x : Nat) : State :=
  let s := (s.closeFlit x).flagFence x
  let s := (s.updTrunk x fun k => { k with move := 3, fenceOn := some x }).moveQueues x (x ^^^ 1)
  s.checkFence x

/-- Traffic of x moves back from its partner (R298), once any resend there has been sent. -/
def State.planBack (s : State) (x : Nat) : State :=
  let y := x ^^^ 1
  if (s.trunk x).move = 1 ∧ (s.trunk x).phase = .active ∧ (s.trunk y).phase = .active ∧ (s.trunk y).resend.isEmpty then
    let s := (s.closeFlit y).flagFence y
    let s := (s.updTrunk x fun k => { k with move := 3, fenceOn := some y }).moveBack x y
    s.checkFence x
  else s

/-- An acknowledgement value (R283). -/
def State.takeAck (s : State) (t : Nat) (a : BitVec 12) : State :=
  let k := s.trunk t
  let d := (a - k.oldest + 1).toNat
  if k.outstanding < d then s.countTrunk t 20
  else if d = 0 then s
  else
    let s := s.updTrunk t fun k => { k with oldest := a + 1, replay := k.replay.drop d, expiries := 0 }
    let s := { s.flushCtl t with dp.freed := true }
    (s.checkFence t).checkFence (t ^^^ 1)

/-- A credit return (R288). -/
def State.takeReturn (s : State) (t k : Nat) (c : U16) : State :=
  let tr := s.trunk t
  if (c - tr.used.getD k 0).toNat ≤ (s.creditA t).getD k 0 then s.updTrunk t fun r => { r with lim := r.lim.set k c }
  else s.countTrunk t 26

/-- Every counter owes a return once 1 µs of fabric time has passed since the last (R289). -/
def State.periodicReturns (s : State) (t : Nat) : State :=
  let k := s.trunk t
  if k.phase = .active ∧ k.retAt + 1000 ≤ s.sys.ft then s.updTrunk t fun k => { k with retAt := s.sys.ft, retDue := 255 } else s

/-- IDLE flits carry what is due on every ACTIVE trunk (R274, R282, R289). -/
def State.idleFlits (s : State) (t : Nat) : Nat → State
  | 0 => s
  | n + 1 =>
    let k := s.trunk t
    if k.phase == .active && (k.ackDue || k.nakDue || k.nextReturn.isSome) then
      (s.sendFlit t 1 0 false []).idleFlits t n
    else s

end Sys2Proof.Machine
end

