-- ==== Sys2Proof/Machine/Schedule.lean ====
section
/-! DEFINITION. Egress scheduling (R170 to R173), gate control lists (R174 to R176), what leaves with a picked message
(R22, R75, R76, R82, R136), slot accounting (R423), the meter refresher (R165) and the Hazel pass (R86). -/

namespace Sys2Proof.Machine

/-! ### Gates -/

/-- Position of a gate list at fabric time t (R175). -/
def GateList.position (g : GateList) (t : Nat) : Nat := (((t : Int) - (g.baseTime : Int)) % (g.cycleTime : Int)).toNat

/-- The entry in force at position p, and the position at which it ends. -/
def gateEntry : List (Nat × Nat) → Nat → Nat → Option ((Nat × Nat) × Nat)
  | [], _, _ => none
  | e :: rest, at_, p => if p < at_ + e.2 then some (e, at_ + e.2) else gateEntry rest (at_ + e.2) p

/-- Gates open at fabric time t; without a list every gate is open (R174). -/
def GateList.gates (g : GateList) (t : Nat) : Nat :=
  if g.entries.isEmpty ∨ g.cycleTime = 0 then 0xFF
  else match gateEntry g.entries 0 (g.position t) with
    | some (e, _) => e.1
    | none => 0xFF

/-- The next entry boundary after t. -/
def GateList.boundary (g : GateList) (t : Nat) : Option Nat :=
  if g.entries.isEmpty ∨ g.cycleTime = 0 then none
  else match gateEntry g.entries 0 (g.position t) with
    | some (_, stop) => some (t + (stop - g.position t))
    | none => some (t + (g.cycleTime - g.position t))

/-- The next instant at which the gates of a point may change: an entry boundary, or a pending list taking over. -/
def nextGate (g : GateList) (nx : Option (Nat × GateList)) (t : Nat) : Option Nat :=
  match g.boundary t, nx with
  | some b, some (w, _) => if t < w then some (Nat.min b w) else some b
  | some b, none => some b
  | none, some (w, _) => if t < w then some w else none
  | none, none => none

/-- The list in force at t. -/
def listAt (g : GateList) (nx : Option (Nat × GateList)) (t : Nat) : GateList :=
  match nx with
  | some (w, l) => if w ≤ t then l else g
  | none => g

/-- The close time of class q ahead of t (R175); none when it does not close. -/
def closeTime (g : GateList) (nx : Option (Nat × GateList)) (q : Nat) : Nat → Nat → Option Nat
  | 0, _ => none
  | fuel + 1, t =>
    match nextGate (listAt g nx t) nx t with
    | none => none
    | some b =>
      if ((listAt g nx t).gates t).testBit q ∧ ¬ ((listAt g nx b).gates b).testBit q then some b
      else closeTime g nx q fuel b

/-- The gate list in force at a point, and the pending one. -/
def State.gateList (s : State) (x : Nat) : GateList × Option (Nat × GateList) :=
  (s.dp.gateNow.get x, s.dp.gateNext.get x)

/-- Ten times a port's rate in GT/s (R235). -/
def rateTenths : Nat → Nat
  | 0 => 25 | 1 => 50 | 2 => 80 | 3 => 160 | 4 => 320 | _ => 640

/-- A quotient rounded up. -/
def ceilDiv (a b : Nat) : Nat := if b = 0 then a else (a + b - 1) / b

/-- Guard time on an edge link of a message of u units, by RATE, width and flit mode (R176). -/
def linkGuard (rate width flit u : Nat) : Nat :=
  let r := rateTenths rate * width
  if 2 ≤ flit then ceilDiv ((ceilDiv (16 * u) 240 + 1) * 256 * 80) r
  else if rate ≤ 1 then ceilDiv ((ceilDiv (16 * u) 64 + 1) * 68 * 80 * 10) (r * 8)
  else ceilDiv ((ceilDiv (16 * u) 64 + 1) * 68 * 80 * 130) (r * 128)

/-- Guard time on a trunk, by the RATE code of its parameters. -/
def trunkGuard (rate u : Nat) : Nat := ceilDiv ((ceilDiv (16 * u) 240 + 1) * 256 * 80) (320 * 2 ^ rate * 8)

/-- Guard time G of a message of u units at point x (R176). -/
def State.guardTime (s : State) (x u : Nat) : Nat :=
  if 64 ≤ x then trunkGuard (s.trk.params.get (x - 64)).rate u
  else
    let p := s.port x
    linkGuard p.rate p.widthNow p.flit u

/-- Is class q open with its guard at point x for a message of u units (R170, R176)? -/
def State.gateOpen (s : State) (x q u : Nat) : Bool :=
  if q < 2 then true
  else
    let (g, nx) := s.gateList x
    ((listAt g nx s.sys.ft).gates s.sys.ft).testBit q &&
      (match closeTime g nx q 1030 s.sys.ft with
      | none => true
      | some c => decide (s.sys.ft + s.guardTime x u ≤ c))

/-! ### Eligibility and selection -/

/-- Does the partner hold credit for the message (R170): an edge partner by the bit of its channel in `credits`, a trunk by its
window? -/
def State.creditOk (s : State) (x : Nat) (credits : BitVec 12) (e : QEntry) : Bool :=
  if x < 64 then credits.toNat.testBit (sendChannel e.cls e.msg) && !(decide (e.cls < 6) && s.ideBlocked x)
  else
    let own := s.trunk (e.owner.getD (x - 64))
    (s.trunk (x - 64)).creditsFor e.cls e.msg && decide (own.move ≠ 2 ∧ own.move ≠ 3)

/-- Is flow f of class q one that a shaper limits (R169)? -/
def State.isShaped (s : State) (q f : Nat) : Bool :=
  flowClass q && decide (f < 4096) && (s.bank.tenants.get f).valid && (s.bank.meters.get f).shaperEn

/-- Is the shaper of a flow open at point x (R169)? -/
def State.shaperOk (s : State) (x q f : Nat) : Bool :=
  !s.isShaped q f || (s.tab.meterState.get f).shaperOpen (s.bank.meters.get f) x s.sys.ft

/-- Eligibility of a head message (R170). -/
def State.eligible (s : State) (x q : Nat) (credits : BitVec 12) (e : QEntry) : Bool :=
  s.creditOk x credits e && (q < 2 || (s.gateOpen x q e.units && s.shaperOk x q e.flow))

/-- Heads of the flows of a queue: the first entry of each flow, with its place. -/
def flowHeads (l : List QEntry) : List (Nat × QEntry) :=
  (l.zipIdx.filter fun e => !((l.take e.2).any fun b => b.flow == e.1.flow)).map fun e => (e.2, e.1)

/-- Cap a flow's credit at its burst (R173). -/
def State.clampFlow (s : State) (x q : Nat) (e : QEntry) : State :=
  let k := flowKey x q e.flow
  let t := s.dp.flows.get k
  let w := s.flowWeight x q e.flow
  let low := s.dp.v.get (8 * x + q) - tagDist w (s.fqBurst e.flow)
  if tagLt t.s low then { s with dp.flows := s.dp.flows.set k ⟨low, low + tagDist w e.cost⟩ } else s

/-- Does a's finish tag come before b's, the lower flow number on a tie? -/
def State.flowBefore (s : State) (x q : Nat) (a b : Nat × QEntry) : Bool :=
  let fa := (s.dp.flows.get (flowKey x q a.2.flow)).f
  let fb := (s.dp.flows.get (flowKey x q b.2.flow)).f
  tagLt fa fb || (fa == fb && decide (a.2.flow < b.2.flow))

/-- The shapers of the flows of a queue are refilled before their eligibility is tested (R169). -/
def State.refillShapers (s : State) (heads : List (Nat × QEntry)) (q : Nat) : State :=
  heads.foldl (fun s h =>
    let f := h.2.flow
    if s.isShaped q f then
      { s with tab.meterState := s.tab.meterState.upd f fun st => st.shape (s.bank.meters.get f) s.sys.ft }
    else s) s

/-- select(x, q) for a class with flows (R173): the place and entry selected. -/
def State.selectFlow (s : State) (x q : Nat) (credits : BitVec 12) : Option (Nat × QEntry) × State :=
  let heads := flowHeads (s.queue x q)
  let s := s.refillShapers heads q
  let heads := heads.filter fun h => s.eligible x q credits h.2
  let s := heads.foldl (fun s h => s.clampFlow x q h.2) s
  (heads.foldl (fun b h => match b with
    | none => some h
    | some c => if s.flowBefore x q h c then some h else some c) none, s)

/-- The head of a first-in first-out class, when eligible. -/
def State.selectHead (s : State) (x q : Nat) (credits : BitVec 12) : Option (Nat × QEntry) :=
  match s.queue x q with
  | [] => none
  | e :: _ => if s.eligible x q credits e then some (0, e) else none

/-- Update the class tags of a candidate (R173). A class that was empty before its present entries arrived starts at V0, once
(DEDUCED, log entry 75). -/
def State.classTags (s : State) (x q : Nat) (e : QEntry) : State :=
  let w := (s.bank.scheds.get x).classWeight q
  let k := 8 * x + q
  let v0 := s.dp.v0.get x
  let t := s.dp.classTag.get k
  let st := tagMax (if s.dp.fresh.get k then tagMax t.f v0 else t.s) (v0 - tagDist w 4096)
  { s with dp.fresh := s.dp.fresh.set k false, dp.classTag := s.dp.classTag.set k ⟨st, st + tagDist w e.cost⟩ }

/-- One class's candidate, with the class's tags updated. -/
def State.candidate (s : State) (x : Nat) (credits : BitVec 12) (q : Nat) : Option (Nat × QEntry) × State :=
  let (c, s) := if q = 2 ∨ q = 3 then s.selectFlow x q credits else (s.selectHead x q credits, s)
  match c with
  | none => (none, s)
  | some c => (some c, s.classTags x q c.2)

/-- pick(x) (R173): the class, the place in its queue and the entry. -/
def State.pickEntry (s : State) (x : Nat) (credits : BitVec 12) : Option (Nat × Nat × QEntry) × State :=
  match s.selectHead x 0 credits, s.selectHead x 1 credits with
  | some c, _ => (some (0, c), s)
  | none, some c => (some (1, c), s)
  | none, none =>
    let r := [2, 3, 4, 5, 7].foldl (fun (acc : List (Nat × Nat × QEntry) × State) q =>
      let (c, s) := acc.2.candidate x credits q
      match c with
      | none => (acc.1, s)
      | some c => (acc.1 ++ [(q, c)], s)) ([], s)
    let s := r.2
    let f (c : Nat × Nat × QEntry) : BitVec 48 := (s.dp.classTag.get (8 * x + c.1)).f
    match r.1.foldl (fun b c => match b with
        | none => some c
        | some d => if tagLt (f c) (f d) then some c else some d) none with
    | some c => (some c, s)
    | none =>
      let (c, s) := s.selectFlow x 6 credits
      (c.map fun c => (6, c), s)

/-- Tags and shaper as a message of flow f in class q is sent (R169, R173). -/
def State.sentTags (s : State) (x q k : Nat) (e : QEntry) : State :=
  let s := if q = 2 ∨ q = 3 ∨ q = 4 ∨ q = 5 ∨ q = 7 then
      let t := s.dp.classTag.get (8 * x + q)
      { s with dp.v0 := s.dp.v0.set x t.f, dp.classTag := s.dp.classTag.set (8 * x + q) ⟨t.f, t.f⟩ }
    else s
  if ¬ flowClass q then s
  else
    let key := flowKey x q e.flow
    let t := s.dp.flows.get key
    let next := (((s.queue x q).eraseIdx k).find? fun d => d.flow == e.flow).map (·.cost)
    let fin := match next with
      | some c => t.f + tagDist (s.flowWeight x q e.flow) c
      | none => t.f
    let s := { s with dp.v := s.dp.v.set (8 * x + q) t.f, dp.flows := s.dp.flows.set key ⟨t.f, fin⟩ }
    let charge (st : MeterState) : MeterState := st.charge (s.bank.meters.get e.flow) x e.cost s.sys.ft
    if s.isShaped q e.flow then { s with tab.meterState := s.tab.meterState.upd e.flow charge } else s

/-! ### Sending -/

/-- Count a message sent (R416, R422). -/
def State.countTx (s : State) (x q units : Nat) : State :=
  let s := s.count (pointCtr x (8 + q) (8 + q))
  { s with obs.bandwidth := s.obs.bandwidth.upd x (·.add false q (16 * units)) }

/-- What follows once an entry has left its queue: its record, its transaction and its attached writeback. -/
def State.entryGone (s : State) (x : Nat) (e : QEntry) : State :=
  let s := s.releaseRec e.record
  match e.txn with
  | none => s
  | some i =>
    let s := if 64 ≤ x then s.passOrdering i else s
    if e.final then s.freeTxn i
    else match e.note with
      | none => s
      | some k => (s.updTxn i fun t =>
          { t with attached := t.attached.modify k fun a => { a with outstanding := 0 } }).wake i

/-- Does a message carry an address: every request and BISnp, and every CXL.io and CXL.cache message (R276)? -/
def carriesAddr (cls op : Nat) : Bool := decide (cls < 2) || cls == 3 || decide (5 ≤ cls) || decide (0x10 ≤ op ∧ op < 0x20)

/-- The fields that a message has on the link of point x: a message without an address unit carries none of its fields
(R277), and an edge port carries no trunk field. -/
def linkMsg (x cls : Nat) (m : Msg) : Msg :=
  let m : Msg := if carriesAddr cls m.op.toNat then m
    else { m with addr := 0, tenant := 0, gen := 0, attr := 0, metaField := .noOp, metaValue := .invalid, snpType := .noOp }
  if 64 ≤ x then { m with vppb := none }
  else { m with tenant := 0, gen := 0, attr := 0, originRank := 0, originPort := 0, colour := .green, grant := 0
                attached := false, hostTag := 0, vppb := none }

/-- A message that a gate held to its guard is on the link until its guard time ends (R176). -/
def State.noteSending (s : State) (x q units : Nat) : State :=
  let (g, nx) := s.gateList x
  if q < 2 ∨ (closeTime g nx q 1030 s.sys.ft).isNone then s
  else { s with dp.sending := s.dp.sending.set x (s.sys.ft + s.guardTime x units) }

/-- The rate or width of point x falls: a message picked with its guard fitting is still sent whole, and counted (R176, R178). -/
def State.linkSlows (s : State) (x : Nat) : State :=
  if s.sys.ft < s.dp.sending.get x then s.count (pointCtr x 27 33) else s

/-- Put a message on the link. -/
def State.onLink (s : State) (x q : Nat) (m : Msg) (cls units : Nat) (txn : Option Nat) : State :=
  let s := s.countTx x q units
  let s := if x < 64 then s.focusSlot x (if m.poison then 3 else 0) units else s
  let s := if x < 64 ∧ m.poison then s.countPort x 36 else s
  let m := linkMsg x cls m
  if 64 ≤ x then s.packMsg (x - 64) ⟨cls, m, txn⟩
  else match m.vector with
    | some v => s.emit (.msix x v)
    | none => s.emit (.msg x q cls m)

/-- A read of host memory for a queue pair is on its way (R187). -/
def State.askSent (s : State) (e : QEntry) : State :=
  let mark (kind : WqRead) (a : Option HostAsk) : Option HostAsk :=
    a.map fun a => if a.kind = kind then { a with sent := true } else a
  match e.ask with
  | none => s
  | some (q, kind) => { s with wq.qps := s.wq.qps.upd q fun k => { k with ask := mark kind k.ask, askOwn := mark kind k.askOwn } }

/-- Send a picked message, or discard it (R22, R76, R82, R136). -/
def State.sendPicked (s : State) (x q k : Nat) (e : QEntry) (fault : RecordFault) : State :=
  let s := ((s.sentTags x q k e).noteSending x q e.units).dequeueAt x q k
  let staleGen := match e.gen with
    | some (n, g) => s.tab.gens.get n != g
    | none => false
  if staleGen then ((s.countPort x 21).lostSlot x).entryGone x e
  else
    let crc := fault == .dataCrc || fault == .headerCrc
    let bad := fault != .none && e.record.isSome
    let ingress := match e.record.bind s.dp.recs.get with
      | some r => r.ingress
      | none => 0
    let s := if ¬ bad then s
      else if crc then (s.countGlobal 68).log 0x010B 2 [(1, ingress), (1, x), (1, b2n (fault == .headerCrc))]
      else (s.countGlobal 67).log 0x010A 2 [(1, 67), (4, e.record.getD 0)]
    if bad ∧ (fault = .headerParity ∨ fault = .headerCrc) then
      match e.txn with
      | none => (s.lostSlot x).releaseRec e.record
      | some i =>
        if e.final then
          let t := s.txn i
          let s := match t.errorAnswer with
            | some (m, u) => s.onLink x q m e.cls u none
            | none => s
          s.entryGone x e
        else ((s.lostSlot x).releaseRec e.record).failSent i
    else
      let m := if bad then { e.msg with poison := true } else e.msg
      ((s.onLink x q m e.cls e.units e.txn).askSent e).entryGone x e

/-- The egress skips the void entries of a queue (R82): their records are released, and a flow whose head was void takes the tag
of its new head. Answers whether there was one. -/
def State.skipVoid (s : State) (x q : Nat) : Bool × State :=
  let l := s.queue x q
  let gone := l.filter (·.void)
  if gone.isEmpty then (false, s)
  else
    let keep := l.filter fun e => !e.void
    let heads := (flowHeads l).filter fun h => flowClass q && h.2.void
    let s := { s with dp.queues := s.dp.queues.set (8 * x + q) keep, dp.freed := true }
    let s := heads.foldl (fun s h =>
      match keep.find? fun e => e.flow == h.2.flow with
      | none => s
      | some e => { s with dp.flows := s.dp.flows.upd (flowKey x q e.flow) fun t =>
          { t with f := t.s + tagDist (s.flowWeight x q e.flow) e.cost } }) s
    (true, gone.foldl (fun s e => s.releaseRec e.record) s)

/-- The void entries of point x go. -/
def State.skipVoids (s : State) (x : Nat) : Bool × State :=
  (List.range 8).foldl (fun acc q =>
    let r := acc.2.skipVoid x q
    (acc.1 || r.1, r.2)) (false, s)

/-- The slot of a point for which nothing was picked (R423): a void entry was discarded in it, credit alone held a message, or
nothing was eligible. -/
def State.emptySlot (s : State) (x : Nat) (credits : BitVec 12) (voided : Bool) : State :=
  let held := s.dp.queues.cells.any fun c => c.1 / 8 == x && c.2.any fun e => !s.creditOk x credits e
  s.focusSlot x (if voided then 2 else if held then 5 else 4) 0

/-- The scheduler runs once at point x (R173, R274, R295), unless a trunk's replay buffer is full (R280). -/
def State.egressPick (s : State) (x : Nat) (credits : BitVec 12) (fault : RecordFault) : State :=
  if ¬ s.pointUp x ∨ 64 ≤ x ∧ 1536 ≤ (s.trunk (x - 64)).outstanding then s
  else
    match (if 64 ≤ x then (s.trunk (x - 64)).resend else []) with
    | m :: rest =>
      if (s.trunk (x - 64)).creditsFor m.cls m.msg then
        let s := (s.updTrunk (x - 64) fun t => { t with resend := rest }).packMsg (x - 64) m
        if rest.isEmpty then s.planBack ((x - 64) ^^^ 1) else s
      else if (s.trunk (x - 64)).openFlit.isEmpty then s.focusSlot x 5 0
      else s.closeFlit (x - 64)
    | [] =>
      let s : State := if x < 64 then { s with dp.credits := s.dp.credits.set x credits.toNat } else s
      let (voided, s) := s.skipVoids x
      let (c, s) := s.pickEntry x credits
      match c with
      | some (q, k, e) => s.sendPicked x q k e fault
      | none =>
        if 64 ≤ x ∧ ¬ (s.trunk (x - 64)).openFlit.isEmpty then s.closeFlit (x - 64) else s.emptySlot x credits voided

/-- A gate list entry boundary is reached (R175): fabric time reaches it, and a pending list takes over at its time. -/
def State.gateBoundary (s : State) (x : Nat) : State :=
  let (g, nx) := s.gateList x
  match nextGate (listAt g nx s.sys.ft) nx s.sys.ft with
  | none => s
  | some b =>
    let s := s.advanceTo b
    match nx with
    | some (w, l) => if w ≤ s.sys.ft then
        { s with dp.gateNow := s.dp.gateNow.set x l, dp.gateNext := s.dp.gateNext.set x none } else s
    | none => s

/-- The refresher refills every valid tenant's meter and shaper (R165). -/
def State.meterRefresh (s : State) : State :=
  (s.bank.tenants.find fun _ t => t.valid).foldl (fun s n =>
    let m := s.bank.meters.get n
    { s with tab.meterState := s.tab.meterState.upd n fun st => (st.refill m s.sys.ft).shape m s.sys.ft }) s

/-- A Hazel pass, an audit period after the last one (R86). It stops in SAFE (R411). -/
def State.hazelPass (s : State) : State :=
  if s.sys.mode = .safe ∨ s.sys.mode = .reset then s
  else
    let s := s.advanceTo (s.dp.lastHazel + s.tab.dirParam.hazelMs * 1000000)
    let marked := s.markedCells
    let cells := (s.dp.cells.keys ++ marked.filter fun c => !s.dp.cells.keys.contains c).mergeSort.eraseDups
    let s := { s with dp.lastHazel := s.sys.ft }
    cells.foldl (fun s c => s.hazelCell marked c) s

end Sys2Proof.Machine
end

