-- ==== Sys2Proof/Machine/TrunkPhy.lean ====
section
/-! DEFINITION. Trunk bring-up (R257 to R262), leaving ACTIVE and failover (R263, R294 to R299), lane quality and sparing
(R267 to R269). -/

namespace Sys2Proof.Machine

/-- Parameters of trunk t. -/
def State.trunkParam (s : State) (t : Nat) : TrunkParam := s.trk.params.get t

/-- Modes in which bring-up starts (R257). -/
def State.bringUpMode (s : State) : Bool :=
  s.sys.mode == .service || s.sys.mode == .degraded || s.sys.mode == .handover || s.sys.mode == .drain

/-- Does trunk x's partner trunk of the pair run ACTIVE? -/
def State.mateActive (s : State) (t : Nat) : Bool := (s.trunk (t ^^^ 1)).phase == .active

/-- Bring-up starts from LOCK (R257), unless the die-to-die link of the trunk I/O die is lost (R406). -/
def State.startTrunk (s : State) (t : Nat) : State :=
  if ¬ s.bringUpMode ∨ ¬ (s.trunkParam t).enable ∨ s.sys.dieLost.toNat.testBit 4 then s
  else s.updTrunk t fun k =>
    { k with phase := .lock, locked := 0, remeasured := false, retrying := false, acked := false, answerInit := false,
             rxSkip := 8, txSkip := 8, sparing := none, lanes := List.replicate 9 {}, spare := 3, txClock := none }

/-- An attempt fails (R257): the trunk waits RETRY_DELAY. -/
def State.failAttempt (s : State) (t reason : Nat) : State :=
  s.updTrunk t fun k => { k with phase := .off, holdReason := reason, retrying := true }

/-- Trunk t is held with a reason, logged once until a later attempt succeeds (R262). -/
def State.holdTrunk (s : State) (t reason : Nat) : State :=
  let k := s.trunk t
  let s := if k.logged = reason then s
    else s.log 0x0403 1 [(1, t), (1, reason), (6, k.partnerId.toNat)]
  s.updTrunk t fun k => { k with phase := .held, holdReason := reason, retrying := true, logged := reason }

/-! ### LOCK and MEASURE -/

/-- A receive lane locks (R257). In compatibility mode the transmitters move to the clock of the lowest locked lane (R256). -/
def State.laneLocked (s : State) (t n : Nat) : State :=
  let k := s.trunk t
  if k.phase = .off ∨ k.phase = .held then s
  else
    let l := k.locked ||| BitVec.ofNat 9 (2 ^ n)
    s.updTrunk t fun k =>
      { k with locked := l, phase := if k.phase = .lock ∧ l = 0x1FF then .measure else k.phase
               txClock := if (s.trunkParam t).compat then (List.range 9).find? l.toNat.testBit else none }

/-- LOCK_TIMEOUT expires (R257). -/
def State.lockTimeout (s : State) (t : Nat) : State :=
  let k := s.trunk t
  if k.phase ≠ .lock then s
  else if (if (s.trunkParam t).compat then 1 else 8) ≤ popcount k.locked.toNat 9 then
    s.updTrunk t fun k => { k with phase := .measure }
  else s.failAttempt t 1

/-- Errors per 10⁹ bits: (errors × 10⁹, bits) compared as fractions with a limit. -/
def ratePasses (errors kbits limit : Nat) : Bool := decide (errors * 1000000000 ≤ limit * (kbits * 1024))

/-- QUALITY of lane n (R267): 0 NO_LOCK, 1 FAIL, 2 MARGINAL, 3 GOOD. -/
def State.laneQuality (s : State) (t n : Nat) : Nat :=
  let k := s.trunk t
  let p := s.trunkParam t
  let q := k.lanes.getD n {}
  let idle := k.phase != .active || n == k.rxSkip
  let e := if idle then q.prbsErrors.toNat else q.fecCorr.toNat
  let b := if idle then q.prbsKbits.toNat else q.fecKbits
  if ¬ k.locked.toNat.testBit n then 0
  else if decide (e * 1000000000 * 10 ≤ p.acceptPpb * (b * 1024)) then 3
  else if ratePasses e b p.acceptPpb then 2
  else 1

/-- The idle lane's window decides SPARE (R268, R269). -/
def State.setSpare (s : State) (t : Nat) : State :=
  if (s.trunkParam t).compat ∨ (s.trunk t).sparing.isSome then s
  else s.updTrunk t fun k => { k with spare := if 2 ≤ s.laneQuality t k.rxSkip then 0 else 1 }

/-- A measurement window ends (R257, R258): at bring-up it chooses SKIP and announces it (R260 step 1); in service it measures the
idle lane. -/
def State.measWindow (s : State) (t : Nat) (errors : List Nat) (kbits : U32) : State :=
  let k := s.trunk t
  let p := s.trunkParam t
  if k.phase = .measure then
    let s := s.updTrunk t fun k =>
      { k with lanes := k.lanes.zipIdx.map fun q =>
          { q.1 with prbsErrors := BitVec.ofNat 32 (errors.getD q.2 0), prbsKbits := kbits } }
    let fails (n : Nat) : Bool :=
      !k.locked.toNat.testBit n || !ratePasses (errors.getD n 0) kbits.toNat p.acceptPpb
    let bad := (List.range 9).filter fails
    let announce (skip : Nat) : State :=
      State.emit ((s.updTrunk t fun k => { k with phase := .announce, rxSkip := skip }).setSpare t)
        (.flit t 16 (annGroup skip true false p.compat p.rate))
    if p.compat then (if bad.any (· < 8) then s.failAttempt t 2 else announce 8)
    else match bad with
      | [] => announce 8
      | [n] => announce n
      | _ => s.failAttempt t 2
  else if k.phase = .active ∧ ¬ p.compat then
    let n := k.rxSkip
    State.setSpare (s.updTrunk t fun k =>
      { k with lanes := k.lanes.modify n fun q =>
          { q with prbsErrors := BitVec.ofNat 32 (errors.getD n 0), prbsKbits := kbits } }) t
  else s

/-! ### ANNOUNCE and INIT -/

/-- A LANE_ANN group (R259, R260, R270). An end still in LOCK or MEASURE ends its window and answers
MEASURED = 0. How far PRBS31 has run, and the level of each lane, as flits start are free values (DESIGN CHOICE, log entry 87). -/
def State.laneAnn (s : State) (t : Nat) (b : LaneAnnBlock) : State :=
  let k := s.trunk t
  let p := s.trunkParam t
  if b.lanesAgreeing < 5 then s
  else if k.phase = .lock ∨ k.phase = .measure then s.emit (.flit t 16 (annGroup k.rxSkip false false p.compat p.rate))
  else if k.phase = .announce then
    if ¬ b.measured then
      (if k.remeasured then s
       else State.emit (State.emit (s.updTrunk t fun k => { k with remeasured := true }) (.flit t 17 []))
         (.flit t 16 (annGroup k.rxSkip true false p.compat p.rate)))
    else if b.rate.toNat ≠ p.rate ∨ b.compat ≠ p.compat then s.failAttempt t 5
    else
      let (n, s) := s.free
      let (v, s) := s.free
      let s := s.updTrunk t fun k =>
        { k with phase := .init, txSkip := b.rxSkip.toNat, acked := false, flitBits := 0, sinceFiller := 0, prbsStart := n
                 levels := (List.range 9).map fun i => field v (2 * i) 2 }
      (((s.emit (.flit t 16 (annGroup k.rxSkip true true p.compat p.rate))).advertise t).sendInit t)
  else s

/-- The first check of R262 that an INIT fails. -/
def State.initFails (s : State) (t : Nat) (f : InitFields) : Option Nat :=
  let p := s.trunkParam t
  let mate := s.trunk (t ^^^ 1)
  if f.version.toNat ≠ (if p.compat then 1 else 2) then some 4
  else if f.rate.toNat ≠ p.rate ∨ f.compat ≠ p.compat then some 5
  else if p.compat ∧ f.partnerCy640 then some 9
  else if f.provisionedId = Config.provisionedId then some 6
  else if (p.expectId ≠ 0 ∧ p.expectId ≠ f.provisionedId.toNat)
      ∨ (f.rankValid ∧ p.expectRank.isSome ∧ p.expectRank ≠ some f.rank.toNat) then some 7
  else if f.trunk.toNat % 2 ≠ t % 2 ∨ (mate.phase = .active ∧ mate.partnerId ≠ f.provisionedId) then some 8
  else none

/-- Decide anew after a trunk has come up or a resend has gone (R293, R298). -/
def State.resumePair (s : State) (t : Nat) : State :=
  let s := s.planBack t
  let m := t ^^^ 1
  let s := if (s.trunk m).resync ∧ (s.trunk m).move = 0 ∧ (s.trunk m).phase = .active ∧ (s.trunk t).phase = .active
    then s.planMove m else s
  s.planBack m

/-- The trunk enters ACTIVE (R262, R280, R288, R298, R299). -/
def State.enterActive (s : State) (t : Nat) (f : InitFields) : State :=
  let s := s.updTrunk t fun k =>
    { k with
      phase := .active, retrying := false, holdReason := 0, logged := 0, answerInit := true, retired := false
      resync := false, retAt := s.sys.ft, retDue := 0, next := 0, oldest := 0, replay := [], openFlit := [], expiries := 0, expect := 0
      accepted := false, nakOut := false, nakDue := false, sinceAck := 0, ackDue := false, ctl := [], steerTo := none
      lim := (List.range 8).map fun i => f.credits.getD i 0, used := List.replicate 8 0
      advertised := (List.range 8).map fun i => f.credits.getD i 0 }
  let s := s.log 0x0401 0 [(1, t), (1, 0), (6, f.provisionedId.toNat)]
  ({ s with dp.freed := true }).resumePair t

/-- A received INIT (R262). -/
def State.initFlit (s : State) (t : Nat) (f : InitFields) : State :=
  let k := s.trunk t
  if ¬ f.crcOk then s
  else if k.phase = .active then
    (if k.answerInit then s.sendInit t else s)
  else if k.phase ≠ .init then s
  else
    let s := s.updTrunk t fun k =>
      { k with partnerId := f.provisionedId, partnerRank := f.rank, partnerRankValid := f.rankValid,
               partnerTrunk := f.trunk }
    match s.initFails t f with
    | some r => s.holdTrunk t r
    | none =>
      let si := s.bank.setInfo
      let s := if f.version = 2 ∧ ¬ k.acked
          ∧ (f.setId.toNat ≠ si.setId ∨ f.versionMajor.toNat < si.compatMin) then
          (s.countTrunk t 39).log 0x040A 1 [(1, t), (2, f.setId.toNat), (1, f.versionMajor.toNat)]
        else s
      let s := (s.updTrunk t fun k => { k with acked := true }).sendInit t
      if f.acked then s.enterActive t f else s

/-- INIT_TIMEOUT of an end in INIT (R262). A resynchronisation that ends so is a trunk failure (R293, R299). -/
def State.initTimeout (s : State) (t : Nat) : State :=
  if (s.trunk t).phase ≠ .init then s
  else if (s.trunk t).resync then
    let s := s.log 0x0402 1 [(1, t), (1, 0x17), (6, (s.trunk t).partnerId.toNat)]
    State.freezeMaskable ((s.failAttempt t 3).updTrunk t fun k => { k with resync := false, retired := (s.trunkParam t).enable }) 5
  else s.failAttempt t 3

/-- RETRY_DELAY expires (R257). -/
def State.retryDelay (s : State) (t : Nat) : State :=
  if (s.trunk t).retrying then s.startTrunk t else s

/-! ### Leaving ACTIVE -/

/-- Ranks that only a lost pair reached: requests waiting on them end, and their snoops count as timed out (R297). -/
def State.pairLost (s : State) (t : Nat) : State :=
  let pair := [64 + t, 64 + (t ^^^ 1)]
  let waiting := s.dp.txns.find fun _ x =>
    (x.state == .waitRsp) && (x.wait == .remote || x.wait == .response) && pair.contains x.sentTo
      && decide (x.got < x.expect)
  let s := waiting.foldl (fun s i => (s.updTxn i fun x => { x with got := x.got + 1, errSeen := true }).wake i) s
  let rank := (s.trunk t).partnerRank.toNat
  let recs := s.dp.conflicts.find fun _ c =>
    c.valid && !c.answered && ((s.tab.bank (s.txn c.txn).bank).sharers.get c.slot).rank == rank
      && ((s.tab.bank (s.txn c.txn).bank).sharers.get c.slot).rank != s.rank
  let s := recs.foldl (fun s r =>
    let c := s.dp.conflicts.get r
    let s := { s with dp.conflicts := s.dp.conflicts.set r { c with sent := false } }
    let s := s.flagSlot (s.txn c.txn) c.slot
    s.wake c.txn) s
  let s := (s.flushPoint (64 + t)).flushPoint (64 + (t ^^^ 1))
  [t, t ^^^ 1].foldl (fun s k => s.updTrunk k fun r =>
    { r with move := 0, fenceOn := none, replay := [], openFlit := [], resend := [], ctl := [], resync := false }) s

/-- Messages of the replay buffer that follow LAST_SEQ, or all of them (R295). -/
def Trunk.unaccepted (t : Trunk) (last : BitVec 12) (any : Bool) : List TrunkMsg :=
  ((t.replay.filter fun f => f.type == 2 && (!any || decide ((f.seq - last - 1).toNat < 2048))).flatMap (·.msgs))

/-- Trunk x leaves ACTIVE with a reason of R472 (R263, R294 to R299). -/
def State.leaveActive (s : State) (x reason : Nat) : State :=
  let k := s.trunk x
  if k.phase ≠ .active then s
  else
    let y := x ^^^ 1
    let s := s.closeFlit x
    let s := s.log 0x0402 1 [(1, x), (1, reason), (6, k.partnerId.toNat)]
    let k := s.trunk x
    -- an open flit that the full replay buffer held back is kept as its last flit
    let s := s.updTrunk x fun r =>
      { r with phase := .off, retired := (s.trunkParam x).enable, resync := false, sparing := none,
               replay := r.replay ++ (if r.openFlit.isEmpty then [] else [{ seq := r.next, type := 2, msgs := r.openFlit }])
               openFlit := [], ctl := [] }
    let s := if (s.trunkParam x).enable then s.freezeMaskable 5 else s
    let s := if s.mateActive x then
        let s := s.countTrunk x 29
        let s := s.moveQueues x y
        let s := s.updTrunk x fun r => { r with move := 2, fenceOn := none }
        s.sendCtl y 7 [pack [(8, 2), (12, (k.expect - 1).toNat), (1, b2n k.accepted)]]
      else s.pairLost x
    s.startTrunk x

/-- No flit with a good CRC for 1 µs (R263). -/
def State.trunkSilent (s : State) (t : Nat) : State := s.leaveActive t 0x10

/-- A LANE_ANN group arrives: an end in ACTIVE has met a SYNC pattern (R263). -/
def State.laneAnnIn (s : State) (t : Nat) (b : LaneAnnBlock) : State :=
  if 5 ≤ b.lanesAgreeing ∧ (s.trunk t).phase = .active then s.leaveActive t 0x11 else s.laneAnn t b

/-- The FAILOVER report of the partner end (R295): `last`, `any` are what it accepted on x; y carries the report. -/
def State.failoverReport (s : State) (y : Nat) (last : BitVec 12) (any : Bool) : State :=
  let x := y ^^^ 1
  let k := s.trunk x
  if k.move ≠ 2 then s
  else
    let ms := k.unaccepted last any
    let s := s.updTrunk x fun r => { r with move := 1, replay := [] }
    let s := s.updTrunk y fun r => { r with resend := r.resend ++ ms }
    let s := s.count (trunkCtr x 30) ms.length
    let s := s.log 0x0406 1 [(1, x), (2, last.toNat), (1, b2n any), (4, ms.length), (4, 0)]
    State.resumePair { s with dp.freed := true } y

/-- FAILOVER_WAIT passes without a report (R296). -/
def State.failoverWait (s : State) (x : Nat) : State :=
  let k := s.trunk x
  if k.move ≠ 2 then s
  else
    let ms := k.unaccepted 0 false
    let s := s.updTrunk x fun r => { r with move := 1, replay := [] }
    let s := s.count (trunkCtr x 31) ms.length
    let s := s.log 0x0406 1 [(1, x), (2, 0), (1, 0), (4, 0), (4, ms.length)]
    let s := (ms.filterMap (·.txn)).foldl (fun s i =>
      let t := s.txn i
      if t.state = .waitRsp ∧ (t.wait = .remote ∨ t.wait = .response) ∧ t.got < t.expect then
        (s.updTxn i fun t => { t with got := t.got + 1, errSeen := true }).wake i
      else s) s
    State.resumePair { s with dp.freed := true } (x ^^^ 1)

/-! ### Sparing -/

/-- The error rate of a lane as (errors × 10⁹, bits); a lane without lock is worse than any. -/
def State.laneRate (s : State) (t n : Nat) : Nat × Nat :=
  let k := s.trunk t
  let q := k.lanes.getD n {}
  if ¬ k.locked.toNat.testBit n then (1, 0)
  else if n = k.rxSkip then (q.prbsErrors.toNat * 1000000000, q.prbsKbits.toNat * 1024)
  else (q.fecCorr.toNat * 1000000000, q.fecKbits * 1024)

/-- Rate a is lower than rate b. -/
def rateLt (a b : Nat × Nat) : Bool := decide (a.1 * b.2 < b.1 * a.2) || (a.2 != 0 && b.2 == 0)

/-- A rate as a 32-bit number of errors per 10⁹ bits. -/
def rateWord (r : Nat × Nat) : Nat := if r.2 = 0 then 0xFFFFFFFF else Nat.min (r.1 / r.2) 0xFFFFFFFF

/-- Lane p is due for sparing (R268, R269). -/
def State.spareLane (s : State) (t p : Nat) : State :=
  let k := s.trunk t
  let idle := k.rxSkip
  let a := s.laneRate t idle
  let b := s.laneRate t p
  if k.sparing.isSome ∨ (s.trunkParam t).compat then s
  else if 2 ≤ s.laneQuality t idle ∧ rateLt a b then
    (s.updTrunk t fun k => { k with spare := 2, sparing := some p }).sendCtl t 3 [pack [(8, 1), (4, p)]]
  else
    ((s.updTrunk t fun k => { k with spare := 1 }).countTrunk t 36).log 0x0405 1
      [(1, t), (1, idle), (1, p), (4, rateWord a), (4, rateWord b)]

/-- The receiver switches to the new lane map (R269). -/
def State.switchMap (s : State) (t : Nat) : State :=
  let k := s.trunk t
  match k.sparing with
  | none => s
  | some p =>
    let a := s.laneRate t k.rxSkip
    let b := s.laneRate t p
    ((s.updTrunk t fun r => { r with rxSkip := p, sparing := none }).countTrunk t 35).log 0x0404 0
      [(1, t), (1, k.rxSkip), (1, p), (4, rateWord a), (4, rateWord b)]

/-- Kilobits that lane n carried in a quality interval (R267): all of the interval's, but for the lane that came into service in
its course. -/
def carried (joined : Option (Fin 9 × U32)) (kbits : U32) (n : Nat) : U32 :=
  match joined with
  | some (m, b) => if m.val = n then b else kbits
  | none => kbits

/-- A quality interval ends (R266 to R268): the active lanes' corrected symbols over the bits that each carried; the idle lane keeps
its last window (R266). -/
def State.qualityInterval (s : State) (t : Nat) (corrected : List Nat) (joined : Option (Fin 9 × U32)) (kbits : U32) : State :=
  let k := s.trunk t
  let p := s.trunkParam t
  if k.phase ≠ .active then s
  else
    let s := s.updTrunk t fun k =>
      { k with lanes := k.lanes.zipIdx.map fun q =>
          if q.2 = k.rxSkip then { q.1 with fecCorr := 0, fecKbits := 0, bad := 0 }
          else
            let e := corrected.getD q.2 0
            let b := (carried joined kbits q.2).toNat
            { q.1 with fecCorr := BitVec.ofNat 32 e, fecKbits := b
                       bad := if ratePasses e b p.sparePpb then 0 else q.1.bad + 1 } }
    let due := (List.range 9).filter fun n => n != k.rxSkip && decide (3 ≤ ((s.trunk t).lanes.getD n {}).bad)
    let worst := due.foldl (fun b n => match b with
      | none => some n
      | some m => if rateLt (s.laneRate t m) (s.laneRate t n) then some n else some m) none
    match worst with
    | none => s
    | some n => s.spareLane t n

/-- A receive lane loses lock (R268, R263). -/
def State.laneLost (s : State) (t n : Nat) : State :=
  let k := s.trunk t
  let l := k.locked &&& ~~~ BitVec.ofNat 9 (2 ^ n)
  let s := s.updTrunk t fun k => { k with locked := l }
  if k.phase ≠ .active then s
  else if (s.trunkParam t).compat then s.leaveActive t 0x12
  else if n = k.rxSkip then s.updTrunk t fun k => { k with spare := 1 }
  else
    let lost := (List.range 9).filter fun i => i != k.rxSkip && !l.toNat.testBit i
    if 2 ≤ lost.length then s.leaveActive t 0x12 else s.spareLane t n

end Sys2Proof.Machine
end

