-- ==== Sys2Proof/Machine/EdgePorts.lean ====
section
/-! DEFINITION. Edge ports (spec/11): link up and down with the effects of the port's role, lanes and L0p, hot reset, DPC,
IDE failures, Viral, PERST and the start of ports (R401), pool members (R241, R242), binding (R239). -/

namespace Sys2Proof.Machine

/-- Number of a role (R235). -/
def roleNo : Role → Nat
  | .disabled => 0 | .host => 1 | .poolMember => 2 | .bound => 3 | .unbound => 4

/-- Bindings of port p: (host port, vPPB, LD-ID). -/
def State.bindingsOf (s : State) (p : Nat) : List (Nat × Nat × Nat) :=
  s.edge.binds.cells.filterMap fun c => match c.2 with
    | some (q, ld) => if q = p then some (c.1 / 32, c.1 % 32, ld) else none
    | none => none

/-- Tell the hosts of port p's vPPBs. Kinds: 0 Presence Detect Changed, 1 Data Link Layer State Changed, 4 Viral, 5 the
outstanding CXL.io non-posted requests through the vPPB complete with Unsupported Request, 6 DPC triggered, 7 managed
removal asked for. -/
def State.notifyVppbs (s : State) (p kind : Nat) (args : List Nat) : State :=
  (s.bindingsOf p).foldl (fun s b => s.emit (.notify b.1 kind (b.2.1 :: args))) s

/-! ### DPC (R246) -/

/-- Set DPC_TRIGGERED of port p. -/
def State.setDpc (s : State) (p cause : Nat) : State :=
  if (s.port p).dpc then s
  else
    let s := s.updPort p fun k => { k with dpc := true, training := false }
    let s := (s.countPort p 32).log 0x0305 2 [(1, p), (4, cause)]
    if (s.port p).role = .bound then s.notifyVppbs p 6 [cause] else s

/-! ### Link down (R84, R221, R238, R246, R250) -/

/-- Queue pairs of host port p stop as R198 states. -/
def State.stopPortQueues (s : State) (p : Nat) : State :=
  (s.wq.qps.find fun _ k => k.hostPort == p).foldl (fun s q => s.stopLinkDown q) s

/-- The HDM decoders that a host programs are reset with the function that carries them (R236, R238). -/
def State.clearHdms (s : State) (p : Nat) : State :=
  { s with edge.hdms := (List.range 8).foldl (fun t d => t.set (8 * p + d) {}) s.edge.hdms }

/-- The functions of a VCS are reset, and so are the devices bound into it (R238). Kinds: 2 hot reset of an SLD, 3 reset of
an LD, 8 the configuration of the VCS functions is reset. -/
def State.resetVcs (s : State) (p : Nat) : State :=
  let s := ((s.emit (.notify p 8 [])).clearHdms p).updPort p fun k => { k with busMaster := false, maxPayload := 128 }
  s.edge.binds.cells.foldl (fun s c => match c.2 with
    | some (q, ld) =>
      if c.1 / 32 ≠ p then s
      else
        let s := s.updPort q fun k => { k with hostPower := true, pwrInd := 0, atnInd := 0 }
        if (s.port q).mld then s.emit (.notify q 3 [ld]) else s.emit (.notify q 2 [])
    | none => s) s

/-- IDE key slots of port p at 8 × port + 4 × stream + 2 × direction + set (R434). -/
def ideKey (k : IdeSlot) : Nat := 8 * k.port.val + 4 * b2n k.pcie + 2 * b2n k.tx + b2n k.set1

/-- A port's IDE slots are cleared (R435). -/
def State.clearIde (s : State) (p : Nat) : State :=
  { s with mgmt.keys := (List.range 8).foldl (fun t i => t.set (8 * p + i) {}) s.mgmt.keys }

/-- What a port's data plane does as its link goes down (R51, R79, R84, R113). -/
def State.dropLink (s : State) (p cause : Nat) : State :=
  let k := s.port p
  let s := s.log 0x0302 1 [(1, p), (1, k.rate), (1, k.width), (1, k.flit), (1, cause)]
  let s := s.updPort p fun k =>
    { k with dlUp := false, widthNow := 0, widthDegraded := false, ide := 0, ideDiscard := false
             memberReady := false, memEnable := false, cfgAllowed := false }
  let s := ((s.clearIde p).flushPoint p).endPortWaits p
  let s := if k.role = .host then s.endPortSnoops p else s
  { s with dp.freed := true }

/-- The walk of R222 on port p: the member counts as retired from now on. -/
def State.loseMember (s : State) (p : Nat) : State :=
  let s := (s.updPort p fun k => { k with memberLost := true }).tileWalk p
  s.freezeMaskable 5

/-- The link of port p goes down, if it was up, with its cause of R472; `gone` says that the slot lost its power or its
card, after which a pool member is walked even if its link was not up (R243, R251). -/
def State.linkLost (s : State) (p cause : Nat) (gone : Bool) : State :=
  let k := s.port p
  let was := k.dlUp
  if ¬ was ∧ ¬ gone then s
  else
    let s := if was then s.dropLink p cause else s
    let s := if gone then s.updPort p fun k => { k with training := false, perst := true } else s
    match k.role with
    | .host => if was then (s.resetVcs p).stopPortQueues p else s
    | .poolMember =>
      let s := if was ∧ cause ≠ 3 then s.setDpc p 1 else s
      s.loseMember p
    | .unbound => if was ∧ cause ≠ 3 then s.setDpc p 1 else s
    | .bound =>
      let s := if was then (s.notifyVppbs p 5 []).notifyVppbs p 1 [0] else s
      if cause = 1 then s.notifyVppbs p 0 [0] else s
    | .disabled => s

/-- Causes of LINK_DOWN (R472). -/
def downNo : DownCause → Nat
  | .partner => 0 | .removal => 1 | .slotPower => 2 | .dpc => 3 | .ide => 4 | .hotReset => 5 | .retrain => 6

/-- Causes of DPC_TRIGGER (R472). -/
def dpcNo : DpcCause → Nat
  | .fatal => 0 | .linkDown => 1 | .ide => 2 | .viral => 3 | .hostEnabled => 4

/-- DPC triggers on a downstream port (R246). No host enables a trigger of a POOL_MEMBER or UNBOUND port. -/
def State.dpcTrigger (s : State) (p cause : Nat) : State :=
  let k := s.port p
  let s := if cause = 0 ∧ k.role ≠ .disabled then s.countPort p 34 else s
  match k.role with
  | .poolMember => if k.dpc ∨ cause = 4 then s else ((s.setDpc p cause).linkLost p 3 false)
  | .unbound => if k.dpc ∨ cause = 4 then s else ((s.setDpc p cause).linkLost p 3 false)
  | .bound => if k.dpc then s else ((s.setDpc p cause).linkLost p 3 false)
  | .host => s
  | .disabled => s

/-- A port that DPC no longer holds down: it retrains at once where its card is present and powered (R246). -/
def PortState.released (k : PortState) : PortState :=
  let up := k.present && k.slotPg
  { k with dpc := false, training := up, perst := k.perst && !up }

/-- The DPC trigger status of port p is cleared: by Bolroth, or on a BOUND port by its host (R246). -/
def State.dpcClear (s : State) (p : Nat) : State :=
  let k := s.port p
  if ¬ k.dpc ∨ (k.role ≠ .bound ∧ ¬ s.bolrothRuns) then s
  else s.updPort p PortState.released

/-- An integrity check fails (R244). -/
def State.ideFail (s : State) (p : Nat) (pcie : Bool) : State :=
  let k := s.port p
  if ¬ k.dlUp then s
  else
    let s := (s.countPort p 30).log 0x0304 2 [(1, p), (4, b2n pcie)]
    if k.role = .host then s.linkLost p 4 false else s.dpcTrigger p 2

/-- Viral is received (R247). -/
def State.viralIn (s : State) (p : Nat) : State :=
  match (s.port p).role with
  | .poolMember => (s.updPort p fun k => { k with viral := true }).dpcTrigger p 3
  | .unbound => (s.updPort p fun k => { k with viral := true }).dpcTrigger p 3
  | .bound => (s.updPort p fun k => { k with viral := true }).notifyVppbs p 4 []
  | _ => s

/-! ### Link up (R229 to R233, R249) -/

/-- The mode lets ports train: SERVICE has been entered since the last reset (R400). -/
def State.portsRun (s : State) : Bool := s.sys.served && s.sys.mode != .reset && s.sys.mode != .prepare

/-- The widest power-of-two width within n lanes. -/
def pow2Width (n : Nat) : Nat := ([16, 8, 4, 2].find? fun w => decide (w ≤ n)).getD 1

/-- The widest power-of-two width that the port's configured width and the partner both support (R229). -/
def trainedWidth (p : PortParam) (l : LinkTrained) : Nat := pow2Width (Nat.min l.width.toNat p.width)

/-- Lanes `base` to `base + w - 1`. -/
def laneRun (base w : Nat) : List Nat := (List.range w).map (base + ·)

/-- The run of lanes that a port falls back to (R230): the widest of x8, x4, x2 and x1 all of whose lanes work, from the lowest of
the port's `n` lanes or, by lane reversal, up to the highest. -/
def fallbackRun (n : Nat) (working : List Nat) : Option (List Nat) :=
  ([8, 4, 2, 1].filter fun w => decide (w ≤ n)).findSome? fun w =>
    [laneRun 0 w, laneRun (n - w) w].find? fun r => r.all (working.contains ·)

/-- Flit mode (R232): the latency-optimised format only without IDE. -/
def trainedFlit (p : PortParam) (l : LinkTrained) : Nat :=
  if l.flit = 3 ∧ (p.ideRequired ∨ p.ideMode ≠ 0) then 2 else l.flit.toNat

/-- The highest rate that the port's configuration, the partner and the flit mode allow: 32 GT/s without 256 B flits (R231, R232). -/
def trainedRate (p : PortParam) (l : LinkTrained) : Nat :=
  Nat.min (Nat.min l.rate.toNat p.maxRate) (if 2 ≤ trainedFlit p l then 5 else 4)

/-- IDE of PORT_STATUS after link-up: keys pending where the port runs IDE (R235, R244). -/
def idleIde (p : PortParam) : Nat := if p.ideRequired ∨ p.ideMode ≠ 0 then 1 else 0

/-- Queue an Add Capacity event (R20, R32): DPA tile, length in tiles, SHARE_ID, the shared flag and the first translation
entry. -/
def State.addCapacity (s : State) (p : Nat) (e : Extent) : State :=
  s.poolEvent p 4 1 [e.dpa, e.count, e.shareId, b2n e.shared, e.tt]

/-- At a host port's DL_UP after a warm reset, the pool view queues the events that waited for it, and their add timeouts
run (R404). -/
def State.queueAdds (s : State) (p : Nat) : State :=
  let pv := s.edge.pools.get p
  let due := s.sys.ft + s.tab.ident.addS * 1000000000
  let pv' : PoolView := { pv with adds := pv.adds.map fun a => { a with due := a.due.or (some due) } }
  let t : State := { s with edge.pools := s.edge.pools.set p pv' }
  (pv.adds.filter (·.due.isNone)).foldl (fun s a => s.addCapacity p a.extent) t

/-- The data link of port p comes up (R249), unless the die-to-die link of its die is lost (R406). -/
def State.linkUpEvent (s : State) (p : Nat) (l : LinkTrained) : State :=
  let k := s.port p
  let c := s.param p
  if k.dlUp ∨ ¬ k.training ∨ k.dpc ∨ k.role = .disabled ∨ ¬ s.portsRun ∨ s.sys.dieLost.toNat.testBit (p / 16) then s
  else
    let w := trainedWidth c l
    let fl := trainedFlit c l
    let rate := trainedRate c l
    let s := s.updPort p fun k =>
      { k with dlUp := true, rate := rate, width := w, widthNow := w, flit := fl, ide := idleIde c, widthDegraded := false
               lanes := laneRun 0 w, lanesUp := laneRun 0 w, scaledFc := l.scaledFc
               mld := l.mld && c.mld && (k.role == .bound || k.role == .unbound), upAt := s.sys.ft, cfgAllowed := false
               viral := false, decBase := if k.role = .host then c.decBaseTile else 0
               decTilesM1 := if k.role = .host then c.decTilesM1 else 0, decValid := k.role == .host }
    let s := { s with dp.freed := true }
    let s := if k.role = .host then s.queueAdds p else s
    s.log 0x0301 0 [(1, p), (1, rate), (1, w), (1, fl), (1, 0)]

/-- 100 ms after DL_UP, configuration requests are allowed (R249). -/
def State.configAllowed (s : State) (p : Nat) : State :=
  let k := s.port p
  if ¬ k.dlUp ∨ k.cfgAllowed then s
  else
    let s := s.advanceTo (k.upAt + 100000000)
    let s := s.updPort p fun k => { k with cfgAllowed := true }
    if k.role = .bound then s.notifyVppbs p 1 [1] else s

/-- A lane of the link in L0 fails (R230): the link goes on in the widest run of working lanes, or goes down where none is left.
A lane that the link does not use is not in L0, and its failure changes nothing. -/
def State.laneFailure (s : State) (p lane : Nat) : State :=
  let k := s.port p
  if ¬ k.dlUp ∨ lane ∉ k.lanes then s
  else
    let up := k.lanesUp.erase lane
    match fallbackRun (s.param p).width up with
    | none => s.linkLost p 0 false
    | some r =>
      let w := r.length
      let s := if w < k.widthNow then s.linkSlows p else s
      let s := s.updPort p fun k =>
        { k with width := w, widthNow := Nat.min w k.widthNow, lanes := r, lanesUp := up, widthDegraded := true }
      (s.countPort p 28).log 0x0303 1 [(1, p), (4, w)]

/-- A partner's L0p request (R231), in 256 B flit mode. -/
def State.l0pRequest (s : State) (p width : Nat) : State :=
  let k := s.port p
  let c := s.param p
  let least := if c.l0pMin = 0 then c.width else c.l0pMin
  if k.dlUp ∧ 2 ≤ k.flit ∧ least ≤ width ∧ width ≤ k.width ∧ pow2Width width = width then
    (if width < k.widthNow then s.linkSlows p else s).updPort p fun k => { k with widthNow := width }
  else s

/-- A hot reset of a host port (R238): the link stays up; translation entries, extents and bindings stay. -/
def State.hotResetPort (s : State) (p : Nat) : State :=
  if (s.port p).role = .host ∧ (s.port p).dlUp then s.resetVcs p else s

/-! ### The start of ports (R249, R400, R401) -/

/-- PERST_DELAY after the later of SLOT_PG and SERVICE_START (R249, R401): PERST_N deasserts and training starts. -/
def State.perstDelay (s : State) (p : Nat) : State :=
  let k := s.port p
  if ¬ k.slotPg ∨ ¬ k.perst ∨ k.dpc ∨ ¬ s.portsRun ∨ s.sys.mode = .safe then s
  else if k.role = .poolMember ∨ ((k.role = .bound ∨ k.role = .unbound) ∧ s.edge.hostPortsStarted) then
    let s := s.advanceTo ((s.slots.chans.get p).pgAt + (s.param p).perstDelayMs * 1000000)
    s.updPort p fun k => { k with perst := false, training := true }
  else s

/-- LINK_UP_TIMEOUT passes without DL_UP (R249). -/
def State.linkUpTimeout (s : State) (p : Nat) : State :=
  let k := s.port p
  let c := s.param p
  if k.dlUp ∨ ¬ k.training ∨ k.role = .host ∨ k.role = .disabled ∨ ¬ k.slotPg then s
  else
    let s := s.advanceTo ((s.slots.chans.get p).pgAt + (c.perstDelayMs + c.linkUpTimeoutMs) * 1000000)
    let s := s.updPort p fun k => { k with perst := true, training := false, memberFailed := true }
    s.log 0x030A 2 [(1, p), (8, 0)]

/-- Has every present pool member become ready or failed (R401)? -/
def State.membersSettled (s : State) : Bool :=
  (s.edge.ports.find fun _ k => k.role == .poolMember && k.present).all fun p =>
    (s.port p).memberReady || (s.port p).memberFailed

/-- Ports that hosts see start training (R401 step 3): those with PERST_N deasserted at once. -/
def State.hostPortStart (s : State) : State :=
  match s.sys.hostStartDue with
  | none => s
  | some due =>
    if s.edge.hostPortsStarted ∨ ¬ s.portsRun then s
    else
      let s := if s.membersSettled then s else s.advanceTo due
      let s := { s with edge.hostPortsStarted := true }
      (s.edge.ports.find fun _ k => k.role == .host || k.role == .bound || k.role == .unbound).foldl (fun s p =>
        s.updPort p fun k => { k with training := k.role == .host || (!k.perst && k.slotPg) }) s

/-- The highest DPA tile that any home tile map entry names for port p, plus one (R242). -/
def State.neededTiles (s : State) (p : Nat) : Nat :=
  s.tab.ht.cells.foldl (fun n c =>
    let n := if c.2.pPort = p then Nat.max n (c.2.pTile + 1) else n
    if c.2.mirrored ∧ c.2.mPort = p then Nat.max n (c.2.mTile + 1) else n) 0

/-- Member set-up (R241, R242). -/
def State.memberSetup (s : State) (p : Nat) (m : MemberInfo) : State :=
  let k := s.port p
  let c := s.param p
  if k.role ≠ .poolMember ∨ ¬ k.dlUp ∨ k.memberReady ∨ ¬ s.bolrothRuns then s
  else
    let s := s.configAllowed p
    let s := s.updPort p fun k => { k with dsn := m.dsn, capacity := m.capacityTiles }
    let fail (s : State) (type : U16) (expected : Nat) : State :=
      (s.updPort p fun k => { k with memberFailed := true }).log type 2 [(1, p), (8, expected)]
    if ¬ m.memoryActive then fail s 0x0309 0
    else
      let s := s.updPort p fun k => { k with memEnable := true }
      if c.expectedDsn ≠ 0 ∧ c.expectedDsn ≠ m.dsn then fail s 0x0307 c.expectedDsn.toNat
      else if m.capacityTiles < s.neededTiles p then fail s 0x0308 (s.neededTiles p)
      else { s.updPort p fun k => { k with memberReady := true, memberFailed := false } with dp.freed := true }

/-! ### Slot control of a BOUND port (R248, R317, R319) -/

/-- A host writes Slot Control of the vPPB that holds port p. -/
def State.slotControl (s : State) (p : Nat) (powerOn : Bool) (pwr atn : BitVec 2) : State :=
  if (s.port p).role = .bound then
    s.updPort p fun k => { k with hostPower := powerOn, pwrInd := pwr, atnInd := atn }
  else s

/-! ### Binding (R239, R240) -/

/-- Does a bind of (host port, vPPB) to (port, LD) return STATE_CONFLICT? -/
def State.bindRefused (s : State) (vcs v p : Nat) (ld : Option Nat) : Bool :=
  let k := s.port p
  let others := s.bindingsOf p
  let roleOk := k.role == .unbound || (k.role == .bound && (s.param p).mld && k.mld)
  let ldOk := match ld with
    | none => others.isEmpty && !(k.dlUp && k.mld)
    | some n => k.mld && !(others.any fun b => b.2.2 == n)
  v == 0 || (s.port vcs).role != .host || decide ((s.param vcs).vppbCount ≤ v)
    || (s.edge.binds.get (32 * vcs + v)).isSome || !roleOk || !ldOk

/-- Bind: the port becomes BOUND and FM_ON of its channel is set (R239, R317). Power Controller Control of a vPPB that nothing has
written reads On, so that a hot-add goes on (R251; PCIe 6.1's 0b is PRESUMED, log entry 35). -/
def State.bind (s : State) (vcs v p : Nat) (ld : Option Nat) : State :=
  let s := { s with
    edge.binds := s.edge.binds.set (32 * vcs + v) (some (p, ld.getD 0))
    slots.chans := s.slots.chans.upd p fun c => { c with fmOn := true } }
  let s := s.updPort p fun k => { k with role := .bound, hostPower := k.hostPower || k.role == .unbound }
  let s := s.emit (.notify vcs 0 [v, 1])
  if (s.port p).cfgAllowed then s.emit (.notify vcs 1 [v, 1]) else s

/-- Unbind vPPB v of VCS `vcs`: with its last binding the port becomes UNBOUND, and its DPC status is cleared (R239, R251).
-/
def State.unbind (s : State) (vcs v : Nat) : State :=
  match s.edge.binds.get (32 * vcs + v) with
  | none => s
  | some (p, _) =>
    let s := s.emit (.notify vcs 5 [v])
    let s := (s.emit (.notify vcs 1 [v, 0])).emit (.notify vcs 0 [v, 0])
    let s := s.endVppbWaits p vcs v
    let s := { s with edge.binds := s.edge.binds.set (32 * vcs + v) none }
    let s := if (s.port p).dpc then s.updPort p PortState.released else s
    if (s.bindingsOf p).isEmpty then s.updPort p fun k => { k with role := .unbound, hostPower := false } else s

/-- An unbind that waits for link down ends as the link goes down (R239). -/
def State.endUnbinds (s : State) : State :=
  (s.mgmt.running.filter (·.started)).foldl (fun s r => match r.instr with
    | .unbindVppb _ vcs v _ =>
      (match s.edge.binds.get (32 * vcs.val + v.val) with
      | some (p, _) => if (s.port p).dlUp then s else (s.unbind vcs.val v.val).complete r.ticket rcSuccess []
      | none => s.complete r.ticket rcSuccess [])
    | _ => s) s

end Sys2Proof.Machine
end

