-- ==== Sys2Proof/Machine/SlotPower.lean ====
section
/-! DEFINITION. The slot-power channels (spec/14): requests, seating, ramps, trips and retries, power-good, removal, the
pins of R319, energy (R331) and the breaker counters (R323). Between events a channel's measurement stays what the last
event's sample was (DESIGN CHOICE, log entry 34). -/

namespace Sys2Proof.Machine

/-- Channel n. -/
def State.chan (s : State) (n : Nat) : Channel := s.slots.chans.get n
/-- Change channel n. -/
def State.updChan (s : State) (n : Nat) (f : Channel → Channel) : State := { s with slots.chans := s.slots.chans.upd n f }
/-- Parameters of channel n. -/
def State.slotParam (s : State) (n : Nat) : SlotParam := s.slots.params.get n

/-- Bits of a channel's STATE (R332). -/
def slotNo : SlotState → Nat
  | .idle => 0 | .seating => 1 | .seated => 2 | .ramp => 3 | .on => 4 | .stopping => 5 | .cooldown => 6 | .latched => 7

/-- A current in mA as a shunt code (R315). -/
def shuntCode (p : SlotParam) (ma : Nat) : Nat := ma * p.shunt / 625

/-- Does channel n take part (R311)? -/
def State.slotTakesPart (s : State) (n : Nat) : Bool :=
  (s.slotParam n).enable && ((s.chan n).role == .poolMember || (s.chan n).role == .bound || (s.chan n).role == .unbound)

/-- REQ (R317). -/
def State.slotReq (s : State) (n : Nat) : Bool :=
  s.slotTakesPart n && (s.chan n).fmOn && ((s.chan n).role != .bound || (s.port n).hostPower)

/-- Is VIN in [VIN_UV_MV, VIN_OV_MV]? Its code counts quarters of a millivolt (R330). -/
def vinOk (p : SlotParam) (vin : U16) : Bool := decide (4 * p.vinUv ≤ vin.toNat) && decide (vin.toNat ≤ 4 * p.vinOv)

/-- Does the mode allow a ramp (R333)? -/
def State.rampMode (s : State) : Bool :=
  !(s.sys.mode == .reset || s.sys.mode == .prepare || s.sys.mode == .safe) && !s.sys.dieLost.toNat.testBit 5

/-- The conditions of SEATED to RAMP (R318). -/
def State.rampOk (s : State) (n : Nat) : Bool := s.slotReq n && vinOk (s.slotParam n) (s.chan n).vin && s.rampMode

/-- Take a sample into the channel (R330). -/
def State.sampleSlot (s : State) (n : Nat) (m : SlotSample) : State :=
  s.updChan n fun c =>
    { c with current := m.current, vin := m.vin, vout := m.vout, limiting := m.limiting, gateOk := m.gateOk
             faultTicks := m.faultTicks }

/-- I_SET in mA, from the VIN and VOUT of the tick just ended (R320); their codes count quarters of a millivolt. -/
def iSetOf (p : SlotParam) (c : Channel) : Nat :=
  Nat.min p.iLimit (4000 * p.pLimit / Nat.max (c.vin.toNat - c.vout.toNat) 1000)

/-- Start a ramp. -/
def State.startRamp (s : State) (n : Nat) : State :=
  s.updChan n fun c =>
    { c with state := .ramp, faultTicks := 0, breaker := List.replicate 8 0, cooled := false, waitVin := false
             timer := s.sys.ft + (s.slotParam n).rampTimeout * 1000000 }

/-- Turn the gate off: PG clears and PERST_N is asserted. -/
def Channel.gateOff (c : Channel) (st : SlotState) : Channel :=
  { c with state := st, pg := false, limiting := false, gateOk := false, faultTicks := 0, breaker := List.replicate 8 0 }

/-- Record a trip or a removal in SLOT_FAULT, count and log it (R325, R328). -/
def State.recordTrip (s : State) (n causes point onTime : Nat) : State :=
  let c := s.chan n
  let o := Nat.min (onTime / 10) 65535
  let s := s.updChan n fun c =>
    { c with fault := c.fault ||| BitVec.ofNat 9 causes, tripI := c.current, tripVout := c.vout, onTime := BitVec.ofNat 16 o
             point := if causes.testBit 2 then BitVec.ofNat 3 point else c.point }
  let s := (s.countTrip n).log 0x0306 2
    [(1, n), (2, causes), (1, point), (2, c.current.toNat), (2, c.vout.toNat), (2, o)]
  s.freezeMaskable 7

/-- A trip of channel n (R325, R326). -/
def State.slotTrip (s : State) (n : Nat) (m : SlotSample) (cause point : Nat) (limit : Option Nat) : State :=
  let s := s.sampleSlot n m
  let c := s.chan n
  let p := s.slotParam n
  let causes := m.causes.toNat ||| 2 ^ cause
  let onTime := limit.getD m.faultTicks
  let volt := causes.testBit 5 || causes.testBit 6
  let req := s.slotReq n
  let counts := req && !volt
  let retries := p.autoRetry && decide (c.retry.toNat < p.retryMax)
  let cools := volt || !req || retries
  let wasOn := c.state = .on
  let s := s.recordTrip n causes point onTime
  let s := s.updChan n fun c =>
    { c.gateOff (if cools then .cooldown else .latched) with
      retry := if counts && retries then c.retry + 1 else c.retry
      waitVin := volt, cooled := false
      timer := s.sys.ft + Nat.max (p.cooldownMin * 1000000) (10 * onTime * 1000) }
  if wasOn then s.linkLost n 2 true else s

/-- Trip channel n if it is in one of the given states and the trip's condition holds. -/
def State.tripIf (s : State) (n : Nat) (m : SlotSample) (cause point : Nat) (limit : Option Nat) (states : List SlotState)
    (cond : Bool) : State :=
  if states.contains (s.chan n).state ∧ cond then s.slotTrip n m cause point limit else s

/-- SHORT_IN_RAMP (R321). -/
def State.slotShort (s : State) (n : Nat) (m : SlotSample) : State :=
  s.tripIf n m 0 0 (some (s.slotParam n).rampFault) [.ramp] true

/-- CURRENT_LIMIT (R321). -/
def State.slotLimit (s : State) (n : Nat) (m : SlotSample) : State :=
  s.tripIf n m 1 0 (some (s.slotParam n).onFault) [.on] true

/-- RAMP_TIMEOUT (R321). -/
def State.slotRampTimeout (s : State) (n : Nat) (m : SlotSample) : State :=
  let s := if (s.chan n).state = .ramp then s.advanceTo (s.chan n).timer else s
  s.tripIf n m 4 0 none [.ramp] true

/-- BREAKER at a point (R323): the tick's current is at or above the point's. -/
def State.slotBreaker (s : State) (n point : Nat) (m : SlotSample) : State :=
  let p := s.slotParam n
  s.tripIf n m 2 point none [.on] (decide (shuntCode p (p.curve.getD point (0, 0)).1 ≤ m.current.toNat))

/-- FAST_TRIP (R323), in every state with the gate driven. -/
def State.slotFast (s : State) (n : Nat) (m : SlotSample) : State := s.tripIf n m 3 0 none [.ramp, .on, .stopping] true

/-- UNDERVOLTAGE (R324). -/
def State.slotUnder (s : State) (n : Nat) (m : SlotSample) : State :=
  s.tripIf n m 5 0 none [.ramp, .on] (decide (m.vin.toNat < 4 * (s.slotParam n).vinUv))

/-- OVERVOLTAGE (R324). -/
def State.slotOver (s : State) (n : Nat) (m : SlotSample) : State :=
  s.tripIf n m 6 0 none [.ramp, .on] (decide (4 * (s.slotParam n).vinOv < m.vin.toNat))

/-- CHANNEL_FAULT (R324). -/
def State.slotChannelFault (s : State) (n : Nat) (m : SlotSample) : State :=
  s.tripIf n m 8 0 none [.ramp, .on, .stopping] true

/-! ### Seating and removal -/

/-- PRSNT_N_n goes low (R318). -/
def State.prsntLow (s : State) (n : Nat) : State := s.updChan n fun c => { c with prsntLow := true }

/-- PRSNT_N_n has been low for SEAT_DEBOUNCE_MS (R316, R317). -/
def State.seatDebounce (s : State) (n : Nat) : State :=
  let c := s.chan n
  if c.state ≠ .seating ∨ ¬ c.prsntLow then s
  else
    let s := (s.advanceTo c.timer).updChan n fun c =>
      { c with state := .seated, present := true
               fmOn := match c.role with
                 | .poolMember => (s.slotParam n).autoOn
                 | .unbound => false
                 | _ => c.fmOn }
    let s := s.updPort n fun k => { k with memberFailed := false }
    if c.role = .bound then s.notifyVppbs n 0 [1] else s

/-- What the removal of its card makes of channel n. -/
def State.slotGone (s : State) (n : Nat) (m : SlotSample) : State :=
  let c := s.chan n
  if c.state = .idle then s
  else if c.state = .ramp ∨ c.state = .on ∨ c.state = .stopping then
    let s := (s.sampleSlot n m).recordTrip n (m.causes.toNat ||| 0x80) 0 m.faultTicks
    (s.updChan n fun c => { c.gateOff .idle with present := false }).linkLost n 1 true
  else
    let s := s.updChan n fun c => { c.gateOff .idle with present := false }
    if c.present ∧ c.role = .bound then s.notifyVppbs n 0 [0] else s

/-- PRSNT_N_n has been high for REMOVE_FILTER_NS (R328). -/
def State.slotRemoved (s : State) (n : Nat) (m : SlotSample) : State :=
  (s.updChan n fun c => { c with prsntLow := false }).slotGone n m

/-! ### Power-good (R327) -/

/-- The power-good conditions have held for PG_FILTER_US. -/
def State.pgAssert (s : State) (n : Nat) (m : SlotSample) : State :=
  let c := s.chan n
  let cond := 19 * m.vin.toNat ≤ 20 * m.vout.toNat ∧ m.gateOk ∧ ¬ m.limiting
  if (c.state ≠ .ramp ∧ (c.state ≠ .on ∨ c.pg)) ∨ ¬ cond then s
  else (s.sampleSlot n m).updChan n fun c => { c with state := .on, pg := true, pgAt := s.sys.ft, faultTicks := 0 }

/-- VOUT stays below 90 % of VIN, or GATE_OK stays clear with LIMITING clear. -/
def State.pgDeassert (s : State) (n : Nat) (m : SlotSample) : State :=
  let c := s.chan n
  let cond := 10 * m.vout.toNat < 9 * m.vin.toNat ∨ (¬ m.gateOk ∧ ¬ m.limiting)
  if ¬ c.pg ∨ ¬ cond then s else (s.sampleSlot n m).updChan n fun c => { c with pg := false }

/-! ### Cool-down, PERST_LEAD and retries (R318, R326) -/

/-- The cool-down is over; after an UNDERVOLTAGE or OVERVOLTAGE trip only with VIN in its window. -/
def State.cooldownEnd (s : State) (n : Nat) (m : SlotSample) : State :=
  let c := s.chan n
  if c.state ≠ .cooldown ∨ c.cooled then s
  else
    let s := (s.advanceTo c.timer).sampleSlot n m
    if c.waitVin ∧ ¬ vinOk (s.slotParam n) m.vin then s else s.updChan n fun c => { c with cooled := true, waitVin := false }

/-- PERST_LEAD_US has passed: the gate is turned off. -/
def State.perstLead (s : State) (n : Nat) : State :=
  if (s.chan n).state ≠ .stopping then s
  else (s.advanceTo (s.chan n).timer).updChan n fun c => c.gateOff .seated

/-- PG has held for 1 s. -/
def State.retryReset (s : State) (n : Nat) : State :=
  let c := s.chan n
  if ¬ c.pg then s else (s.advanceTo (c.pgAt + 1000000000)).updChan n fun c => { c with retry := 0 }

/-! ### What each tick does -/

/-- Enter STOPPING: PG clears, PERST_N is asserted and the link goes down (R327, R329). -/
def State.stopSlot (s : State) (n : Nat) : State :=
  (s.updChan n fun c =>
    { c with state := .stopping, pg := false, timer := s.sys.ft + (s.slotParam n).perstLead * 1000 }).linkLost n 2 true

/-- The transitions of R318 that need no event of their own. -/
def State.moveSlot (s : State) (n : Nat) : State :=
  let c := s.chan n
  if ¬ s.slotTakesPart n then
    (if c.state = .idle ∧ ¬ c.present then s
     else
      let s := s.updChan n fun c => { c.gateOff .idle with present := false }
      if c.state = .on then s.linkLost n 2 true else s)
  else match c.state with
    | .idle =>
      if c.prsntLow then
        s.updChan n fun c => { c with state := .seating, timer := s.sys.ft + (s.slotParam n).debounce * 1000000 }
      else s
    | .seating => if c.prsntLow then s else s.updChan n fun c => { c with state := .idle }
    | .seated => if s.rampOk n then s.startRamp n else s
    | .ramp => if s.slotReq n then s else s.stopSlot n
    | .on => if s.slotReq n then s else s.stopSlot n
    | .cooldown =>
      if ¬ c.cooled then s
      else if ¬ s.slotReq n then s.updChan n fun c => { c with state := .seated, cooled := false }
      else if s.rampOk n then s.startRamp n else s
    | _ => s

/-- Slot Control's indicator encoding: 0b01 on, 0b10 blink, 0b11 off, as 0 off, 1 on, 2 blink. -/
def indOf (v : BitVec 2) : BitVec 2 := if v = 3 then 0 else v

/-- PWRIND_N and ATNIND_N by state (R319). -/
def slotInds : SlotState → BitVec 2 × BitVec 2
  | .ramp => (2, 0) | .on => (1, 0) | .stopping => (2, 0) | .cooldown => (2, 1) | .latched => (0, 1) | _ => (0, 0)

/-- GATE_n by state (R319). -/
def Channel.gateNow (c : Channel) : GateDrive :=
  match c.state with
  | .ramp => .regulated | .on => if c.limiting then .regulated else .enhanced | .stopping => .enhanced | _ => .held

/-- The pins of channel n, and PRESENT, SLOT_PG and PERST_N of its port (R235, R249, R319). -/
def State.slotPins (s : State) (n : Nat) : State :=
  let c := s.chan n
  let good := c.state == .on && c.pg
  let s := s.updPort n fun k =>
    if s.slotTakesPart n then { k with present := c.present, slotPg := c.pg, perst := k.perst || !good }
    else { k with present := false, slotPg := false, perst := true }
  let k := s.port n
  let i := if c.role = .bound then (indOf k.pwrInd, indOf k.atnInd) else slotInds c.state
  s.updChan n fun c =>
    { c with perstHigh := !k.perst, pwrInd := i.1, atnInd := i.2, gate := c.gateNow
             iSet := if c.state = .ramp ∨ c.state = .on then iSetOf (s.slotParam n) c else 0 }

/-- The port's role as the channel last saw it: the configuration's, once one is in force and the die's link is up. -/
def State.syncRole (s : State) (n : Nat) : State :=
  if s.tab.epoch ≠ 0 ∧ s.sys.mode ≠ .reset ∧ s.sys.mode ≠ .prepare then
    s.updChan n fun c => { c with role := (s.port n).role }
  else s

/-- Channel n after a command. -/
def State.settleSlot (s : State) (n : Nat) : State := (((s.syncRole n).moveSlot n).moveSlot n).slotPins n

/-- Breaker counters over t ticks of the same current (R323). -/
def breakerTicks (p : SlotParam) (current t : Nat) (l : List Nat) : List Nat :=
  l.zipIdx.map fun c =>
    let pt := p.curve.getD c.2 (0, 0)
    if shuntCode p pt.1 ≤ current then Nat.min (c.1 + 4 * t) (4 * pt.2) else c.1 - t

/-- One channel over t ticks of the control loop (R323, R331). -/
def Channel.ticks (c : Channel) (p : SlotParam) (t : Nat) : Channel :=
  let e := c.energy.toNat + t * (c.vout.toNat * c.current.toNat)
  { c with energy := BitVec.ofNat 80 e, energyWrap := c.energyWrap || decide (2 ^ 80 ≤ e)
           breaker := if c.state = .on then breakerTicks p c.current.toNat t c.breaker else c.breaker }

/-- The control loops up to the present fabric time. -/
def State.slotTicks (s : State) : State :=
  let now := s.sys.ft / 1000
  let t := now - s.slots.upTo
  if t = 0 then s
  else { s with
    slots.chans := s.slots.chans.keys.foldl (fun u n => u.upd n (·.ticks (s.slotParam n) t)) s.slots.chans
    slots.upTo := now }

/-- Every channel whose port or parameters are listed. -/
def State.settleSlots (s : State) : State :=
  ((s.slots.chans.keys ++ s.slots.params.keys).dedup).foldl (fun s n => s.settleSlot n) s

/-! ### Registers and commands (R329, R332) -/

/-- SLOT_STATUS. -/
def State.slotStatus (s : State) (n : Nat) : Nat :=
  let c := s.chan n
  pack [(4, slotNo c.state), (1, b2n c.present), (1, b2n c.pg), (1, b2n c.limiting), (1, b2n c.gateOk),
    (1, b2n (s.slotReq n)), (1, b2n c.fmOn), (1, b2n c.perstHigh), (2, c.pwrInd.toNat), (2, c.atnInd.toNat),
    (4, c.retry.toNat), (1, b2n c.energyWrap), (12, 0)]

/-- SLOT_MEAS (R330). -/
def Channel.meas (c : Channel) : Nat :=
  pack [(16, c.current.toNat), (16, c.vin.toNat), (16, c.vout.toNat), (16, c.vout.toNat * c.current.toNat / 65536)]

/-- SLOT_ENERGY (R331). -/
def Channel.energyWord (c : Channel) : Nat := c.energy.toNat / 65536

/-- SLOT_FAULT. -/
def Channel.faultWord (c : Channel) : Nat :=
  pack [(9, c.fault.toNat), (3, c.point.toNat), (4, 0), (16, c.tripI.toNat), (16, c.tripVout.toNat), (16, c.onTime.toNat)]

/-- STATE_CONFLICT naming a slot channel. -/
def State.slotConflict (s : State) (n : Nat) : CmdRes := conflict s 4 n (slotNo (s.chan n).state)

/-- SLOT_POWER_ON. -/
def State.cmdSlotPowerOn (s : State) (i : Instr) (h : CmdHdr) (n : Nat) : State :=
  s.command i h { opcode := 0xC401, len := 1, changes := true, object := some (4, n) } none fun s _ =>
    let c := s.chan n
    if ((s.port n).role = .bound ∧ c.fmOn) ∨ c.state = .idle ∨ c.state = .latched then s.slotConflict n
    else ok (s.updChan n fun c => { c with fmOn := true })

/-- Does a home tile map entry name the port in a state other than FREE or LOST (R243)? -/
def State.memberInUse (s : State) (p : Nat) : Bool :=
  s.tab.ht.cells.any fun c => c.2.state != .free && c.2.state != .lost
    && (c.2.pPort == p || (c.2.mirrored && c.2.mPort == p))

/-- SLOT_POWER_OFF. -/
def State.cmdSlotPowerOff (s : State) (i : Instr) (h : CmdHdr) (n : Nat) (force : Bool) : State :=
  s.command i h { opcode := 0xC402, len := 2, changes := true, object := some (4, n) } none fun s _ =>
    let role := (s.port n).role
    if ¬ force ∧ (role = .bound ∨ (role = .poolMember ∧ s.memberInUse n)) then s.slotConflict n
    else ok ((s.updChan n fun c => { c with fmOn := false }).settleSlot n)

/-- SLOT_CLEAR_FAULT. -/
def State.cmdSlotClearFault (s : State) (i : Instr) (h : CmdHdr) (n : Nat) : State :=
  s.command i h { opcode := 0xC403, len := 1, changes := true, object := some (4, n) } none fun s _ =>
    if (s.chan n).state ≠ .latched then s.slotConflict n
    else ok (s.updChan n fun c => { c with state := .seated, retry := 0 })

/-- SLOT_STATUS, SLOT_MEAS, SLOT_ENERGY and SLOT_FAULT of channel n. -/
def State.slotReport (s : State) (n : Nat) : List Byte :=
  let c := s.chan n
  leBytes (s.slotStatus n) 4 ++ leBytes c.meas 8 ++ leBytes c.energyWord 8 ++ leBytes c.faultWord 8

/-- SLOT_GET_STATUS. -/
def State.cmdSlotGetStatus (s : State) (i : Instr) (h : CmdHdr) (n : Nat) : State :=
  s.command i h { opcode := 0xC404, len := 1 } none fun s _ =>
    .done s.slotTicks rcSuccess (s.slotTicks.slotReport n)

end Sys2Proof.Machine
end

