-- ==== Sys2Proof/Machine/ConfigRules.lean ====
section
/-! DEFINITION. The checks of the owning chapters on a staged image (R383, steps 4 and 5): those of one record against
the switch, and those that span records. -/

namespace Sys2Proof.Machine

/-- Out of [lo, hi]. -/
def outside (v lo hi : Nat) : Bool := decide (v < lo) || decide (hi < v)

/-- The position, from 1, of the first value outside its range; 0 when all lie inside. -/
def firstOutside (l : List (Nat × Nat × Nat)) : Nat :=
  match l.findIdx? fun v => outside v.1 v.2.1 v.2.2 with
  | some i => i + 1
  | none => 0

/-! ### IDENTITY (R81, R354, R378) -/

/-- This switch's IDENTITY record. -/
def State.checkIdentity (s : State) (r : CfgRec) : Option CfgFail :=
  if r.key ≠ Config.provisionedId.toNat then none
  else
    let i := Ident.ofBody r.scope r.body
    let bad := firstOutside [(i.completionMs, 1, 256), (i.addS, 1, 600), (i.snoopUs, 100, 64000), (i.confirmS, 10, 3600)]
    let clash := (List.range 8).find? fun t =>
      (s.trunk t).phase == .active && (s.trunk t).partnerRankValid && (s.trunk t).partnerRank.toNat == r.scope
    firstFail [
      (i.route.getD r.scope 0 != 0xFF, r.fail 1),
      (bad != 0, r.fail (bad + 1)),
      (decide (i.completionMs * 1000 ≤ i.snoopUs), r.fail),
      (s.tab.ident.valid && r.scope != s.rank && s.sys.mode != .provision, r.fail 1),
      (clash.isSome, r.fail 2 rcConflict (some (5, clash.getD 0, 5)))]

/-! ### PORT (R19, R40, R70, R228, R234, R249, R379) -/

/-- Quads that a port of the given width covers. -/
def quadsOf (w : Nat) : Nat := Nat.max 1 (w / 4)

/-- Ingress classes that a role can receive (R43, R70). -/
def roleClasses : Role → List Nat
  | .host => [0, 1, 2, 3, 5, 6] | .poolMember => [4, 6] | .bound | .unbound => [4, 5, 6] | .disabled => []

/-- What a change of port p's role and decoder meets (R19, R40, R234). -/
def State.checkRole (s : State) (cur : Plan) (r : CfgRec) (p : Nat) (q : PortParam) : Option CfgFail :=
  let live := s.port p
  let old := (s.param p).role
  let obj : Option (Nat × Nat × Nat) := some (8, p, roleNo live.role)
  let tenants := cur.tenants.any fun t => t.entry.hostPort == p
  let named := s.tab.ht.cells.any fun c => c.2.pPort == p || (c.2.mirrored && c.2.mPort == p)
  let spans := s.bank.windows.cells.filter fun c => c.2.valid && c.2.hostPort == p
  let mapped := s.tab.tt.cells.any fun c =>
    c.2.state != .empty && spans.any fun w => decide (w.2.ttBase ≤ c.1) && decide (c.1 ≤ w.2.ttBase + w.2.tilesM1)
  let moved := old == .host && q.role == .host
    && ((s.param p).decBaseTile != q.decBaseTile || (s.param p).decTilesM1 != q.decTilesM1)
  firstFail [
    ((old == .host) != (q.role == .host) && tenants, r.fail 0 rcConflict obj),
    (old == .poolMember && q.role != .poolMember && named, r.fail 0 rcConflict obj),
    (live.role == .bound && q.role != .unbound, r.fail 0 rcConflict obj),
    (moved && (live.dlUp || mapped), r.fail 0 rcConflict obj)]

/-- A PORT record. A decoder range that would pass the 64-bit address space also fails, which the spec does not say (DESIGN CHOICE,
log entry 67). -/
def State.checkPort (s : State) (cur : Plan) (r : CfgRec) : Option CfgFail :=
  let q := PortParam.ofBody r.key r.body
  let n := leNat r.body
  if 64 ≤ r.key then
    let limits := [0, 1, 2, 3, 4, 6].any fun c => decide (q.cellLimit.getD c 0 < 32)
    firstFail [
      (!(zeroBits n 31 0 && zeroBits n 175 64 && zeroBits n 511 448), r.fail),
      (limits, r.fail 2 rcExhausted)]
  else
    let aligned := r.key % quadsOf q.width == 0 && decide (r.key + quadsOf q.width ≤ 64)
    let vppbOk := if q.role = .host then !outside q.vppbCount 1 32 else q.vppbCount == 0
    let decOk := q.role == .host || (q.decBaseTile == 0 && q.decTilesM1 == 0)
    let bad := firstOutside [(q.perstDelayMs, 100, 1000), (q.linkUpTimeoutMs, 100, 10000)]
    let small := (roleClasses q.role).any fun c => decide (q.cellLimit.getD c 0 < 32)
    let io := q.role != .disabled && decide (q.cellLimit.getD 6 0 < 34)
    match firstFail [
        (!aligned, r.fail 1),
        (!(vppbOk && decOk) || bad != 0 || decide (2 ^ 36 < q.decBaseTile + q.decTilesM1 + 1), r.fail 3)] with
    | some f => some f
    | none =>
      match s.checkRole cur r r.key q with
      | some f => some f
      | none => firstFail [(small, r.fail 2 rcExhausted), (io, r.fail 3 rcExhausted)]

/-! ### TENANT (R21, R23, R25, R41, R179, R201, R471) -/

/-- Is a translation entry of the tenant's current windows not EMPTY? -/
def State.tenantMapped (s : State) (n : Nat) : Bool :=
  let spans := s.bank.windows.cells.filter fun c => c.2.valid && c.2.tenant == n
  s.tab.tt.cells.any fun c =>
    c.2.state != .empty && spans.any fun w => decide (w.2.ttBase ≤ c.1) && decide (c.1 ≤ w.2.ttBase + w.2.tilesM1)

/-- Is every queue pair of the tenant DISABLED, with no QUEUE_ENABLE of one waiting? -/
def State.tenantQuiet (s : State) (n : Nat) : Bool :=
  s.wq.qps.cells.all fun c =>
    c.2.state == .unassigned || c.2.tenant != n || (c.2.state == .disabled && c.2.enabling.isNone)

/-- Is a transaction of an earlier generation of the tenant outstanding (R23)? -/
def State.oldGenTxn (s : State) (n : Nat) : Bool :=
  s.dp.txns.cells.any fun c =>
    c.2.state != .free && !c.2.noTenant && c.2.tenant == n && c.2.ingress < 64 && c.2.gen != s.tab.gens.get n

/-- What an unbinding or removal of tenant n meets (R23, R201, R471). -/
def State.checkLeaving (s : State) (r : CfgRec) (n : Nat) (valid : Bool) : Option CfgFail :=
  let obj : Option (Nat × Nat × Nat) := some (1, n, b2n valid)
  firstFail [
    (s.tenantMapped n, r.fail 0 rcConflict obj),
    (!s.tenantQuiet n, r.fail 0 rcQuiesce obj),
    (s.oldGenTxn n, r.fail 0 rcConflict obj)]

/-- A TENANT record. A window whose TENANT is not its record's tenant also fails, valid or not, which R25 does not list (DESIGN
CHOICE, log entry 69). -/
def State.checkTenant (s : State) (cur : Plan) (r : CfgRec) : Option CfgFail :=
  let t := TenantRec.ofRec r
  let old := cur.tenant t.number
  let valid := (old.map fun o => o.entry.valid).getD false
  let obj : Option (Nat × Nat × Nat) := some (1, t.number, b2n valid)
  let changed (f : TenantRec → Nat) : Bool := match old with
    | some o => f o != f t
    | none => false
  let badWindow := t.windows.find? fun w =>
    w.2.tenant != t.number || (w.2.valid && w.2.hostPort != t.entry.hostPort)
  let longWindow := t.windows.find? fun w => w.2.valid && decide (1048575 < w.2.ttBase + w.2.tilesM1)
  match firstFail [
      (changed fun o => o.entry.hostPort, r.fail 0 rcConflict obj),
      (decide (64 < t.entry.windowCount), r.fail (t.entry.windowFirst + 64) rcExhausted obj),
      (decide (16384 < t.entry.windowFirst + t.entry.windowCount), r.fail 16384 rcExhausted obj),
      (badWindow.isSome, r.fail ((badWindow.map (·.1)).getD 0) rcConflict obj),
      (longWindow.isSome, r.fail ((longWindow.map (·.1)).getD 0) rcConflict obj),
      (changed fun o => o.qpCount, r.fail 0 rcConflict obj)] with
  | some f => some f
  | none =>
    if old.isNone then firstFail [(s.oldGenTxn t.number, r.fail 0 rcConflict obj)]
    else if valid ∧ ¬ t.entry.valid then s.checkLeaving r t.number valid
    else none

/-! ### TILE_MAP (R31, R41, R210) -/

/-- Does a running job hold home tile n, as its subject or its donor? -/
def State.jobOn (s : State) (n : Nat) : Bool :=
  (s.wq.slots.cells.any fun c => c.2.valid && (c.2.srcTile == n
    || (c.2.dstTile == n && (c.2.jobType == 3 || (c.2.jobType == 1 && c.2.dstRank == s.rank)))))
    || s.wq.zeros.any (·.tile == n)

/-- Is home tile n lent to a running job? -/
def State.lentTile (s : State) (n : Nat) : Bool :=
  s.wq.slots.cells.any fun c =>
    c.2.valid && c.2.dstTile == n && (c.2.jobType == 3 || (c.2.jobType == 1 && c.2.dstRank == s.rank))

/-- An entry with its committed fields cleared: what R210 calls the live fields. -/
def HtEntry.live (e : HtEntry) : HtEntry := { e with attr := .priv, shareId := 0 }

/-- FREE to ACTIVE (R210). -/
def bringUp (v e : HtEntry) : Bool :=
  v.state == .free && e.state == .active && e.live == { v.live with state := .active } && !e.mirrored && !e.singleCopy
    && e.fwdRank == 0 && e.fwdTile == 0

/-- ACTIVE to FREE (R210), as far as the entry itself shows. -/
def takeDown (v e : HtEntry) : Bool :=
  v.state == .active && e.state == .free && !v.mirrored && e.live == { v.live with state := .free }

/-- New places for a FREE or LOST entry (R210). -/
def newPlace (v e : HtEntry) : Bool :=
  (v.state == .free || v.state == .lost) && e.state == v.state && !e.mirrored && !e.singleCopy
    && { e.live with pPort := v.pPort, pTile := v.pTile, mPort := v.mPort, mTile := v.mTile } == v.live

/-- Does a translation entry of this switch map home tile n of the given rank? -/
def State.mapsTile (s : State) (rank n : Nat) : Bool :=
  s.tab.tt.cells.any fun c => c.2.state != .empty && c.2.homeRank == rank && c.2.homeTile == n

/-- A home entry against its live values. `rank` is this switch's. -/
def State.homeBad (s : State) (first : Bool) (rank n : Nat) (e : HtEntry) : Bool :=
  let v := s.tile n
  if first then
    !(e.state == .free || e.state == .active || e.state == .lost) || e.singleCopy || e.migSlot != 0 || e.fwdRank != 0
      || e.fwdTile != 0 || (e.mirrored && e.mPort == e.pPort)
  else if v.state == .migrating || v.state == .zeroing || s.lentTile n then e != v
  else if e.live == v.live then false
  else !(bringUp v e || (takeDown v e && !s.mapsTile rank n && !s.jobOn n) || newPlace v e)

/-- Same grant: ATTR, SHARE_ID and tile. -/
def TtEntry.sameGrant (a b : TtEntry) : Bool :=
  a.attr == b.attr && a.shareId == b.shareId && a.homeRank == b.homeRank && a.homeTile == b.homeTile

/-- Has a switchover moved a tile from its home in v to that in e (R31, R215)? A home of this switch holds the new one in FWD; a home
of another switch is not seen from here, and its change is taken as a switchover's (DEDUCED, log entry 78). -/
def State.switched (s : State) (v e : TtEntry) : Bool :=
  let h := s.tile v.homeTile
  v.homeRank != s.rank || (h.state == .moved && h.fwdRank == e.homeRank && h.fwdTile == e.homeTile)

/-- A change of a translation entry that R31 refuses: a grant of another ATTR, SHARE_ID or tile to an entry that is not EMPTY, but
for a switchover's; a grant to a RELEASING entry that the current image does not hold. A PRIVATE entry's SHARE_ID is taken as it is
written (DESIGN CHOICE, log entry 71). -/
def State.entryBad (s : State) (cur : Plan) (n : Nat) (e : TtEntry) : Bool :=
  let v := s.tab.tt.get n
  if e.state ≠ .offered then false
  else match v.state with
    | .empty => false
    | .offered => !v.sameGrant e
    | .active => !(v.sameGrant { e with homeRank := v.homeRank, homeTile := v.homeTile } && (v.sameGrant e || s.switched v e))
    | .releasing => !(v.sameGrant e && cur.granted.any fun g => g.1 == n && g.2.sameGrant e)

/-- A TILE_MAP record. -/
def State.checkTiles (s : State) (cur : Plan) (rank : Nat) (r : CfgRec) : Option CfgFail :=
  let u := RunRec.ofRec r
  let first := cur.head.epoch == 0
  if u.home then
    let e := u.ht (u.count - 1)
    if 2 ^ 19 < u.first + u.count ∨ 2 ^ 24 ≤ e.pTile ∨ 2 ^ 24 ≤ e.mTile then some (r.fail 0 rcExhausted)
    else
      match (List.range u.count).find? fun i => s.homeBad first rank (u.first + i) (u.ht i) with
      | some i => some (r.fail (u.first + i) rcConflict (some (3, u.first + i, htNo (s.tile (u.first + i)).state)))
      | none => none
  else if 2 ^ 20 < u.first + u.count ∨ 2 ^ 19 ≤ (u.tt (u.count - 1)).homeTile then some (r.fail 0 rcExhausted)
  else
    match (List.range u.count).find? fun i => s.entryBad cur (u.first + i) (u.tt i) with
    | some i =>
      some (r.fail (u.first + i) rcConflict (some (0xB, u.first + i, ttNo (s.tab.tt.get (u.first + i)).state)))
    | none => none

/-! ### ACCESS_RULES (R146, R148, R155) -/

/-- Spaces of checker k (R138). -/
def checkerSpaces (k : Nat) : List Nat := if k < 64 then [0] else if k < 73 then [1] else if k < 76 then [1, 2, 3] else [2]

/-- Width of an address space (R141). -/
def spaceWidth : Nat → Nat
  | 0 => 64 | 1 => 51 | 2 => 34 | _ => 48

/-- An ACCESS_RULES record. -/
def State.checkRegion (s : State) (r : CfgRec) : Option CfgFail :=
  let k := r.key / 64
  let g := r.key % 64
  let e := Region.ofNat (leNat r.body)
  let bad :=
    if ¬ e.valid then 0
    else if ¬ (checkerSpaces k).contains e.space then 1
    else if e.base % 4096 ≠ 0 ∨ e.limit % 4096 ≠ 4095 ∨ e.limit < e.base ∨ 2 ^ spaceWidth e.space ≤ e.limit then 2
    else if e.rankMatch ∧ ¬ (64 ≤ k ∧ k < 72) then 3
    else if e.tenantMatch ∧ ¬ (64 ≤ k ∧ k < 73) then 4
    else 0
  firstFail [
    (s.regionLocked k g && e != s.bank.region k g, r.fail g rcLocked),
    (r.key == 64 * 76 && e != wiredRegion, r.fail g),
    (bad != 0, r.fail g)]

/-! ### GATE_LIST (R174, R177) -/

/-- The object of the R368 payload that an egress point is: an edge port or a trunk. -/
def State.pointObj (s : State) (x : Nat) : Nat × Nat × Nat :=
  if x < 64 then (8, x, roleNo (s.port x).role) else (5, x - 64, trunkPhaseNo (s.trunk (x - 64)).phase)

/-- A GATE_LIST record by itself (R174, R177). -/
def State.checkGates (s : State) (r : CfgRec) : Option CfgFail :=
  let g := GateList.ofBytes r.body
  if g.entries.isEmpty then none
  else firstFail [
    ((g.entries.map (·.2)).sum != g.cycleTime || outside g.cycleTime 1000 1000000000
      || g.entries.any fun e => decide (e.2 < 100), r.fail 1 rcConflict (some (s.pointObj r.key))),
    (g.entries.any fun e => !(e.1.testBit 0 && e.1.testBit 1), r.fail 2 rcConflict (some (s.pointObj r.key)))]

/-! ### RECIPE_BANK (R48, R49, R62, R63) -/

/-- Outcomes of a step kind and whether its PARAM is defined (R49). -/
def kindSpec (kind param : Nat) : Option (Nat × Bool) :=
  match kind with
  | 0x01 => some (3, param == 0) | 0x02 => some (3, param == 0) | 0x03 => some (4, param == 0)
  | 0x04 => some (4, decide (param ≤ 4)) | 0x05 => some (1, decide (param ≤ 3)) | 0x06 => some (2, decide (param ≤ 4))
  | 0x07 => some (4, decide (param ≤ 2))
  | 0x08 => some (if field param 0 4 = 4 then 3 else 2, decide (field param 0 4 ≤ 6) && field param 12 4 == 0)
  | 0x09 => some (2, field param 0 4 == 0 && field param 12 4 == 0)
  | 0x0A => some (2, param == 0) | 0x0B => some (2, decide (param ≤ 1)) | 0x0C => some (2, param == 0)
  | 0x0D => some (1, decide (param ≤ 1)) | 0x0E => some (1, field param 9 6 == 0)
  | 0x0F => some (0, decide (param ≤ 3)) | 0x10 => some (0, param == 0)
  | _ => none

/-- Branch slot j of a step word. -/
def slotOf (w : Nat) (j : Nat) : Nat := field w (6 + 5 * j) 5

/-- Do the branch slots of step i meet R48? -/
def slotsOk (w i n : Nat) : Bool :=
  (List.range 4).all fun j =>
    let v := slotOf w j
    if j < n then v == 16 || (decide (v < 16) && decide (i < v)) else v == 0

/-- Do two byte ranges meet? -/
def meets (a b : Nat × Nat) : Bool := decide (a.1 < b.1 + b.2) && decide (b.1 < a.1 + a.2)

/-- The position of the first check of R63 that a recipe set image fails; 0 when it passes. -/
def recipeFail (b : List Byte) : Nat :=
  let h := SetHead.ofBody b
  let parts := [(0, 64), (h.dispatchOff, 4096), (h.recipesOff, 128 * h.recipes), (h.signatureOff, 96)]
  let inside := decide (h.length ≤ b.length) && parts.all fun p => decide (p.1 + p.2 ≤ h.length)
  let apart := parts.zipIdx.all fun p => (parts.drop (p.2 + 1)).all fun q => !meets p.1 q
  let words := setSteps b h
  let step (i : Nat) : Nat := ((words.getD i (0, 0)).2).toNat
  let ids := List.range (16 * h.recipes)
  let kindOk := ids.all fun i =>
    field (step i) 0 6 == 0 || match kindSpec (field (step i) 0 6) (field (step i) 32 16) with
      | some (_, ok) => ok
      | none => false
  let outcomes (i : Nat) : Nat := match kindSpec (field (step i) 0 6) (field (step i) 32 16) with
    | some (n, _) => n
    | none => 0
  let branchOk := ids.all fun i => field (step i) 0 6 == 0 || slotsOk (step i) (i % 16) (outcomes i)
  let namedOk := ids.all fun i => field (step i) 0 6 == 0 || (List.range (outcomes i)).all fun j =>
    slotOf (step i) j == 16 || field (step (i - i % 16 + slotOf (step i) j)) 0 6 != 0
  let dispatchOk := (setDispatch b h).all fun d => !d.2.toNat.testBit 11 || decide (field d.2.toNat 0 11 < h.recipes)
  if !(inside && apart) then 1
  else if !Config.ecdsaP384 Config.recipeKey (b.take h.signatureOff)
      (BitVec.ofNat 768 (beNat ((b.drop h.signatureOff).take 96))) then 2
  else if !(h.setId == 1 || h.setId == 2) then 3
  else if !kindOk then 4
  else if !branchOk then 5
  else if !namedOk then 6
  else if !dispatchOk then 7
  else 0

/-! ### SLOT_POWER (R314, R315) -/

/-- A SLOT_POWER record. -/
def State.checkSlot (s : State) (r : CfgRec) : Option CfgFail :=
  let p := SlotParam.ofBody r.body
  let v (i : Nat) : Nat := leNat (sliceOf r.body (4 * i) 4)
  let old := s.slotParam r.key
  let busy := (s.chan r.key).state == .ramp || (s.chan r.key).state == .on || (s.chan r.key).state == .stopping
  let ranges := firstOutside [(v 0, 0, 1), (p.shunt, 100, 20000), (v 2, 0, 1), (p.pLimit, 1000, 100000),
    (p.rampFault, 1000, 200000), (p.onFault, 10, 100000), (p.rampTimeout, 10, 1000), (p.pgFilter, 1, 1000), (v 26, 0, 1),
    (p.retryMax, 1, 15), (p.cooldownMin, 10, 60000), (p.debounce, 20, 500), (p.removeNs, 200, 100000),
    (p.vinUv, 9000, 11500), (p.vinOv, 12500, 14000), (p.perstLead, 100, 100000)]
  let rises := (p.curve.zip p.curve.tail).all fun c => decide (c.1.1 < c.2.1) && decide (c.2.2 < c.1.2)
  let top := (p.curve.getD 7 (0, 0)).1
  let obj : Option (Nat × Nat × Nat) := some (4, r.key, slotNo (s.chan r.key).state)
  firstFail [
    (ranges != 0 || p.removeNs % 20 != 0, r.fail 1 rcConflict obj),
    (!rises, r.fail 2 rcConflict obj),
    (decide (p.iLimit < top) || decide (p.fastTrip ≤ p.iLimit), r.fail 3 rcConflict obj),
    (decide (65535 < shuntCode p p.fastTrip), r.fail 4 rcConflict obj),
    (decide (p.rampTimeout * 1000 ≤ p.rampFault) || decide (p.vinOv ≤ p.vinUv), r.fail 5 rcConflict obj),
    (busy && (p.shunt != old.shunt || (old.enable && !p.enable)), r.fail 7 rcConflict obj)]

/-! ### TRUNK (R264, R306) -/

/-- A TRUNK record. -/
def State.checkTrunk (s : State) (r : CfgRec) : Option CfgFail :=
  let p := TrunkParam.ofBody r.body
  let v (i : Nat) : Nat := leNat (sliceOf r.body (4 * i) 4)
  let rate := orDefault (v 1) (if p.compat then 32 else 128)
  let ranges := firstOutside [(v 0, 0, 1), (v 2, 0, 1), (p.lockTimeoutNs, 1000000, 1000000000),
    (p.measNs, 10000, 100000000), (p.acceptPpb, 1, 100000), (p.sparePpb, 1, p.acceptPpb),
    (p.qualityNs, 1000000, 1000000000), (p.initNs, 100000, 100000000), (p.retryNs, 1000000, 1000000000),
    (p.expectId, 0, 2 ^ 48 - 1), (p.expectRank.getD 0, 0, 15), (p.ackNs, 50, 2000), (p.replayNs, 1000, 100000),
    (p.replayLimit, 1, 255), (p.failoverNs, 10000, 10000000), (p.timeNs, 10000, 10000000)]
  let rateOk := rate == 32 || (!p.compat && (rate == 64 || rate == 128))
  let obj : Option (Nat × Nat × Nat) := some (5, r.key, trunkPhaseNo (s.trunk r.key).phase)
  firstFail [
    (ranges != 0 || !rateOk, r.fail 1 rcConflict obj),
    (decide (p.replayNs < p.ackNs + 1000), r.fail 0 rcConflict obj)]

/-! ### DIRECTORY_PARTITION (R91, R380) -/

/-- A DIRECTORY_PARTITION record. -/
def State.checkPartition (s : State) (r : CfgRec) : Option CfgFail :=
  let d := DirParam.ofBody r.body
  let bad := firstOutside [(d.scrubRate, 1, 64), (d.patrolH, 0, 720), (d.retrainErrors, 1, 1024),
    (d.correctionLimit, 1, 65535), (d.hazelMs, 10, 10000), (d.cellsMigration, 32, 65535), (d.cellsMgmt, 32, 65535),
    (d.cellsTelemetry, 32, 65535)]
  let l := sharersOf r.body
  let twice := l.find? fun e => e.2.valid && (l.take e.1).any fun o => o.2.valid && o.2.rank == e.2.rank && o.2.port == e.2.port
  let moved := l.find? fun e =>
    let o := s.bank.sharers.get e.1
    o.valid && e.2.valid && (o.rank != e.2.rank || o.port != e.2.port)
  firstFail [
    (bad != 0, r.fail bad),
    (twice.isSome, r.fail ((twice.map (·.1)).getD 0)),
    (moved.isSome, r.fail ((moved.map (·.1)).getD 0))]

/-! ### COUNTER_SELECT and SECURITY_POLICY (R416, R417, R444) -/

/-- Is counter i of block b defined (R416)? -/
def counterDefined (b i : Nat) : Bool :=
  if b < 64 then decide (i ≤ 54)
  else if b < 72 then decide (i ≤ 45)
  else
    let g := 64 * (b - 72) + i
    [(0, 72), (80, 88), (96, 174), (176, 180), (192, 197), (208, 212), (224, 230)].any fun r =>
      decide (r.1 ≤ g) && decide (g ≤ r.2)

/-- A COUNTER_SELECT record. -/
def checkSelect (r : CfgRec) : Option CfgFail :=
  if r.key < 80 then
    firstFail [((bitList (leNat r.body) 64).any fun i => !counterDefined r.key i, r.fail 2)]
  else if r.key < 0x100 then firstFail [(outside (SelectPoint.ofBody r.body).windowUs 1 1000000, r.fail 1)]
  else
    let g := SelectGlobal.ofBody r.body
    let n := leNat r.body
    let bad := (g.snapshotMs != 0 && outside g.snapshotMs 100 3600000) || outside g.telemMs 1 60000
      || (g.telemEnable && outside g.ringLog2 4 20) || outside g.postEntries 0 4096
      || outside g.holdoffS 1 3600 || (List.range 8).any fun j => decide (71 < field n (192 + 8 * j) 7)
    let slots := g.focus.filter fun f => f.testBit 7
    firstFail [
      (bad, r.fail 1),
      (slots.eraseDups.length != slots.length, r.fail 4)]

/-- A SECURITY_POLICY record. -/
def checkPolicy (r : CfgRec) : Option CfgFail :=
  firstFail [(!(let v := (Policy.ofBody r.body).ideRefreshS; v == 0 || decide (60 ≤ v)), r.fail)]

/-! ### Step 4 whole -/

/-- The owning chapter's checks of one record. -/
def State.checkChapter (s : State) (cur : Plan) (rank : Option Nat) (r : CfgRec) : Option CfgFail :=
  match recTypeOf r.type with
  | some .identity => s.checkIdentity r
  | some .port => s.checkPort cur r
  | some .tenant => s.checkTenant cur r
  | some .tileMap => s.checkTiles cur (rank.getD 0) r
  | some .accessRules => s.checkRegion r
  | some .recipeBank => if recipeFail r.body = 0 then none else some (r.fail (recipeFail r.body))
  | some .gateList => s.checkGates r
  | some .slotPower => s.checkSlot r
  | some .trunk => s.checkTrunk r
  | some .directoryPartition => s.checkPartition r
  | some .counterSelect => checkSelect r
  | some .securityPolicy => checkPolicy r
  | _ => none

/-- Step 4: every record in canonical order. -/
def State.checkRecords (s : State) (cur : Plan) (rank : Option Nat) : List CfgRec → Option CfgFail
  | [] => none
  | r :: rest =>
    match checkForm r with
    | some f => some f
    | none =>
      match if r.applies rank then s.checkChapter cur rank r else none with
      | some f => some f
      | none => s.checkRecords cur rank rest

end Sys2Proof.Machine
end

