-- ==== Sys2Proof/Machine/ConfigCross.lean ====
section
/-! DEFINITION. The checks of a staged image that span records (R383, step 5). Each gives the failures that it finds, with
the place of the first record involved; the earliest is reported. -/

namespace Sys2Proof.Machine

/-- The record of a type and key that this switch applies, or the record that the image omits. -/
def Plan.record (p : Plan) (t : RecType) (key : Nat) : CfgRec :=
  let scope := if t = .recipeBank then 0xFF else p.rank.getD 0
  (p.recs.find? fun r => r.type == t.code && r.key == key && r.scope == scope).getD (omitted t.code scope key)

/-- A failure placed at another record. -/
def CfgFail.at (f : CfgFail) (place : Nat × Nat × Nat) : CfgFail := if placeLt place f.place then { f with place := place } else f

/-- The parameters of ingress point x under a plan. -/
def Plan.port (p : Plan) (x : Nat) : PortParam := p.ports.get x

/-- Applied records of a type. -/
def Plan.own (p : Plan) (t : RecType) : List CfgRec := ofType (p.recs.filter (·.applies p.rank)) t

/-! ### Fabric-wide checks -/

/-- This switch's IDENTITY record and exactly one RECIPE_BANK. -/
def Plan.missing (p : Plan) : List CfgFail :=
  (if p.rank.isSome then [] else [(omitted 0x0001 0 Config.provisionedId.toNat).fail 0 rcConflict none 8])
    ++ (if (ofType p.recs .recipeBank).length = 1 then [] else [(omitted 0x0070 0xFF 0).fail 0 rcConflict none 8])

/-- Unique provisioned IDs and ranks, and one SNOOP_TIMEOUT_US (R105). -/
def Plan.identities (p : Plan) : List CfgFail :=
  let l := ofType p.recs .identity
  let snoop (r : CfgRec) : Nat := (Ident.ofBody r.scope r.body).snoopUs
  l.zipIdx.filterMap fun r =>
    ((l.take r.2).find? fun o => o.key == r.1.key || o.scope == r.1.scope || snoop o != snoop r.1).map fun o =>
      (r.1.fail).at o.place

/-! ### Ports and buffer (R41, R70, R73, R228) -/

/-- Two ports that claim one lane. -/
def Plan.lanes (p : Plan) : List CfgFail :=
  let l := (p.own .port).filter (·.key < 64)
  let span (r : CfgRec) : Nat × Nat := (r.key, quadsOf (PortParam.ofBody r.key r.body).width)
  l.zipIdx.filterMap fun r =>
    ((l.take r.2).find? fun o => meets (span o) (span r.1)).map fun o => (r.1.fail 2).at o.place

/-- At most 62 host ports and 62 pool members. -/
def Plan.roleLimits (p : Plan) : List CfgFail :=
  [Role.host, Role.poolMember].filterMap fun role =>
    (((p.own .port).filter fun r => (p.port r.key).role == role && decide (r.key < 64)).drop 62).head?.map fun r =>
      r.fail 0 rcExhausted

/-- The first record at which a running sum passes a limit: `base` is what the points without a record take. -/
def overAt (limit : Nat) : Nat → List (CfgRec × Nat) → Option CfgRec
  | _, [] => none
  | sum, (r, n) :: rest => if limit < sum + n then some r else overAt limit (sum + n) rest

/-- All cell limits within 262,144 (R70) and all queue limits within 262,144 (R73). -/
def Plan.bufferLimits (p : Plan) : List CfgFail :=
  let ports := p.own .port
  let without (lo hi : Nat) : List Nat := ((List.range (hi - lo)).map (lo + ·)).filter fun x => !(ports.any (·.key == x))
  let cells := ports.map fun r => (r, (p.port r.key).cellLimit.sum)
  let queues := ports.map fun r => (r, (p.port r.key).queueLimit.sum)
  let parts := (p.own .directoryPartition).map fun r => (r, 0)
  let inner := p.dir.cellsMigration + p.dir.cellsMgmt + p.dir.cellsTelemetry
  let a := overAt 262144 ((without 64 72).map (fun x => (p.port x).cellLimit.sum)).sum (cells ++ parts.map fun r => (r.1, inner))
  let b := overAt 262144 ((without 0 72).length * 3584) queues
  let c := if parts.isEmpty ∧ 262144 < ((without 64 72).map (fun x => (p.port x).cellLimit.sum)).sum + inner
      + (cells.map (·.2)).sum then some (omitted 0x00A0 (p.rank.getD 0) 0) else none
  [a, b, c].filterMap fun o => o.map fun r => r.fail 1 rcExhausted

/-- Ports that the image omits become DISABLED (R19, R40, R234). -/
def State.lostPorts (s : State) (cur p : Plan) : List CfgFail :=
  (List.range 64).filterMap fun x =>
    if (p.own .port).any (·.key == x) then none else s.checkRole cur (p.record .port x) x {}

/-! ### Tenants and windows (R21, R25, R41, R179, R471) -/

/-- A valid tenant's port has role HOST, and its windows lie in the port's decoder range. -/
def Plan.tenantPorts (p : Plan) : List CfgFail :=
  p.tenants.flatMap fun t =>
    if ¬ t.entry.valid then []
    else
      let r := p.record .tenant t.number
      let q := p.port t.entry.hostPort
      let place := (p.record .port t.entry.hostPort).place
      let out := t.windows.find? fun w => w.2.valid
        && (decide (w.2.baseTile < q.decBaseTile) || decide (q.decBaseTile + q.decTilesM1 < w.2.baseTile + w.2.tilesM1))
      (if q.role = .host then [] else [(r.fail 0 rcConflict (some (1, t.number, 1))).at place])
        ++ (match out with
          | some w => [(r.fail w.1).at place]
          | none => [])

/-- A window with its number and its tenant's record. -/
def Plan.windowList (p : Plan) : List (CfgRec × Nat × Window) :=
  p.tenants.flatMap fun t => t.windows.map fun w => (p.record .tenant t.number, w.1, w.2)

/-- Window entries belong to one tenant; valid windows of a port do not overlap in host physical address, nor any in their
translation runs; a port has at most 256. -/
def Plan.windowClash (p : Plan) : List CfgFail :=
  let l := p.windowList
  let clash := l.zipIdx.filterMap fun w =>
    let a := w.1
    ((l.take w.2).find? fun b =>
      b.2.1 == a.2.1 || (a.2.2.valid && b.2.2.valid
        && ((b.2.2.hostPort == a.2.2.hostPort
            && meets (a.2.2.baseTile, a.2.2.tilesM1 + 1) (b.2.2.baseTile, b.2.2.tilesM1 + 1))
          || meets (a.2.2.ttBase, a.2.2.tilesM1 + 1) (b.2.2.ttBase, b.2.2.tilesM1 + 1)))).map fun b =>
      (a.1.fail a.2.1).at b.1.place
  let many := (List.range 64).filterMap fun x =>
    ((l.filter fun w => w.2.2.valid && w.2.2.hostPort == x).drop 256).head?.map fun w => w.1.fail w.2.1 rcExhausted
  clash ++ many

/-- Tenants that the image omits are removed. -/
def State.lostTenants (s : State) (cur p : Plan) : List CfgFail :=
  cur.tenants.filterMap fun t =>
    if (p.tenant t.number).isSome then none
    else s.checkLeaving (p.record .tenant t.number) t.number t.entry.valid

/-- Queue pairs and doorbell pages for the tenants that the image creates (R179, R180). -/
def State.pairSupply (s : State) (cur p : Plan) : List CfgFail :=
  let held := s.wq.qps.cells.filter fun c => c.2.state != .unassigned && (p.tenant c.2.tenant).isSome
  let new := p.tenants.filter fun t => (cur.tenant t.number).isNone
  new.zipIdx.filterMap fun (t : TenantRec × Nat) =>
    let upTo := new.take (t.2 + 1)
    let port := t.1.entry.hostPort
    let pairs : Nat := held.length + (upTo.map (·.qpCount)).sum
    let pages : Nat := (held.filter fun c => c.2.hostPort == port).length
      + ((upTo.filter fun u => u.entry.hostPort == port).map (·.qpCount)).sum
    if t.1.qpCount ≠ 0 ∧ (4096 < pairs ∨ 4095 < pages) then
      some ((p.record .tenant t.1.number).fail 0 rcExhausted (some (1, t.1.number, 0)))
    else none

/-! ### Tiles (R37, R38, R40, R64, R103, R210) -/

/-- The record whose run names home tile n. -/
def Plan.homeRec (p : Plan) (n : Nat) : Option CfgRec :=
  (p.runs.find? fun r => r.2.home && decide (r.2.first ≤ n) && decide (n < r.2.first + r.2.count)).map (·.1)

/-- The record whose run names translation entry n. -/
def Plan.entryRec (p : Plan) (n : Nat) : CfgRec :=
  ((p.runs.find? fun r => !r.2.home && decide (r.2.first ≤ n) && decide (n < r.2.first + r.2.count)).map (·.1)).getD
    (omitted 0x0030 (p.rank.getD 0) n)

/-- The home tile map as it stands after the commit. -/
def State.homesAfter (s : State) (p : Plan) : List (Nat × HtEntry) :=
  let named := p.homes
  named ++ s.tab.ht.cells.filter fun c => !(named.any (·.1 == c.1))

/-- Members that home entries may name (R210). -/
def State.homePorts (s : State) (first : Bool) (p : Plan) : List CfgFail :=
  let member (x : Nat) : Bool := (p.port x).role == .poolMember
  p.homes.filterMap fun e =>
    let v := s.tile e.1
    let bad :=
      if first then !member e.2.pPort || (e.2.mirrored && !member e.2.mPort)
      else e.2.live != v.live && (bringUp v e.2 || newPlace v e.2) && !member e.2.pPort
    if bad then
      (p.homeRec e.1).map fun r => (r.fail e.1 rcConflict (some (3, e.1, htNo v.state))).at (p.record .port e.2.pPort).place
    else none

/-- The places of a home entry's fields. -/
def HtEntry.places (e : HtEntry) : List (Nat × Nat) :=
  (e.pPort, e.pTile) :: if e.mirrored then [(e.mPort, e.mTile)] else []

/-- Does a donor lend its place to the mirrored tile that it forwards to (R209)? It does while MOVED, and still once LOST, as
long as that tile holds the place (R222). -/
def lends (l : List (Nat × HtEntry)) (rank : Nat) (e : HtEntry) : Bool :=
  (e.state == .moved || e.state == .lost) && e.fwdRank == rank
    && l.any fun u => u.1 == e.fwdTile && u.2.mirrored && u.2.places.contains (e.pPort, e.pTile)

/-- The places that a home entry holds: a donor that is MOVED on this switch, or lends, holds none. -/
def HtEntry.held (e : HtEntry) (l : List (Nat × HtEntry)) (rank : Nat) : List (Nat × Nat) :=
  if (e.state = .moved ∧ e.fwdRank = rank) ∨ lends l rank e then [] else e.places

/-- No two entries hold the same place after the commit (R210). -/
def State.homePlaces (s : State) (p : Plan) (rank : Nat) : List CfgFail :=
  let after := s.homesAfter p
  let l := after.flatMap fun e => (e.2.held after rank).map fun x => (e.1, x)
  l.zipIdx.filterMap fun a =>
    match (l.take a.2).find? fun b => b.2 == a.1.2 && b.1 != a.1.1 with
    | none => none
    | some b =>
      match p.homeRec a.1.1, p.homeRec b.1 with
      | some r, some o => some ((r.fail a.1.1 rcConflict (some (3, a.1.1, htNo (s.tile a.1.1).state))).at o.place)
      | some r, none => some (r.fail a.1.1 rcConflict (some (3, a.1.1, htNo (s.tile a.1.1).state)))
      | none, some o => some (o.fail b.1 rcConflict (some (3, b.1, htNo (s.tile b.1).state)))
      | none, none => none

/-- Mirrored tiles need the mirrored-tile set (R64). -/
def State.mirrorSet (s : State) (p : Plan) : List CfgFail :=
  if p.bank.setInfo.setId = 2 then []
  else (s.homesAfter p).filterMap fun e =>
    if e.2.mirrored then
      some (((p.homeRec e.1).getD (p.record .recipeBank 0)).fail e.1 rcConflict (some (3, e.1, htNo (s.tile e.1).state)))
    else none

/-- A tile taken out of use is mapped by no entry of the image (R210). -/
def State.takenDown (s : State) (p : Plan) (rank : Nat) : List CfgFail :=
  p.homes.filterMap fun e =>
    if takeDown (s.tile e.1) e.2 then
      (p.granted.find? fun g => g.2.homeRank == rank && g.2.homeTile == e.1).bind fun g =>
        (p.homeRec e.1).map fun r => (r.fail e.1 rcConflict (some (3, e.1, htNo (s.tile e.1).state))).at (p.entryRec g.1).place
    else none

/-- Entries that map tiles after the commit: those granted, and those that stay ACTIVE until the host releases them. Entries that are
RELEASING, or that the commit withdraws forced, no longer count (DESIGN CHOICE, log entry 81). -/
def State.mapsAfter (s : State) (p : Plan) : List (Nat × TtEntry) :=
  let l := p.entries
  p.granted ++ s.tab.tt.cells.filter fun c =>
    c.2.state == .active && !(l.any fun e => e.1 == c.1 && (e.2.1.state == .offered || e.2.2))

/-- Entries that are not EMPTY after the commit (R37, R103): those granted, and those ACTIVE or RELEASING. -/
def State.heldAfter (s : State) (p : Plan) : List (Nat × TtEntry) :=
  let g := p.granted
  g ++ s.tab.tt.cells.filter fun c => (c.2.state == .active || c.2.state == .releasing) && !(g.any (·.1 == c.1))

/-- Host port and window of translation entry n: by the windows of an image, or by those in force where it has none. -/
def State.plannedPlace (s : State) (p : Plan) (n : Nat) : Option (Nat × Nat) :=
  let holds (w : Window) : Bool := w.valid && decide (w.ttBase ≤ n) && decide (n ≤ w.ttBase + w.tilesM1)
  match p.windowList.find? fun w => holds w.2.2 with
  | some w => some (w.2.2.hostPort, w.2.1)
  | none => (s.bank.windows.cells.find? fun c => holds c.2).map fun c => (c.2.hostPort, c.1)

/-- The snoop address map's entries for translation entries (R103), by the place of each: with its number in its bucket. -/
def snoopEntries (place : Nat → Option (Nat × Nat)) (l : List (Nat × TtEntry)) : List (Nat × SnoopMap) :=
  let es := (l.filter fun c => c.2.attr == .sharedCoherent).filterMap fun c => (place c.1).map fun x =>
    ({ homeRank := c.2.homeRank, homeTile := c.2.homeTile, port := x.1, ttIndex := c.1, window := x.2, valid := true } :
      SnoopMap)
  let bucket (e : SnoopMap) : Nat := snoopBucket e.port e.homeRank e.homeTile
  es.zipIdx.map fun e => ((es.take e.2).countP fun o => bucket o == bucket e.1, e.1)

/-- Attributes of local tiles agree (R37); a PRIVATE tile has one mapping (R38); a port maps a SHARED_COHERENT tile once,
at most 262,144 such entries exist, and no bucket of the snoop address map overflows (R103). -/
def State.mappings (s : State) (p : Plan) (rank : Nat) : List CfgFail :=
  let homes := p.homes
  let home (n : Nat) : HtEntry := ((homes.find? (·.1 == n)).map (·.2)).getD (s.tile n)
  let name (n : Nat) (detail : Nat) : CfgFail :=
    (p.entryRec n).fail detail rcConflict (some (0xB, n, ttNo (s.tab.tt.get n).state))
  let held := s.heldAfter p
  let attrs := held.filterMap fun e =>
    let h := home e.2.homeTile
    if e.2.homeRank = rank ∧ (h.attr ≠ e.2.attr ∨ h.shareId ≠ e.2.shareId) then
      some ((name e.1 e.1).at (((p.homeRec e.2.homeTile).map (·.place)).getD (p.entryRec e.1).place)) else none
  let port (n : Nat) : Option Nat := (s.plannedPlace p n).map (·.1)
  let l := s.mapsAfter p
  let twice := l.zipIdx.filterMap fun a =>
    let e := a.1.2
    let other := (l.take a.2).find? fun b =>
      b.2.homeRank == e.homeRank && b.2.homeTile == e.homeTile && b.1 != a.1.1
        && (e.attr == .priv || b.2.attr == .priv
          || (e.attr == .sharedCoherent && b.2.attr == .sharedCoherent && port b.1 == port a.1.1))
    other.map fun b => (name a.1.1 a.1.1).at (p.entryRec b.1).place
  let shared := snoopEntries (s.plannedPlace p) held
  let full := (shared.drop 262144).head?.toList ++ (shared.find? fun e => decide (4 ≤ e.1)).toList
  attrs ++ twice ++ full.map fun e => (p.entryRec e.2.ttIndex).fail e.2.ttIndex rcExhausted

/-! ### Regions, meters, gate lists -/

/-- Region (k, g) after the commit: a locked region keeps its entry (R155). -/
def State.regionAfter (s : State) (p : Plan) (k g : Nat) : Region :=
  if s.regionLocked k g then s.bank.region k g else p.bank.regions.get (64 * k + g)

/-- The regions of the two trunks of a pair agree (R146). -/
def State.pairRegions (s : State) (p : Plan) : List CfgFail :=
  (List.range 4).filterMap fun j =>
    let a := 64 + 2 * j
    ((List.range 64).find? fun g => s.regionAfter p a g != s.regionAfter p (a + 1) g).map fun g =>
      let x := p.record .accessRules (64 * a + g)
      let y := p.record .accessRules (64 * (a + 1) + g)
      if y.head.isEmpty then x.fail g else (y.fail g).at x.place

/-- Meter entries of valid tenants (R162): an omitted METER record gives the defaults. -/
def Plan.meterRules (p : Plan) : List CfgFail :=
  p.tenants.filterMap fun t =>
    if ¬ t.entry.valid then none
    else
      let r := p.record .meter t.number
      let m := if r.head.isEmpty then {} else MeterCfg.ofNat (leNat r.body)
      let caps := (List.range 72).map fun x => [2, 3, 6].map fun q => (p.port x).queueLimit.getD q 448
      let small := caps.any fun l => l.any fun v => decide (v < m.queueCap)
      let colour := m.meterEn && (m.cir == 0 || decide (m.cbs < 80)
        || (!m.srtcm && (decide (m.pir < m.cir) || decide (m.pbsEbs < 80)))
        || (m.srtcm && (m.pir != 0 || (m.pbsEbs != 0 && decide (m.pbsEbs < 80)))))
      let shape := m.shaperEn && (m.shapeRate == 0 || decide (m.shapeBurst < 80))
      let obj : Option (Nat × Nat × Nat) := some (1, t.number, 1)
      let place := (p.record .tenant t.number).place
      (firstFail [
        (colour, r.fail 1 rcConflict obj), (shape, r.fail 2 rcConflict obj),
        (decide (m.fqBurst < 80) || small, r.fail 3 rcConflict obj)]).map fun f => f.at place

/-- The longest stretch of a list over which a condition of the entries holds. -/
def longestRun (ok : Nat × Nat → Bool) (l : List (Nat × Nat)) : Nat :=
  (l.foldl (fun (a : Nat × Nat) e => if ok e then (a.1 + e.2, Nat.max a.2 (a.1 + e.2)) else (0, a.2)) (0, 0)).2

/-- The same counted across the cycle end. -/
def longestAcross (ok : Nat × Nat → Bool) (l : List (Nat × Nat)) : Nat :=
  if l.all ok then (l.map (·.2)).sum else longestRun ok (l ++ l)

/-- Open and closed stretches of GATE_LIST records (R177). -/
def State.gateRules (s : State) (p : Plan) : List CfgFail :=
  (p.own .gateList).filterMap fun r =>
    let l := (GateList.ofBytes r.body).entries
    let q := p.port r.key
    let guard := if 64 ≤ r.key then trunkGuard (p.trunks.get (r.key - 64)).rate 258
      else linkGuard q.maxRate q.width (if q.maxRate = 5 then 2 else 1) 258
    let closes (c : Nat) : Bool := l.any fun e => !e.1.testBit c
    let short := (List.range 8).any fun c => closes c && decide (longestRun (fun e => e.1.testBit c) l < guard)
    let long := (List.range 8).any fun c =>
      decide (p.ident.completionMs * 500000 < longestAcross (fun e => !e.1.testBit c) l)
    let obj := some (s.pointObj r.key)
    (firstFail [
      (short, (r.fail 3 rcConflict obj).at (p.record .port r.key).place),
      (long, (r.fail 4 rcConflict obj).at (p.record .identity Config.provisionedId.toNat).place)])

/-! ### Slot power, trunks, sharers, counters -/

/-- CH_ENABLE needs a port that takes part; a channel with power keeps CH_ENABLE (R315). -/
def State.slotRules (s : State) (p : Plan) : List CfgFail :=
  (List.range 64).filterMap fun n =>
    let r := p.record .slotPower n
    let c := s.chan n
    let obj : Option (Nat × Nat × Nat) := some (4, n, slotNo c.state)
    let q := p.port n
    let busy := c.state == .ramp || c.state == .on || c.state == .stopping
    if (p.slots.get n).enable && (!q.present || q.role == .host || q.role == .disabled) then
      some ((r.fail 6 rcConflict obj).at (p.record .port n).place)
    else if r.head.isEmpty && busy && ((s.slotParam n).enable || (s.slotParam n).shunt != 2000) then
      some (r.fail 7 rcConflict obj)
    else none

/-- The two trunks of a partner pair (R264, R306). -/
def State.trunkPairs (s : State) (p : Plan) : List CfgFail :=
  (List.range 4).filterMap fun j =>
    let a := p.trunks.get (2 * j)
    let b := p.trunks.get (2 * j + 1)
    let x := p.record .trunk (2 * j)
    let y := p.record .trunk (2 * j + 1)
    let r := if y.head.isEmpty then x else y
    let shared (t : TrunkParam) : List Nat :=
      [b2n t.compat, t.rate, t.ackNs, t.replayNs, t.replayLimit, t.failoverNs, t.timeNs]
    let changed (t : Nat) (k : TrunkParam) : Bool :=
      let o := s.trk.params.get t
      (o.rate, o.compat, o.enable) != (k.rate, k.compat, k.enable)
    let up (t : Nat) : Bool := (s.trunk t).phase == .active
    if shared a ≠ shared b then some ((r.fail 2).at x.place)
    else if up (2 * j) && up (2 * j + 1) && changed (2 * j) a && changed (2 * j + 1) b then
      some ((r.fail 3 rcConflict (some (5, 2 * j + 1, 5))).at x.place)
    else none

/-- Is the pair that the routes of an image name for a rank joined to another rank, by what its trunks know of their partner or by
EXPECT_RANK? A pair of which neither says anything is taken as joined directly (DESIGN CHOICE, log entry 82). -/
def State.joinedElsewhere (s : State) (p : Plan) (rank : Nat) : Bool :=
  let j := field (p.ident.route.getD rank 0xFF) 0 4
  [2 * j, 2 * j + 1].any fun t =>
    let k := s.trunk t
    if k.phase = .active then k.partnerRankValid && k.partnerRank.toNat != rank
    else (p.trunks.get t).expectRank.any (· != rank)

/-- Remote sharers are reached over a directly joined pair (R91). -/
def State.sharerRoutes (s : State) (p : Plan) (rank : Nat) : List CfgFail :=
  (p.own .directoryPartition).filterMap fun r =>
    ((sharersOf r.body).find? fun e => e.2.valid && e.2.rank != rank
      && (decide (3 < field (p.ident.route.getD e.2.rank 0xFF) 0 4) || s.joinedElsewhere p e.2.rank)).map fun e =>
      (r.fail e.1).at (p.record .identity Config.provisionedId.toNat).place

/-- Telemetry's port and focus points (R417). -/
def Plan.selectRules (p : Plan) : List CfgFail :=
  ((p.own .counterSelect).filter (·.key == 0x100)).filterMap fun r =>
    let g := SelectGlobal.ofBody r.body
    let gone := g.focus.find? fun f => f.testBit 7 && decide (field f 0 7 < 64)
      && (!(p.port (field f 0 7)).present || (p.port (field f 0 7)).role == .disabled)
    firstFail [
      (g.telemEnable && (p.port g.telemPort).role != .host, (r.fail 3).at (p.record .port g.telemPort).place),
      (gone.isSome, (r.fail 5).at (p.record .port (field (gone.getD 0) 0 7)).place)]

/-! ### Validation whole -/

/-- Every failure of step 5. -/
def State.crossFails (s : State) (cur p : Plan) : List CfgFail :=
  let first := cur.head.epoch == 0
  p.missing ++ p.identities
    ++ match p.rank with
      | none => []
      | some rank =>
        p.lanes ++ p.roleLimits ++ p.bufferLimits ++ s.lostPorts cur p ++ p.tenantPorts ++ p.windowClash
          ++ s.lostTenants cur p ++ s.pairSupply cur p ++ s.homePorts first p ++ s.homePlaces p rank ++ s.mirrorSet p
          ++ s.takenDown p rank ++ s.mappings p rank ++ s.pairRegions p ++ p.meterRules ++ s.gateRules p ++ s.slotRules p
          ++ s.trunkPairs p ++ s.sharerRoutes p rank ++ p.selectRules

/-- Validate a staged image of `staged` bytes (R383): `digest` is the command's. The plan, or the first failure. -/
def State.validateImage (s : State) (img : List Byte) (staged base : Nat) (digest : Option (BitVec 256)) :
    Except CfgFail Plan :=
  let h := imageHead img
  match checkHead h staged base s.tab.epoch.toNat with
  | some f => .error f
  | none =>
    match imageWalk img with
    | .past r => .error (r.fail 0 rcConflict none 6)
    | .ok recs last =>
      if recs.length ≠ h.count ∨ last ≠ h.length then .error (headFail 1)
      else if digest.any (· != imageDigest recs) then .error (headFail 3)
      else
        match checkOrder recs with
        | some f => .error f
        | none =>
          let p := planOf img
          let cur := s.curPlan
          match s.checkRecords cur p.rank recs with
          | some f => .error f
          | none =>
            match earliest (s.crossFails cur p) with
            | some f => .error f
            | none => .ok p

end Sys2Proof.Machine
end

