-- ==== Sys2Proof/Machine/TrunkLink.lean ====
section
/-! DEFINITION. The Qoray receiver (R278 to R283), its timers (R282, R284), credits and audits (R288 to R293), and
fabric time over trunks (R301 to R304) with TIME_IN (R462, R463). -/

namespace Sys2Proof.Machine

/-! ### Resynchronisation (R293) -/

/-- Begin a resynchronisation of trunk x's link layer; with its partner down the window stays shrunk, and a broken
accounting brings x down. -/
def State.startResync (s : State) (x reason ctr leak : Nat) : State :=
  let k := s.trunk x
  if k.resync ∨ k.phase ≠ .active then s
  else if s.mateActive x then
    let s := (s.countTrunk x 28).log 0x0408 1 [(1, x), (1, ctr), (2, leak)]
    let s := s.sendCtl x 7 [pack [(8, 3), (8, reason)]]
    (s.updTrunk x fun k => { k with resync := true }).planMove x
  else if reason = 2 then s.leaveActive x 0x16
  else s

/-- A resynchronisation that waits for the partner begins when it is ACTIVE. -/
def State.leakDue (s : State) (x : Nat) : State :=
  let k := s.trunk x
  match (List.range 8).find? fun i => decide ((s.creditA x).getD i 0 / 8 < k.leak.getD i 0) with
  | some i => s.startResync x 1 i (k.leak.getD i 0)
  | none => s

/-! ### Reception -/

/-- What the fields of a flit's header do once its CRC has passed (R269, R283, R288). -/
def State.headerFields (s : State) (t : Nat) (hd : FlitHdr) (carries : Bool) : State :=
  let s := if 0 < hd.fecCorrected then s.count (trunkCtr t 34) hd.fecCorrected else s
  let s := if hd.steer || hd.newMap then s.switchMap t else s
  if ¬ carries then s
  else
    let s := if hd.ackValid || hd.nak then s.takeAck t hd.ack else s
    let s := if hd.nak then s.replayPass t else s
    if hd.crValid then s.takeReturn t hd.crIndex.val hd.crCount else s

/-- A flit whose CRC fails asks for a replay, unless a NAK is outstanding (R281). -/
def State.sendNak (s : State) (t : Nat) : State :=
  if (s.trunk t).nakOut then s
  else (s.updTrunk t fun k => { k with nakOut := true, nakDue := true }).countTrunk t 23

/-- A sequenced flit is accepted (R281, R282). -/
def State.acceptSeq (s : State) (t : Nat) : State :=
  s.updTrunk t fun k =>
    { k with expect := k.expect + 1, accepted := true, nakOut := false, sinceAck := k.sinceAck + 1
             ackDue := k.ackDue || decide (64 ≤ k.sinceAck + 1) }

/-- Reception of a flit (R279, R281): `carries` says whether its type carries acknowledgement and credit fields, and
`seqd` whether it is sequenced; `body` is what acceptance does. -/
def State.flitIn (s : State) (t : Nat) (hd : FlitHdr) (carries seqd : Bool) (body : State → State) : State :=
  let k := s.trunk t
  if k.phase ≠ .active then s
  else if ¬ hd.crcOk then (s.countTrunk t 18).sendNak t
  else
    let s := s.updTrunk t fun k => { k with answerInit := false }
    let s := s.headerFields t hd carries
    if (s.trunk t).phase ≠ .active then s
    else if ¬ seqd then body s
    else
      let e := (s.trunk t).expect
      if hd.seq = e then body s
      else
        let back := (e - hd.seq).toNat
        if 1 ≤ back ∧ back ≤ 2048 then
          (s.countTrunk t 19).updTrunk t fun k => { k with ackDue := true }
        else s.sendNak t

/-- A PAYLOAD flit in sequence (R290): no message is written when the flit's credits exceed what was returned. -/
def State.payloadBody (s : State) (t : Nat) (ms : List (MsgClass × Msg)) : State :=
  let k := s.trunk t
  let need := ms.foldl (fun l m => addCredits l (clsNo m.1) m.2) (List.replicate 8 (0 : U16))
  let excess := (List.range 8).any fun i =>
    decide ((k.ret.getD i 0 - k.rcv.getD i 0).toNat < (need.getD i 0).toNat)
  if excess then (s.countTrunk t 25).leaveActive t 0x15
  else
    let s := (s.acceptSeq t).updTrunk t fun k => { k with rcv := ms.foldl (fun l m => addCredits l (clsNo m.1) m.2) k.rcv }
    ms.foldl (fun s m => s.accept (64 + t) (clsNo m.1) m.2) s

/-- The audit of one counter (R291, R292): its mismatch, when it is not negative. -/
def Trunk.mismatchOf (k : Trunk) (live : List U16) (i : Nat) : Option Nat :=
  let held := (k.rcv.getD i 0 - k.ret.getD i 0 + k.adv.getD i 0).toNat
  let l := (live.getD i 0).toNat
  if held < l then none else some (held - l)

/-- A LINK_CTL AUDIT (R291, R292). -/
def State.auditBody (s : State) (t : Nat) (used : List U16) : State :=
  let s := s.acceptSeq t
  let k := s.trunk t
  let live := s.liveCredits t
  let broken := (List.range 8).any fun i => k.rcv.getD i 0 != used.getD i 0 || (k.mismatchOf live i).isNone
  if broken then s.startResync t 2 0 0
  else
    let s := (List.range 8).foldl (fun s i =>
      let k := s.trunk t
      let m := (k.mismatchOf live i).getD 0
      let leak := Nat.min m (k.mismatch.getD i 0)
      let old := k.leak.getD i 0
      let s := s.updTrunk t fun k => { k with mismatch := k.mismatch.set i m, leak := k.leak.set i (Nat.max old leak) }
      if old < leak then (s.countTrunk t 27).log 0x0407 1 [(1, t), (1, i), (2, leak)] else s) s
    s.leakDue t

/-- A LINK_CTL FAILOVER (R295). -/
def State.failoverBody (s : State) (t : Nat) (last : BitVec 12) (any : Bool) : State := (s.acceptSeq t).failoverReport t last any

/-- A LINK_CTL RESYNC_REQ: this end moves the trunk's traffic too (R293). -/
def State.resyncBody (s : State) (t : Nat) : State :=
  let s := s.acceptSeq t
  if (s.trunk t).resync ∨ ¬ s.mateActive t then s
  else (s.updTrunk t fun k => { k with resync := true }).planMove t

/-- A LANE_CTL SWITCH_READY: the next flit steers to the new SKIP (R269), from 0 to 8 (R300). -/
def State.laneCtlBody (s : State) (t newSkip : Nat) : State :=
  let s := s.acceptSeq t
  if 8 < newSkip ∨ (s.trunkParam t).compat then s else s.updTrunk t fun k => { k with steerTo := some newSkip }

/-! ### Timers -/

/-- ACK_TIMER (R282). -/
def State.ackTimer (s : State) (t : Nat) : State :=
  s.updTrunk t fun k => if k.phase = .active ∧ 0 < k.sinceAck then { k with ackDue := true } else k

/-- REPLAY_TIMER (R284). -/
def State.replayTimer (s : State) (t : Nat) : State :=
  let k := s.trunk t
  if k.phase ≠ .active ∨ k.outstanding = 0 then s
  else
    let s := (s.countTrunk t 21).updTrunk t fun k => { k with expiries := k.expiries + 1 }
    if (s.trunkParam t).replayLimit ≤ k.expiries + 1 then s.leaveActive t (if k.resync then 0x17 else 0x14)
    else s.replayPass t

/-- Every 1 ms each end sends an AUDIT on each ACTIVE trunk (R291). -/
def State.auditPeriod (s : State) : State :=
  ((List.range 8).filter fun t => (s.trunk t).phase == .active).foldl (fun s t =>
    (s.leakDue t).sendCtl t 7 [pack ([(8, 1), (8, 0)] ++ (s.trunk t).used.map fun u => (16, u.toNat))]) s

/-! ### Fabric time -/

/-- Step fabric time forward, counted and logged against trunk t; a step by TIME_IN is taken as trunk 0's (R304, R463;
DESIGN CHOICE, log entry 31). -/
def State.stepTime (s : State) (t d : Nat) : State :=
  (((s.advanceTo (s.sys.ft + d)).countTrunk t 38)).log 0x0409 1 [(1, t), (8, d)]

/-- Rate adjustment that removes d nanoseconds over n intervals of `period` ns, at most 100 ppm (R304, R463). -/
def steerRate (d : Int) (n period : Nat) : Int :=
  if period = 0 then 0 else max (-100000) (min 100000 (d * 1000000000 / ((n * period : Nat) : Int)))

/-- Does root key a beat root key b (R303)? -/
def RootKey.better (a b : RootKey) : Bool :=
  if a.pps ≠ b.pps then a.pps
  else if a.rankValid ≠ b.rankValid then a.rankValid
  else if a.rankValid ∧ a.rank ≠ b.rank then decide (a.rank < b.rank)
  else decide (a.id.toNat < b.id.toNat)

/-- This switch's own key (R303, R463). -/
def State.ownKey (s : State) : RootKey :=
  { pps := s.sys.pps.locked, rankValid := s.tab.ident.valid, rank := if s.tab.ident.valid then s.rank else 0,
    id := Config.provisionedId }

/-- Choose the time root and the parent (R303); SYNCED goes when the parent changes (R304). -/
def State.chooseRoot (s : State) : State :=
  let cands := (List.range 8).filter fun t => (s.trunk t).phase == .active && decide ((s.trunk t).partnerHops < 14)
  let key (b : Option Nat) : RootKey := (b.map fun t => (s.trunk t).partnerRoot).getD s.ownKey
  let best := cands.foldl (fun b t => if (s.trunk t).partnerRoot.better (key b) then some t else b) none
  let parent := best.bind fun k =>
    (cands.filter fun t => (s.trunk t).partnerRoot == (s.trunk k).partnerRoot).foldl (fun b t => match b with
      | none => some t
      | some p => if (s.trunk t).partnerHops < (s.trunk p).partnerHops then some t else b) none
  let hops := match parent with
    | none => 0
    | some t => (s.trunk t).partnerHops + 1
  let same := parent == s.trk.parent
  { s with
    trk.parent := parent, trk.root := key best, trk.hops := hops
    trk.synced := same && s.trk.synced, trk.goodRuns := if same then s.trk.goodRuns else 0
    sys.ppb := if same then s.sys.ppb else 0 }

/-- Is this switch the time root? -/
def State.isRoot (s : State) : Bool := s.trk.parent.isNone

/-- Steer by the parent's offset θ (R304). -/
def State.steerBy (s : State) (t : Nat) (theta : Int) : State :=
  let good := theta.natAbs < 50
  let runs := if good then s.trk.goodRuns + 1 else 0
  let synced := if 1000 < theta.natAbs then false else s.trk.synced || decide (8 ≤ runs)
  let s := { s with trk.goodRuns := runs, trk.synced := synced }
  if 1000 ≤ theta then State.stepTime { s with sys.ppb := 0 } t theta.natAbs
  else { s with sys.ppb := steerRate theta 10 (s.trunkParam t).timeNs }

/-- A TIME flit (R301 to R304). The model takes the request's arrival and the response's departure at one instant. -/
def State.timeBody (s : State) (t : Nat) (f : TimeFields) : State :=
  let s := s.updTrunk t fun k =>
    { k with partnerHops := f.hops.toNat
             partnerRoot := ⟨f.rootPps, f.rootRankValid, if f.rootRankValid then f.rootRank.toNat else 0, f.rootId⟩ }
  let s := s.chooseRoot
  let r := s.trk.root
  if ¬ f.response then
    s.sendFlit t 5 0 false [pack [(1, 1), (7, 0), (8, f.exch.toNat), (48, r.id.toNat), (4, r.rank), (1, b2n r.rankValid),
      (1, b2n r.pps), (4, s.trk.hops), (1, b2n (s.isRoot || s.trk.synced)), (53, 0), (64, s.sys.ft), (64, s.sys.ft)]]
  else
    match (s.trunk t).t1 with
    | none => s
    | some t1 =>
      if f.exch ≠ (s.trunk t).exch then s
      else
        let t4 := s.sys.ft
        let a : Int := (f.t2.toNat : Int) - t1
        let b : Int := (t4 : Int) - f.t3.toNat
        let theta := (a - b) / 2
        let delay := ((((t4 : Int) - t1) - ((f.t3.toNat : Int) - f.t2.toNat)) / 2).toNat
        let s := s.updTrunk t fun k => { k with t1 := none, offset := theta, delay := delay }
        if s.trk.parent = some t then s.steerBy t theta else s

/-- TIME_PERIOD: a REQUEST on an ACTIVE trunk (R302). -/
def State.timePeriod (s : State) (t : Nat) : State :=
  if (s.trunk t).phase ≠ .active then s
  else
    let s := (s.updTrunk t fun k => { k with exch := k.exch + 1, t1 := some s.sys.ft }).chooseRoot
    let r := s.trk.root
    s.sendFlit t 5 0 false [pack [(1, 0), (7, 0), (8, (s.trunk t).exch.toNat), (48, r.id.toNat), (4, r.rank),
      (1, b2n r.rankValid), (1, b2n r.pps), (4, s.trk.hops), (1, b2n (s.isRoot || s.trk.synced))]]

/-! ### TIME_IN (R463) -/

/-- δ of an edge at fabric time t: t minus the nearest multiple of 10⁹. -/
def ppsDelta (t : Nat) : Int :=
  let p := t % 1000000000
  if p ≤ 500000000 then (p : Int) else (p : Int) - 1000000000

/-- A TIME_IN edge. Only the root steers by it (R463). In RESET the pin is ignored (R467). -/
def State.timeInEdge (s : State) : State :=
  if s.sys.mode = .reset then s else
  let p := s.sys.pps
  let t := s.sys.ft
  let spaced : Bool := match p.last with
    | some l => decide (999900000 ≤ t - l) && decide (t - l ≤ 1000100000)
    | none => false
  if ¬ p.present then
    if ¬ spaced then { s with sys.pps := { p with last := some t } }
    else
      let phi := t % 1000000000
      let s := { s with sys.pps := { p with present := true, last := some t, good := 0 } }
      if 1000 ≤ phi ∧ s.isRoot then
        let s := s.stepTime 0 (1000000000 - phi)
        { s with sys.pps := { s.sys.pps with last := some s.sys.ft } }
      else s
  else
    let d := ppsDelta t
    let good := if d.natAbs < 50 then p.good + 1 else 0
    let locked := if 1000 < d.natAbs then false else p.locked || decide (8 ≤ good)
    let s := { s with sys.pps := { p with error := d, last := some t, good := good, locked := locked } }
    let s := if ¬ s.isRoot then s
      else if d ≤ -1000 then
        let s := s.stepTime 0 d.natAbs
        { s with sys.pps := { s.sys.pps with last := some s.sys.ft }, sys.ppb := 0 }
      else { s with sys.ppb := steerRate (-d) 10 1000000000 }
    s.chooseRoot

/-- No TIME_IN edge for 2 s. -/
def State.timeInLost (s : State) : State :=
  match s.sys.pps.last with
  | none => s
  | some l =>
    let s := s.advanceTo (l + 2000000000)
    if s.sys.ft < l + 2000000000 then s
    else State.chooseRoot { s with
      sys.pps := { s.sys.pps with present := false, locked := false, good := 0, last := none }
      sys.ppb := if s.isRoot then 0 else s.sys.ppb }

/-- An expected TIME_IN edge is not seen: PPS_MISSED saturates. -/
def State.ppsMissed (s : State) : State :=
  let p := s.sys.pps
  if p.present then { s with sys.pps := { p with missed := if p.missed = 0xFF then 0xFF else p.missed + 1 } } else s

/-- PPS_OUT (R463): fabric time reaches the next multiple of 10⁹ ns, and a pulse leaves. -/
def State.ppsOut (s : State) : State :=
  if s.sys.mode = .reset then s else (s.advanceTo ((s.sys.ft / 1000000000 + 1) * 1000000000)).emit .pps

/-- A flit of a reserved type in ACTIVE is counted and discarded (R273). -/
def State.reservedFlit (s : State) (t : Nat) : State := if (s.trunk t).phase = .active then s.countTrunk t 24 else s

end Sys2Proof.Machine
end

