-- ==== Sys2Proof/Machine/Observe.lean ====
section
/-! DEFINITION. Observability (spec/19): duration events, snapshots, bandwidth windows, the telemetry stream, freezing and
archiving of the Brittle log, alerts, and the commands COUNTER_READ, LOG_READ, LOG_FREEZE and ARCHIVE_READ. -/

namespace Sys2Proof.Machine

/-! ### Duration events (R415, R416) -/

/-- Is a message at edge port x held only by partner credit? -/
def State.creditStall (s : State) (x : Nat) : Bool :=
  let c := BitVec.ofNat 12 (s.dp.credits.get x)
  (List.range 8).any fun q => (s.queue x q).any fun e =>
    !s.creditOk x c e && (q < 2 || (s.gateOpen x q e.units && s.shaperOk x q e.flow))

/-- Is a message at port x held only by a gate or guard? -/
def State.gateWait (s : State) (x : Nat) : Bool :=
  let c := BitVec.ofNat 12 (s.dp.credits.get x)
  (List.range 8).any fun q => decide (2 ≤ q) && (s.queue x q).any fun e =>
    s.creditOk x c e && s.shaperOk x q e.flow && !s.gateOpen x q e.units

/-- Edge ports and trunks named by the keys 8 × point + class of a table. -/
def pointsOf (keys : List Nat) : List Nat := ((keys.map (· / 8)).filter (· < 72)).eraseDups

/-- The counters of the duration events whose condition holds now, rising within each kind; they are taken
after each whole command (DESIGN CHOICE, log entry 39). -/
def State.condsNow (s : State) : List Nat :=
  let queued := pointsOf s.dp.queues.keys
  let edge := queued.filter (· < 64)
  let full (x : Nat) : Bool := (List.range 8).any fun q => decide (s.queueLimit x q ≤ (s.queue x q).length)
  let ports := s.edge.ports.keys
  ((List.range 64).filter fun p => !(s.port p).dlUp).map (portCtr · 29)
    ++ (edge.filter s.creditStall).map (portCtr · 47)
    ++ (edge.filter s.gateWait).map (portCtr · 48)
    ++ (((pointsOf s.dp.waiting.keys).filter (· < 64)).filter fun x => decide (s.quota x ≤ s.pointUsed x)).map (portCtr · 49)
    ++ (((pointsOf s.dp.cellCount.keys).filter (· < 64)).filter fun x =>
        (List.range 8).any fun q => decide (0 < s.cellsUsed x q ∧ s.cellLimit x q ≤ s.cellsUsed x q)).map (portCtr · 50)
    ++ (if s.dp.stalled.isEmpty then [] else (edge.filter full).map (portCtr · 51))
    ++ (ports.filter fun p => (s.port p).dlUp && decide ((s.port p).widthNow < (s.port p).width)).map (portCtr · 52)
    ++ (ports.filter fun p => (s.port p).dlUp && (s.port p).widthDegraded).map (portCtr · 53)
    ++ ((List.range 8).filter fun t => (s.trunk t).phase != .active).map (trunkCtr · 37)
    ++ ((queued.filter (64 ≤ ·)).filter s.creditStall).map (fun x => trunkCtr (x - 64) 40)
    ++ ((List.range 8).filter fun t => decide (1536 ≤ (s.trunk t).outstanding)).map (trunkCtr · 41)
    ++ (if 129024 ≤ s.sharedUsed then [globalCtr 69] else [])
    ++ (if s.sys.liveLog.length + 64 ≤ 32768 then [] else [globalCtr 228])

/-- Take up the conditions that hold now: an edge-mode counter adds each entry into its condition (R415). -/
def State.updateConds (s : State) : State :=
  let now := s.condsNow
  let entered := now.filter fun c => !s.obs.conds.contains c
  let cs := entered.foldl (fun cs c => cs.upd c fun k => if k.level then k else k.add 1) s.obs.counters
  { s with obs.counters := cs, obs.conds := now }

/-! ### Words -/

/-- A counter register (R414). -/
def Counter.word (c : Counter) : Nat := pack [(48, c.value.toNat), (1, b2n c.ovf), (1, b2n c.level)]

/-- The 64 counters of a block. -/
def blockBytes (t : Tbl ({} : Counter)) (b : Nat) : List Byte :=
  (List.range 64).flatMap fun i => leBytes (t.get (64 * b + i)).word 8

/-- A bandwidth record (R422). -/
def Bandwidth.bytes (b : Bandwidth) : List Byte :=
  leBytes (pack [(64, b.lastEnd), (32, b.lastLen.toNat), (32, b.lastSeq.toNat)]) 16
    ++ b.lastRx.flatMap (fun v => leBytes v.toNat 8) ++ b.lastTx.flatMap fun v => leBytes v.toNat 8

/-- A focus record (R424). -/
def Focus.bytes (f : Focus) : List Byte :=
  leBytes (pack ([(7, f.point), (1, b2n f.valid), (56, 0), (64, f.start)]
    ++ [f.delivered, f.wastedReplay, f.wastedDiscard, f.wastedPoison, f.frontStarved, f.backStarved, f.control,
      f.deliveredUnits].map fun v => (64, v.toNat))) 80

/-- A log entry (R426). -/
def LogEntry.bytes (e : LogEntry) : List Byte :=
  leBytes (pack [(64, e.time), (16, e.type.toNat), (2, e.sev.toNat), (14, 0), (32, e.seq.toNat), (128, e.args.toNat)]) 32

/-- LOG_STATUS (R426). -/
def LogStatus.word (l : LogStatus) : Nat :=
  pack [(16, l.next.toNat), (1, b2n l.wrapped), (1, b2n l.frozen), (1, b2n l.archiving), (4, l.freezeCause.toNat),
    (4, l.archiveNext.toNat), (5, 0), (32, l.written.toNat)]

/-! ### Snapshots (R421) -/

/-- Write the next counter snapshot slot. -/
def State.takeSnapshot (s : State) : State :=
  let n := s.obs.slotSeq
  let s := s.dropStore (0x3B4000000 + 65536 * (n.toNat % 1024)) 65536
  { s with
    obs.slotSeq := n + 1
    obs.snapshots := s.obs.snapshots.set (n.toNat % 1024)
      { valid := true, time := s.sys.ft, seq := n, epoch := s.tab.epoch, counters := s.obs.counters.cells,
        bandwidth := s.obs.bandwidth.cells } }

/-- The bytes of a snapshot slot: 64 KiB. -/
def Snapshot.bytes (n : Snapshot) : List Byte :=
  if ¬ n.valid then List.replicate 65536 0
  else
    let cs : Tbl ({} : Counter) := ⟨n.counters⟩
    let bs : Tbl ({} : Bandwidth) := ⟨n.bandwidth⟩
    let head := leBytes (pack [(64, n.time), (32, n.seq.toNat), (32, n.epoch.toNat)]) 64
    let blocks := (List.range 80).flatMap fun b => leBytes n.time 8 ++ blockBytes cs b
    let bw := (List.range 72).flatMap fun x => (bs.get x).bytes
    let l := head ++ blocks ++ bw
    l ++ List.replicate (65536 - l.length) 0

/-- SNAPSHOT_PERIOD: fabric time reaches the next multiple of the period. After entry into SAFE no slot is written. -/
def State.snapshotPeriod (s : State) : State :=
  let ms := s.obs.select.snapshotMs
  if ms = 0 ∨ s.sys.mode = .safe ∨ s.sys.mode = .reset ∨ s.sys.mode = .prepare then s
  else
    let p := ms * 1000000
    (s.advanceTo ((s.sys.ft / p + 1) * p)).takeSnapshot

/-! ### Telemetry (R425) -/

/-- A record as posted writes of at most Max_Payload_Size: (ring offset, bytes), the body first and the header last. -/
def telemPieces (mps : Nat) (head body : List Byte) : List (Nat × List Byte) :=
  ((List.range ((body.length + mps - 1) / mps)).map fun k => (32 + mps * k, (body.drop (mps * k)).take mps)) ++ [(0, head)]

/-- Form a telemetry record, or drop it whole when the TELEMETRY cell limit is reached or its queue is full (R74). -/
def State.formRecord (s : State) (kind number time : Nat) (body : List Byte) : State :=
  let c := s.obs.select
  if ¬ c.telemEnable then s
  else
    let seq := s.obs.telemSeq
    let s := { s with obs.telemSeq := seq + 1 }
    let head := leBytes (pack [(64, seq.toNat), (8, kind), (16, number), (4, s.rank), (1, b2n s.tab.ident.valid), (35, 0),
      (64, time), (32, s.tab.epoch.toNat), (32, body.length)]) 32
    let x : Nat := c.telemPort
    let base := c.telemAddr.toNat + 1024 * (seq.toNat % 2 ^ c.ringLog2)
    let pieces := telemPieces (Nat.min (Nat.max 128 (s.port x).maxPayload) (s.maxPayloadSupported x)) head body
    let room := !(s.port x).dlUp || decide ((s.queue x 7).length + pieces.length ≤ s.queueLimit x 7)
    let put (o : Option State) (p : Nat × List Byte) : Option State := o.bind fun s =>
      let m : Msg := { addr := BitVec.ofNat 64 (base + p.1), payload := p.2 }
      let units := 2 + (p.2.length + 15) / 16
      (s.storeRecord xTelemetry 7 units m).map fun (r, s) =>
        State.releaseRec (s.send x 7
          { record := some r, msg := m, cls := 6, units := units, cost := 16 * units, flow := flowMgmt, sf := true }) (some r)
    match (if room then pieces.foldl put (some s) else none) with
    | none => s.countGlobal 66
    | some s => s

/-- LOG records of the entries written since the last command. -/
def State.telemLogs (s : State) : State :=
  match s.obs.telemEntries with
  | [] => s
  | l => l.foldl (fun s e => s.formRecord 3 0 s.sys.ft e.bytes) { s with obs.telemEntries := [] }

/-- TELEM_PERIOD: fabric time reaches the next multiple of the period. -/
def State.telemPeriod (s : State) : State :=
  let c := s.obs.select
  if ¬ c.telemEnable ∨ s.sys.mode = .reset ∨ s.sys.mode = .prepare then s
  else
    let p := Nat.max 1 c.telemMs * 1000000
    let s := s.advanceTo ((s.sys.ft / p + 1) * p)
    let s := (List.range 80).foldl (fun s b => s.formRecord 0 b s.sys.ft (blockBytes s.obs.counters b)) s
    ((List.range 8).filter fun k => (s.obs.focus.get k).valid).foldl
      (fun s k => s.formRecord 2 k s.sys.ft (s.obs.focus.get k).bytes) s

/-! ### Bandwidth windows (R422) -/

/-- The window of point x ends now; a record goes out with TELEM_BW. -/
def State.endWindow (s : State) (x : Nat) : State :=
  let b := s.obs.bandwidth.get x
  let n : Bandwidth :=
    { start := s.sys.ft, seq := b.seq + 1, lastEnd := s.sys.ft, lastLen := BitVec.ofNat 32 (Nat.min (s.sys.ft - b.start) ((s.obs.points.get x).windowUs * 1000)),
      lastSeq := b.seq + 1, lastRx := b.rx, lastTx := b.tx }
  let s := { s with obs.bandwidth := s.obs.bandwidth.set x n }
  if (s.obs.points.get x).telemBw then s.formRecord 1 x s.sys.ft n.bytes else s

/-- BANDWIDTH_WINDOW: fabric time reaches the end of point x's window. -/
def State.bandwidthWindow (s : State) (x : Nat) : State :=
  if s.sys.mode = .reset ∨ s.sys.mode = .prepare then s
  else
    let p := (s.obs.points.get x).windowUs * 1000
    (s.advanceTo ((s.sys.ft / p + 1) * p)).endWindow x

/-! ### Freeze and archive (R427, R429) -/

/-- The ring of the log as an archive slot or a warm reset keeps it. -/
def State.archiveLog (s : State) : State :=
  let st := s.obs.status
  let a : Archive :=
    { valid := true, cause := st.freezeCause, freezeTime := s.obs.freezeTime, status := st,
      provisionedId := Config.provisionedId, epoch := s.tab.epoch, archiveSeq := s.obs.archiveSeq, ring := s.obs.log.cells }
  let s := s.dropStore (0x3B0000000 + 0x400000 * st.archiveNext.toNat) 0x400000
  { s with
    obs.archives := s.obs.archives.set st.archiveNext.toNat a
    obs.archiveSeq := s.obs.archiveSeq + 1
    obs.status := { st with archiving := false, archiveNext := st.archiveNext + 1 }
    obs.archived := true }

/-- The log resumes (R427, R429): HOLDOFF_S runs after a maskable freeze, and an always-on cause met during the copy is
taken. -/
def State.resumeLog (s : State) : State :=
  let maskable := decide (4 ≤ s.obs.status.freezeCause.toNat)
  let s := { s with
    obs.status := { s.obs.status with frozen := false }
    obs.holdoffEnd := if maskable then s.sys.ft + s.obs.select.holdoffS * 1000000000 else s.obs.holdoffEnd }
  match s.obs.freezeAfter with
  | some c => { s with obs.freezeAfter := none }.freezeNow c 0
  | none => s

/-- The command that LOG_FREEZE runs, while its copy is made. -/
def State.freezeTicket (s : State) : Option Nat :=
  (s.mgmt.running.find? fun r => r.started && (match r.instr with
    | .logFreeze _ => true
    | _ => false)).map (·.ticket)

/-- ARCHIVE_DONE. -/
def State.archiveDone (s : State) : State :=
  if ¬ s.obs.status.archiving ∨ s.sys.mode = .reset ∨ s.sys.mode = .prepare then s
  else
    let slot := s.obs.status.archiveNext.toNat
    let s := s.archiveLog
    let s := if s.obs.status.freezeCause = 2 then s else s.resumeLog
    match s.freezeTicket with
    | some t => s.complete t rcSuccess [BitVec.ofNat 8 slot]
    | none => s

/-- MASKABLE_FREEZE. -/
def State.maskableFreeze (s : State) : State := if s.obs.status.frozen then s else s.freezeDue

/-- One byte into a CRC-32 with polynomial 0x1EDC6F41, bit-reflected (PRESUMED, log entry 42). -/
def crcByte (c : BitVec 32) (b : Byte) : BitVec 32 :=
  (List.range 8).foldl (fun (c : BitVec 32) _ => if c.getLsbD 0 then (c >>> 1) ^^^ 0x82F63B78 else c >>> 1)
    (c ^^^ b.setWidth 32)

/-- CRC-32 over the ring copy. -/
def Archive.crc (a : Archive) : BitVec 32 :=
  let t : Tbl ({} : LogEntry) := ⟨a.ring⟩
  ~~~ (List.range 65536).foldl (fun c k => (t.get k).bytes.foldl crcByte c) 0xFFFFFFFF

/-- Byte i of an archive slot (R429). -/
def Archive.byte (a : Archive) (i : Nat) : Byte :=
  if i < 64 then
    let crc := if 40 ≤ i ∧ i < 44 then a.crc.toNat else 0
    BitVec.ofNat 8 (field (pack [(32, 0x4C545242), (4, a.cause.toNat), (28, 0), (64, a.freezeTime), (64, a.status.word),
      (48, a.provisionedId.toNat), (16, 0), (32, a.epoch.toNat), (32, a.archiveSeq.toNat), (32, crc)]) (8 * i) 8)
  else if i < 64 + 32 * 65536 then
    ((⟨a.ring⟩ : Tbl ({} : LogEntry)).get ((i - 64) / 32)).bytes.getD ((i - 64) % 32) 0
  else 0

/-! ### Alerts (R430) -/

/-- The payload of an alert IBI: MDB 0xE1 and the latest alert's SEQ. -/
def alertBytes (n : U32) : List Byte := 0xE1 :: leBytes n.toNat 4

/-- ALERT_IBI on port k: at most one per 1 ms while new alert entries exist. -/
def State.alertIbi (s : State) (k : Nat) : State :=
  let i3c := if k = 0 then s.mgmt.i3c0 else s.mgmt.i3c1
  let last := if k = 0 then s.obs.ibi0 else s.obs.ibi1
  match if k = 0 then s.obs.alert0 else s.obs.alert1 with
  | none => s
  | some n =>
    if ¬ i3c.ibiEnabled ∨ i3c.dynAddr.isNone ∨ s.sys.mode = .reset then s
    else
      let s := match last with
        | some t => s.advanceTo (t + 1000000)
        | none => s
      let s := s.emit (.i3c k (alertBytes n))
      if k = 0 then { s with obs.alert0 := none, obs.ibi0 := some s.sys.ft }
      else { s with obs.alert1 := none, obs.ibi1 := some s.sys.ft }

/-! ### Commands -/

/-- A block that COUNTER_READ does not have. -/
def counterBlockBad (k b : Nat) : Bool :=
  decide (4 < k) || (k == 0 && decide (80 ≤ b)) || (k == 1 && decide (72 ≤ b)) || (k == 2 && decide (8 ≤ b))
    || (k == 3 && decide (4096 ≤ b)) || (k == 4 && decide (32768 ≤ b))

/-- Block b of kind k (R420). -/
def State.counterBlock (s : State) (k b : Nat) : List Byte :=
  let now := leBytes s.sys.ft 8
  match k with
  | 0 => now ++ blockBytes s.obs.counters b
  | 1 => (s.obs.bandwidth.get b).bytes
  | 2 => now ++ (s.obs.focus.get b).bytes
  | 3 => now ++ leBytes (s.tab.meterState.get b).toNat 64
  | _ => ((s.obs.snapshots.get (b / 32)).bytes.drop (2048 * (b % 32))).take 2048

/-- COUNTER_READ (R420). -/
def State.cmdCounterRead (s : State) (i : Instr) (h : CmdHdr) (kind : Byte) (block : U16) : State :=
  let k := kind.toNat
  let b := block.toNat
  s.command i h
    { opcode := 0xC601, len := 3, scope := if k = 3 then .tenant b else .fm, bad := counterBlockBad k b } none fun s _ =>
    .done s rcSuccess (s.counterBlock k b)

/-- LOG_READ (R426). -/
def State.cmdLogRead (s : State) (i : Instr) (h : CmdHdr) (first : U32) (count : Byte) : State :=
  s.command i h { opcode := 0xC701, len := 5, bad := decide (63 < count.toNat) || decide (65535 < first.toNat) } none
    fun s _ =>
      .done s rcSuccess ((List.range count.toNat).flatMap fun k => (s.obs.log.get ((first.toNat + k) % 65536)).bytes)

/-- LOG_FREEZE (R427, R429): it completes when its copy is done. -/
def State.cmdLogFreeze (s : State) (i : Instr) (h : CmdHdr) : State :=
  s.command i h { opcode := 0xC702, changes := true } none fun s _ =>
    if s.obs.status.frozen ∧ ¬ s.obs.status.archiving then
      .done s rcSuccess [BitVec.ofNat 8 (s.obs.status.archiveNext - 1).toNat]
    else .wait (s.freezeAlways 1)

end Sys2Proof.Machine
end

