-- ==== Sys2Proof/Machine/ConfigApply.lean ====
section
/-! DEFINITION. What Bolroth does after a flip (R385): tenants and queue pairs (R23, R179), meters (R165), parameters of
ports, trunks, slots, the directory and the counters, and the single-copy entries (R31 to R33, R103, R210). -/

namespace Sys2Proof.Machine

/-! ### Tenants (R23, R165, R179, R180, R471) -/

/-- Does a change of images increment tenant n's GEN (R23)? It is created, unbound or removed. -/
def genChanges (old new : Plan) (n : Nat) : Bool :=
  match old.tenant n, new.tenant n with
  | none, some _ => true
  | some _, none => true
  | some a, some b => a.entry.valid && !b.entry.valid
  | none, none => false

/-- Tenant numbers that either image holds. -/
def bothTenants (old new : Plan) : List Nat := ((old.tenants ++ new.tenants).map (·.number)).eraseDups

/-- Return a removed tenant's queue pairs to the pool; QP_GEN stays (R199). -/
def State.returnQps (s : State) (n : Nat) : State :=
  (s.wq.qps.find fun _ k => k.state != .unassigned && k.tenant == n).foldl
    (fun s q => s.updQp q fun k => { qpGen := k.qpGen }) s

/-- Assign one queue pair to tenant n of a host port: the lowest free number and doorbell page. -/
def State.assignQp (s : State) (n port : Nat) : State :=
  let taken := (s.wq.qps.cells.filter fun c => c.2.state != .unassigned && c.2.hostPort == port).map (·.2.dbPage)
  match (List.range 4096).find? (fun q => (s.qp q).state == .unassigned),
      (List.range 4096).find? (fun g => decide (1 ≤ g) && !taken.contains g) with
  | some q, some g =>
    s.updQp q fun k => { state := .disabled, tenant := n, hostPort := port, dbPage := g, qpGen := k.qpGen }
  | _, _ => s

/-- Fill tenant n's meter and shaper (R165): on creation, or as METER_EN or SHAPER_EN rises. `before` is the meter in force
before the flip. -/
def State.fillMeter (s : State) (n : Nat) (created : Bool) (before : MeterCfg) : State :=
  let m := s.bank.meters.get n
  let rises := (m.meterEn && !before.meterEn) || (m.shaperEn && !before.shaperEn)
  let fill (k : MeterState) : MeterState :=
    let k := if created || rises then k.fill m s.sys.ft else k
    if created then { k with green := 0, yellow := 0, red := 0 } else k
  { s with tab.meterState := s.tab.meterState.upd n fill }

/-- Generations, queue pairs and meters at a flip from `old` to `new`; `was` is the bank before it. -/
def State.applyTenants (s : State) (old new : Plan) (was : Bank) : State :=
  (bothTenants old new).foldl (fun (s : State) (n : Nat) =>
    let s := if genChanges old new n then { s with tab.gens := s.tab.gens.upd n (· + 1) } else s
    match old.tenant n, new.tenant n with
    | some _, none => s.returnQps n
    | none, some t =>
      let s := (List.range t.qpCount).foldl (fun (s : State) _ => s.assignQp n t.entry.hostPort) s
      s.fillMeter n true (was.meters.get n)
    | _, _ => s.fillMeter n false (was.meters.get n)) s

/-! ### Parameters -/

/-- Does a change of the PORT record bring the link down (R472, cause 6)? -/
def PortParam.linkChange (a b : PortParam) : Bool :=
  (a.width, a.maxRate, a.sris, a.mld, a.ideRequired, a.ideMode) != (b.width, b.maxRate, b.sris, b.mld, b.ideRequired, b.ideMode)

/-- The PORT record of edge port p takes effect: a BOUND port written UNBOUND keeps its binding (R379). -/
def State.applyPort (s : State) (p : Nat) (old new : PortParam) : State :=
  let k := s.port p
  let role := if k.role = .bound ∧ new.role = .unbound then Role.bound else new.role
  let s := if k.dlUp ∧ (role ≠ k.role ∨ old.linkChange new) then s.linkLost p 6 false else s
  if role = k.role then s
  else
    let s := { s with edge.binds := (s.edge.binds.find fun _ b => match b with
        | some (q, _) => q == p
        | none => false).foldl (fun t i => t.set i none) s.edge.binds }
    s.updPort p fun k =>
      { k with
        role := role, dpc := false, memberReady := false, memberFailed := false, memberLost := false, hostPower := false
        training := s.portsRun && (match role with
          | .host => s.edge.hostPortsStarted
          | .poolMember => !k.perst
          | .unbound => s.edge.hostPortsStarted && !k.perst
          | _ => false) }

/-- A new gate list takes over as the old one's cycle ends (R175). -/
def State.applyGates (s : State) (x : Nat) (l : GateList) : State :=
  let now := listAt (s.dp.gateNow.get x) (s.dp.gateNext.get x) s.sys.ft
  if now = l then { s with dp.gateNow := s.dp.gateNow.set x l, dp.gateNext := s.dp.gateNext.set x none }
  else if now.entries.isEmpty ∨ now.cycleTime = 0 then
    { s with dp.gateNow := s.dp.gateNow.set x l, dp.gateNext := s.dp.gateNext.set x none }
  else
    { s with
      dp.gateNow := s.dp.gateNow.set x now
      dp.gateNext := s.dp.gateNext.set x (some (s.sys.ft + (now.cycleTime - now.position s.sys.ft), l)) }

/-- The TRUNK record of trunk t takes effect (R257, R263): a change of RATE, MODE or ENABLE ends ACTIVE. -/
def State.applyTrunk (s : State) (t : Nat) (old : TrunkParam) : State :=
  let new := s.trunkParam t
  let changed := (old.rate, old.compat, old.enable) != (new.rate, new.compat, new.enable)
  let k := s.trunk t
  if k.phase = .active then (if changed then s.leaveActive t 0x13 else s)
  else if ¬ new.enable then s.updTrunk t fun k => { k with phase := .off, retrying := false, retired := false }
  else if old ≠ new then s.startTrunk t
  else s

/-- The SLOT_POWER record of channel n takes effect at the next control tick: the breaker counters of changed points start
again (R315, R323). -/
def State.applySlot (s : State) (n : Nat) (old new : SlotParam) : State :=
  if old = new then s
  else s.updChan n fun c =>
    { c with breaker := c.breaker.zipIdx.map fun b => if old.curve[b.2]? = new.curve[b.2]? then b.1 else 0 }

/-- COUNTER_SELECT takes effect (R415, R417, R422, R424). -/
def State.applySelect (s : State) (p : Plan) : State :=
  let old := s.obs.points
  let s := ((List.range 72).filter fun x => (old.get x).windowUs != (p.points.get x).windowUs).foldl
    (fun (s : State) (x : Nat) => s.endWindow x) s
  let focus := (List.range 8).foldl (fun (t : Tbl ({} : Focus)) (j : Nat) =>
    let f := p.select.focus.getD j 0
    if f = s.obs.select.focus.getD j 0 then t
    else t.set j { point := field f 0 7, valid := f.testBit 7, start := if f.testBit 7 then s.sys.ft else 0 }) s.obs.focus
  let keys := (s.obs.counters.keys ++ p.levels).eraseDups
  let counters := keys.foldl (fun (t : Tbl ({} : Counter)) (c : Nat) =>
    t.upd c fun k => { k with level := p.levels.contains c }) s.obs.counters
  { s with obs.points := p.points, obs.select := p.select, obs.focus := focus, obs.counters := counters }

/-- The parameters of an image take effect. -/
def State.applyParams (s : State) (p : Plan) : State :=
  let ports := s.tab.ports
  let slots := s.slots.params
  let trunks := s.trk.params
  let s := s.slotTicks
  let s := { s with
    tab.ports := p.ports, tab.dirParam := p.dir, tab.ident := p.ident, tab.policy := p.policy
    slots.params := p.slots, trk.params := p.trunks }
  let s := (List.range 64).foldl (fun (s : State) (n : Nat) => s.applySlot n (slots.get n) (p.slots.get n)) s
  let s := (List.range 64).foldl (fun (s : State) (x : Nat) => s.applyPort x (ports.get x) (p.ports.get x)) s
  let s := (List.range 8).foldl (fun (s : State) (t : Nat) => s.applyTrunk t (trunks.get t)) s
  let s := (List.range 72).foldl (fun (s : State) (x : Nat) => s.applyGates x (s.bank.gates.get x)) s
  let s := s.applySelect p
  { s with dp.freed := true }

/-! ### Home tile map entries (R210, R382) -/

/-- The live value that the configuration store holds for home tile n beside an image's own (R382). -/
def State.imageTile (s : State) (p : Plan) (n : Nat) : HtEntry :=
  match s.mgmt.cfg.liveImage.get n with
  | some e => e
  | none => ((p.homes.find? (·.1 == n)).map (·.2)).getD {}

/-- The live values that Bolroth writes into an image for the entries that differ from it. -/
def State.writeLive (s : State) (p : Plan) : State :=
  let t : Tbl (none : Option HtEntry) := p.homes.foldl (fun t e =>
    let v := s.tab.ht.get e.1
    if v = e.2 then t else t.set e.1 (some v)) .empty
  { s with mgmt.cfg.liveImage := t }

/-- A commit writes home entry n (R210): its committed fields, and a change of live fields that R210 allows. -/
def State.applyHome (s : State) (first : Bool) (n : Nat) (e : HtEntry) : State :=
  let v := s.tab.ht.get n
  let moves := first || bringUp v e || takeDown v e || newPlace v e
  let w : HtEntry := if moves then e else { v with attr := e.attr, shareId := e.shareId }
  let undo := s.mgmt.cfg.undo
  let s := if moves && w != v then
      { s with mgmt.cfg.undo := { undo with tiles := undo.tiles ++ [(n, v, w)] } } else s
  { s with tab.ht := s.tab.ht.set n w }

/-! ### Translation entries (R20, R31 to R33) -/

/-- Host port, window and pool-view DPA tile of translation entry n, under the current bank or, for a window that the flip
has removed, the other: an entry that no window of the image holds is still offered and asked back by its former window, and
without one changes its state with no event (DESIGN CHOICE, log entry 68). -/
def State.entryPlace (s : State) (n : Nat) : Option (Nat × Nat × Nat) :=
  ((s.bank.windows.cells ++ (s.tab.bank (!s.tab.cur)).windows.cells).find? fun c =>
    c.2.valid && decide (c.2.ttBase ≤ n) && decide (n ≤ c.2.ttBase + c.2.tilesM1)).map fun c =>
      (c.2.hostPort, c.1, c.2.baseTile + (n - c.2.ttBase) - (s.param c.2.hostPort).decBaseTile)

/-- Gather rising translation entries into extents of one window, ATTR and SHARE_ID (R20): each with its host port and
window. -/
def State.extents (s : State) (l : List Nat) : List (Nat × Nat × Extent) :=
  (l.foldl (fun (acc : List (Nat × Nat × Extent)) (n : Nat) =>
    match s.entryPlace n with
    | none => acc
    | some (p, w, d) =>
      let e := s.tab.tt.get n
      let new : Nat × Nat × Extent := (p, w, { tt := n, count := 1, dpa := d, shareId := e.shareId, shared := e.attr != .priv })
      match acc with
      | (q, v, x) :: rest =>
        let last := s.tab.tt.get x.tt
        if q = p ∧ v = w ∧ x.tt + x.count = n ∧ x.count < 4096 ∧ last.attr = e.attr ∧ last.shareId = e.shareId then
          (q, v, { x with count := x.count + 1 }) :: rest
        else new :: acc
      | [] => [new]) []).reverse

/-- Offer EMPTY entries with their new values: each extent's Add Capacity event is queued, and its add timeout armed; after
a warm reset the events wait for DL_UP (R32, R340, R404). -/
def State.offer (s : State) (l : List (Nat × TtEntry)) (warm : Bool) : State :=
  let tt : Tbl ({} : TtEntry) := l.foldl (fun t e => t.set e.1 { e.2 with state := .offered }) s.tab.tt
  let s := { s with tab.tt := tt, dp.freed := true }
  let due := s.sys.ft + s.tab.ident.addS * 1000000000
  (s.extents (l.map (·.1))).foldl (fun (s : State) (x : Nat × Nat × Extent) =>
    let pv := s.edge.pools.get x.1
    let a : AddEvent := { extent := x.2.2, due := if warm then none else some due }
    let pv' : PoolView := { pv with adds := pv.adds ++ [a] }
    let s := { s with edge.pools := s.edge.pools.set x.1 pv' }
    if warm then s else (s.addCapacity x.1 x.2.2).journal 3 0) s

/-- Does an extent still hold an OFFERED entry? -/
def State.stillOffered (s : State) (e : Extent) : Bool :=
  (List.range e.count).any fun i => (s.tab.tt.get (e.tt + i)).state == .offered

/-- Add Capacity events whose whole offer is gone are no longer unanswered. -/
def State.dropAdds (s : State) : State :=
  s.edge.pools.keys.foldl (fun (s : State) (p : Nat) =>
    let pv := s.edge.pools.get p
    let pv' : PoolView := { pv with adds := pv.adds.filter fun a => s.stillOffered a.extent }
    { s with edge.pools := s.edge.pools.set p pv' }) s

/-- Withdraw entries (R31, R33): an offer ends; an ACTIVE entry is asked back by a Release Capacity event, or, forced, goes to
RELEASING and is reported as removed. -/
def State.withdraw (s : State) (l : List (Nat × Bool)) : State :=
  let live := l.filter fun e => (s.tab.tt.get e.1).state == .active
  let asked := s.extents ((live.filter fun e => !e.2).map (·.1))
  let forced := s.extents ((live.filter (·.2)).map (·.1))
  let tt : Tbl ({} : TtEntry) := l.foldl (fun t e =>
    let v := t.get e.1
    match v.state with
    | .offered => t.set e.1 {}
    | .active => if e.2 then t.set e.1 { v with state := .releasing } else t
    | _ => t) s.tab.tt
  let s := { s with tab.tt := tt, dp.freed := true }.dropAdds
  let tell (s : State) (kind : Nat) (x : Nat × Nat × Extent) : State :=
    s.poolEvent x.1 4 kind [x.2.2.dpa, x.2.2.count, x.2.2.shareId, b2n x.2.2.shared, x.2.2.tt]
  forced.foldl (fun s x => tell s 3 x) (asked.foldl (fun s x => tell s 2 x) s)

/-- The snoop address map: one entry for each SHARED_COHERENT translation entry in use, in the bucket of its port and tile (R103). -/
def State.buildSnoop (s : State) : State :=
  let l := (s.tab.tt.cells.filter fun c => c.2.state != .empty) ++ s.mgmt.cfg.reoffer
  let entries := snoopEntries (fun n => (s.entryPlace n).map fun x => (x.1, x.2.1)) l
  { s with tab.snoop := Tbl.ofList ((entries.filter (·.1 < 4)).map fun e =>
      (snoopBucket e.2.port e.2.homeRank e.2.homeTile + e.1, e.2)) }

/-- A commit writes the translation entries (R31). A granted entry that is EMPTY again, because its host omitted, let time out or
released it, is offered again (DESIGN CHOICE, log entry 79); an entry no longer granted that is still ACTIVE is asked back again by
every later commit (DESIGN CHOICE, log entry 80). -/
def State.applyEntries (s : State) (p : Plan) : State :=
  let granted := p.granted
  let force (n : Nat) : Bool := p.entries.any fun e => e.1 == n && e.2.2
  let gone := (s.tab.tt.find fun n e => e.state != .empty && !granted.any (·.1 == n)).map fun n => (n, force n)
  let s := s.withdraw gone
  let s := granted.foldl (fun (s : State) (g : Nat × TtEntry) =>
    let v := s.tab.tt.get g.1
    if v.state = .active ∧ (v.homeRank ≠ g.2.homeRank ∨ v.homeTile ≠ g.2.homeTile) then
      let w : TtEntry := { v with homeRank := g.2.homeRank, homeTile := g.2.homeTile }
      let undo := s.mgmt.cfg.undo
      { s with tab.tt := s.tab.tt.set g.1 w, mgmt.cfg.undo := { undo with tts := undo.tts ++ [(g.1, v, w)] } }
    else s) s
  let s := { s with mgmt.cfg.reoffer := s.mgmt.cfg.reoffer.filter fun r => granted.any fun g => g.1 == r.1 && g.2.sameGrant r.2 }
  s.offer (granted.filter fun g => (s.tab.tt.get g.1).state == .empty) false

end Sys2Proof.Machine
end

