-- ==== Sys2Proof/Machine/ConfigCommit.lean ====
section
/-! DEFINITION. Configuration versions (R381, R384 to R389): staging, commit, flip, confirmation, rollback, restoration
after a warm reset, and the commands that read them. -/

namespace Sys2Proof.Machine

/-- Number of a commit phase (R384). -/
def commitNo : Phase → Nat
  | .idle => 0 | .validating => 1 | .writing => 2 | .flipped => 3 | .rollingBack => 4

/-- STATE_CONFLICT that names the configuration. -/
def State.cfgConflict (s : State) : CmdRes := conflict s 7 0 (commitNo s.mgmt.cfg.phase)

/-- Change the commit phase, with its COMMIT_PHASE record (R388). -/
def State.setPhase (s : State) (p : Phase) : State := State.journal { s with mgmt.cfg.phase := p } 4 0

/-- The lowest image slot that holds no image (R381). -/
def Versions.freeSlot (c : Versions) : Nat :=
  ((List.range 3).find? fun k => c.staged != some k && c.current != some k && c.previous != some k).getD 0

/-! ### Staging (R381) -/

/-- CONFIG_STAGE_WRITE. -/
def State.cmdConfigStageWrite (s : State) (i : Instr) (h : CmdHdr) (off len : U32) (bytes : List Byte) : State :=
  s.command i h { opcode := 0xC001, len := 8 + len.toNat, bad := decide (2040 < len.toNat), changes := true
                  object := some (7, 0) } none fun s _ =>
    let c := s.mgmt.cfg
    if c.phase ≠ .idle ∧ c.phase ≠ .flipped then s.cfgConflict
    else if off = 0 ∧ len = 0 then ok { s with mgmt.cfg.staged := none, mgmt.cfg.stagedLen := 0 }
    else if 2 ^ 26 < off.toNat + len.toNat then .done s rcExhausted []
    else if len = 0 then ok s
    else
      let k := c.staged.getD c.freeSlot
      let had := if c.staged.isSome then c.stagedLen else 0
      ok { s.dropStore (0x3A0000000 + 0x4000000 * k + off.toNat) len.toNat with
        mgmt.cfg.staged := some k, mgmt.cfg.stagedLen := Nat.max had (off.toNat + len.toNat)
        mgmt.cfg.slots := c.slots.upd k fun b => patchBytes b off.toNat (sliceOf bytes 0 len.toNat) }

/-! ### Shadow banks (R385, R155) -/

/-- The bank that an image fills: locked regions keep their entries. -/
def State.bankOf (s : State) (p : Plan) : Bank :=
  let keep := ((List.range 77).flatMap fun k => ((List.range 8).map fun g => (k, 56 + g))).filter fun r =>
    s.regionLocked r.1 r.2
  { p.bank with regions := keep.foldl (fun t r => t.set (64 * r.1 + r.2) (s.bank.region r.1 r.2)) p.bank.regions }

/-- Write one of the two banks. -/
def State.setBank (s : State) (b : Bool) (x : Bank) : State :=
  if b then { s with tab.bank1 := x } else { s with tab.bank0 := x }

/-- A validated image is on its way: the shadow bank is written, and the flip is to come. -/
def State.writeShadow (s : State) (slot : Nat) (p : Plan) : State :=
  let s := ((s.setPhase .validating).setPhase .writing).setBank (!s.tab.cur) (s.bankOf p)
  { s with mgmt.cfg.toFlip := some slot }

/-- Validation fails: the phase was VALIDATING and is IDLE again (R384, R388). -/
def State.validationFailed (s : State) (f : CfgFail) : CmdRes :=
  .failed ((s.setPhase .validating).setPhase .idle) f.code (s.failBytes 1 f)

/-- The failure that R60 gives while the old epoch is undrained: it names the image's RECIPE_BANK record. -/
def undrainedFail (recs : List CfgRec) : CfgFail :=
  ((recs.find? (·.type == 0x0070)).getD (omitted 0x0070 0xFF 0)).fail

/-- Base of an image slot in the configuration store (log entry 49). -/
def slotBase (k : Nat) : Nat := 0x3A0000000 + 0x4000000 * k

/-- An image as it is read (R124): from one copy, and from the other where its digest is not `want`. -/
def State.readImage (s : State) (k : Nat) (img : List Byte) (want : BitVec 256) : List Byte :=
  if ¬ s.flipped (slotBase k) 0x4000000 then img
  else
    let first := s.copyBytes (slotBase k) img false
    if imageDigest (imageRecs first) = want then first
    else
      let other := s.copyBytes (slotBase k) img true
      if imageDigest (imageRecs other) = want then other else first

/-- CONFIG_COMMIT (R383, R384). -/
def State.cmdConfigCommit (s : State) (i : Instr) (h : CmdHdr) (base : U32) (digest : BitVec 256) : State :=
  s.command i h { opcode := 0xC002, len := 36, changes := true, object := some (7, 0) } none fun s _ =>
    let c := s.mgmt.cfg
    match c.staged with
    | none => s.cfgConflict
    | some k =>
      let img := s.readImage k (c.slots.get k) digest
      if c.phase ≠ .idle ∨ (c.current.isSome ∧ s.tab.epoch = 0) then s.cfgConflict
      else if c.undrained.isSome then .done s rcConflict (s.failBytes 0 (undrainedFail (imageRecs img)))
      else
        match s.validateImage img c.stagedLen base.toNat (some digest) with
        | .error f => s.validationFailed f
        | .ok p => .wait (s.writeShadow k p)

/-! ### The flip (R385) -/

/-- The L command that works on the configuration, when one runs, completes with an epoch. -/
def State.completeCfg (s : State) (epoch : U32) : State :=
  match s.mgmt.running.find? fun r => r.started && r.object == some (7, 0) with
  | some r => s.complete r.ticket rcSuccess (leBytes epoch.toNat 4)
  | none => s

/-- Every bank select changes and EPOCH takes its new value; the old epoch drains (R59, R83, R385). -/
def State.flipBanks (s : State) (epoch : U32) : State :=
  let old := s.tab.epoch
  let s := { s with
    tab.cur := !s.tab.cur, tab.epoch := epoch
    mgmt.cfg.undrained := some (BitVec.ofNat 8 old.toNat, old, epoch), dp.freed := true }
  (s.countGlobal 208).log 0x0504 0 [(4, old.toNat), (4, epoch.toNat)]

/-- Steps 1 to 3 of a flip to the image in slot k: the bank selects and EPOCH, the versions, the confirm deadline, and the
records of the flip and of its phase. -/
def State.flipTo (s : State) (k : Nat) : State :=
  let c := s.mgmt.cfg
  let new := s.planAt (some k)
  let oldEpoch := s.tab.epoch
  let dg := imageDigest new.recs
  let s := s.flipBanks (BitVec.ofNat 32 new.head.epoch)
  let s := { s with
    mgmt.cfg.slots := s.mgmt.cfg.slots.upd k fun b => patchBytes b 32 (digestOut dg)
    mgmt.cfg.staged := (if c.staged = some k then none else c.staged)
    mgmt.cfg.current := some k, mgmt.cfg.previous := c.current
    mgmt.cfg.digest := dg, mgmt.cfg.prevDigest := c.digest, mgmt.cfg.prevEpoch := oldEpoch
    mgmt.cfg.toFlip := none, mgmt.cfg.confirmDeadline := some (s.sys.ft + new.ident.confirmS * 1000000000)
    mgmt.cfg.undo := {}, mgmt.cfg.liveImage := .empty }
  (s.setPhase .flipped).journal 3 0

/-- What follows a flip from `old`, whose bank was `was`, to `new`: tenants, parameters, home entries, translation entries and
the snoop map. -/
def State.applyFlip (s : State) (old new : Plan) (was : Bank) : State :=
  let s := (s.applyTenants old new was).applyParams new
  let s := new.homes.foldl (fun (s : State) (e : Nat × HtEntry) => s.applyHome (old.head.epoch == 0) e.1 e.2) s
  ((s.applyEntries new).writeLive new).buildSnoop

/-- EPOCH_FLIP. -/
def State.epochFlip (s : State) : State :=
  match s.mgmt.cfg.toFlip with
  | none => s
  | some k =>
    if s.mgmt.cfg.phase ≠ .writing ∨ ¬ s.bolrothRuns then s
    else
      let new := s.planAt (some k)
      ((s.flipTo k).applyFlip s.curPlan new s.bank).completeCfg (BitVec.ofNat 32 new.head.epoch)

/-- EPOCH_DRAINED (R83): the old epoch has no live entry left. -/
def State.epochDrained (s : State) : State :=
  match s.mgmt.cfg.undrained with
  | none => s
  | some (lo, old, new) =>
    if s.dp.live.get lo.toNat ≠ 0 then s
    else { s with mgmt.cfg.undrained := none }.log 0x0505 0 [(4, old.toNat), (4, new.toNat)]

/-! ### Rollback (R387) -/

/-- A rollback starts (steps 1 and 2): cause 0 is the command, 1 the confirm deadline. Queue pairs of tenants that the
previous image does not hold bound stop as R198 states (R471). -/
def State.startRollback (s : State) (cause : Nat) : State :=
  let prev := s.planAt s.mgmt.cfg.previous
  let gone (n : Nat) : Bool := match prev.tenant n with
    | some t => !t.entry.valid
    | none => true
  let s := { s with mgmt.cfg.confirmDeadline := none, mgmt.cfg.rollback := some cause }.setPhase .rollingBack
  (s.wq.qps.find fun _ k => k.state != .unassigned && gone k.tenant).foldl (fun s q => (s.cancelEnable q).stopLinkDown q) s

/-- The confirm deadline passes in FLIPPED, unless a handover keeps it waiting (R343, R392). -/
def State.deadlinePassed (s : State) : State :=
  match s.mgmt.cfg.confirmDeadline with
  | some d => if s.mgmt.cfg.phase = .flipped ∧ d ≤ s.sys.ft ∧ s.bolrothRuns then s.startRollback 1 else s
  | none => s

/-- CONFIRM_DEADLINE: fabric time reaches the deadline. -/
def State.confirmDue (s : State) : State :=
  match s.mgmt.cfg.confirmDeadline with
  | some d => if s.mgmt.cfg.phase = .flipped ∧ s.bolrothRuns then (s.advanceTo d).startRollback 1 else s
  | none => s

/-- CONFIG_CONFIRM (R386). -/
def State.cmdConfigConfirm (s : State) (i : Instr) (h : CmdHdr) (epoch : U32) : State :=
  s.deadlinePassed.command i h { opcode := 0xC003, len := 4, changes := true, object := some (7, 0) } none fun s _ =>
    match s.mgmt.cfg.phase with
    | .flipped =>
      if epoch ≠ s.tab.epoch then .done s rcEpoch []
      else ok ({ s with mgmt.cfg.confirmDeadline := none }.setPhase .idle)
    | .idle => if epoch ≠ s.tab.epoch then .done s rcEpoch [] else ok s
    | _ => s.cfgConflict

/-- CONFIG_ROLLBACK (R387). -/
def State.cmdConfigRollback (s : State) (i : Instr) (h : CmdHdr) (epoch : U32) : State :=
  s.deadlinePassed.command i h { opcode := 0xC004, len := 4, changes := true, object := some (7, 0) } none fun s _ =>
    let c := s.mgmt.cfg
    if epoch ≠ s.tab.epoch then .done s rcEpoch []
    else if c.previous.isNone ∨ (c.phase ≠ .idle ∧ c.phase ≠ .flipped) then s.cfgConflict
    else .wait (s.startRollback 0)

/-- May every generation change of the rollback be made (R23), with the queue pairs of removed tenants stopped? -/
def State.rollbackReady (s : State) (old new : Plan) : Bool :=
  (bothTenants old new).all fun n =>
    !(genChanges old new n && s.oldGenTxn n) && ((new.tenant n).isSome || s.tenantQuiet n)

/-- The rollback's writes of translation entries (R387, step 5). -/
def State.restoreEntries (s : State) (rolled prev : Plan) : State :=
  let rewritten (n : Nat) : Bool := s.mgmt.cfg.undo.tts.any (·.1 == n)
  let kept (n : Nat) (e : TtEntry) (l : List (Nat × TtEntry)) : Bool :=
    l.any fun g => g.1 == n && (g.2.sameGrant e || rewritten n)
  let old := rolled.granted
  let new := prev.granted
  let s := s.withdraw ((old.filter fun g => !kept g.1 g.2 new).map fun g => (g.1, true))
  let s := s.mgmt.cfg.undo.tts.foldl (fun (s : State) (u : Nat × TtEntry × TtEntry) =>
    let v := s.tab.tt.get u.1
    if v.state ≠ .empty ∧ v.homeRank = u.2.2.homeRank ∧ v.homeTile = u.2.2.homeTile then
      { s with tab.tt := s.tab.tt.set u.1 { v with homeRank := u.2.1.homeRank, homeTile := u.2.1.homeTile } }
    else s) s
  let again := new.filter fun g => !kept g.1 g.2 old
  let s := { s with mgmt.cfg.reoffer := again.filter fun g => (s.tab.tt.get g.1).state != TtState.empty }
  s.offer (again.filter fun g => (s.tab.tt.get g.1).state == TtState.empty) false

/-- The rollback's writes of home tile map entries (R387, step 5). -/
def State.restoreHomes (s : State) (prev : Plan) : State :=
  let homes := prev.homes
  let names := (s.tab.ht.keys ++ homes.map (·.1)).eraseDups
  let s := names.foldl (fun (s : State) (n : Nat) =>
    let e := ((homes.find? (·.1 == n)).map (·.2)).getD {}
    { s with tab.ht := s.tab.ht.upd n fun v => { v with attr := e.attr, shareId := e.shareId } }) s
  s.mgmt.cfg.undo.tiles.foldl (fun (s : State) (u : Nat × HtEntry × HtEntry) =>
    let v := s.tab.ht.get u.1
    if v.live ≠ u.2.2.live then s
    else if u.2.1.state = .free ∧ u.2.2.state = .active then
      { s with mgmt.cfg.refree := s.mgmt.cfg.refree ++ [u.1] }
    else { s with tab.ht := s.tab.ht.set u.1 { u.2.1 with attr := v.attr, shareId := v.shareId } }) s

/-- The tenants, parameters and entries of a rollback from `rolled`, whose bank was `was`, to `prev` (R387 step 5). -/
def State.applyRollback (s : State) (rolled prev : Plan) (was : Bank) : State :=
  (((s.applyTenants rolled prev was).applyParams prev).restoreEntries rolled prev).restoreHomes prev

/-- The end of a rollback to `prev` (R387 step 6). -/
def State.endRollback (s : State) (prev : Plan) : State :=
  let c := s.mgmt.cfg
  let epoch := BitVec.ofNat 32 prev.head.epoch
  let s := { s with
    mgmt.cfg.current := c.previous, mgmt.cfg.previous := none, mgmt.cfg.digest := c.prevDigest
    mgmt.cfg.prevDigest := 0, mgmt.cfg.prevEpoch := 0, mgmt.cfg.undo := {}, mgmt.cfg.rollback := none }
  let s := ((s.writeLive prev).buildSnoop).setPhase .idle
  let s := (s.countGlobal 209).log 0x0506 1 [(4, epoch.toNat), (1, c.rollback.getD 0)]
  s.completeCfg epoch

/-- ROLLBACK_FLIP: steps 3 to 6 of R387. -/
def State.rollbackFlip (s : State) : State :=
  let rolled := s.curPlan
  let prev := s.planAt s.mgmt.cfg.previous
  if s.mgmt.cfg.phase ≠ .rollingBack ∨ ¬ s.bolrothRuns ∨ ¬ s.rollbackReady rolled prev then s
  else ((s.flipBanks (BitVec.ofNat 32 prev.head.epoch)).applyRollback rolled prev s.bank).endRollback prev

/-- What a rollback left to later: entries to offer again once EMPTY, and home tiles that return to FREE once unused. -/
def State.settleConfig (s : State) : State :=
  let c := s.mgmt.cfg
  if c.reoffer.isEmpty ∧ c.refree.isEmpty then s
  else
    let (now, later) := c.reoffer.partition fun r => (s.tab.tt.get r.1).state == .empty
    let s := { s with mgmt.cfg.reoffer := later }.offer now false
    let unused (n : Nat) : Bool := !s.mapsTile s.rank n && !s.jobOn n
    let (free, wait) := c.refree.partition unused
    let s := { s with mgmt.cfg.refree := wait }
    free.foldl (fun (s : State) (n : Nat) =>
      let v := s.tab.ht.get n
      if v.state = .active then
        let w : HtEntry := { v with state := .free }
        { s with tab.ht := s.tab.ht.set n w, mgmt.cfg.liveImage := s.mgmt.cfg.liveImage.set n (some w) }
      else s) s

/-! ### Images built by Bolroth (R382, R370) -/

/-- Entry i after e in a run. -/
def HtEntry.runStep (e : HtEntry) (i : Nat) : HtEntry :=
  { e with pTile := e.pTile + i, mTile := if e.mirrored then e.mTile + i else e.mTile }

/-- Gather entries that follow each other into runs: first index, count, first entry. -/
def runGroups (l : List (Nat × HtEntry)) : List (Nat × Nat × HtEntry) :=
  (l.foldl (fun (acc : List (Nat × Nat × HtEntry)) (e : Nat × HtEntry) =>
    match acc with
    | (n, c, h) :: rest => if n + c = e.1 ∧ h.runStep c = e.2 then (n, c + 1, h) :: rest else (e.1, 1, e.2) :: acc
    | [] => [(e.1, 1, e.2)]) []).reverse

/-- A record's bytes. -/
def recBytes (r : CfgRec) : List Byte :=
  leBytes (pack [(16, r.type), (8, r.scope), (8, 0), (32, r.body.length), (64, r.key)]) 16 ++ r.body

/-- The records of an image with the live values of its own rank: home entries by `value`, GEN by `gen` (R382). A run whose
entries no longer follow each other is split (log entry 45). -/
def liveRecs (p : Plan) (value : Nat → HtEntry) (gen : Nat → U16) : List CfgRec :=
  p.recs.flatMap fun r =>
    if ¬ r.applies p.rank then [r]
    else if r.type = 0x0020 then [{ r with body := patchBytes r.body 1 (leBytes (gen r.key).toNat 2) }]
    else if r.isHome then
      let u := RunRec.ofRec r
      (runGroups ((List.range u.count).map fun i => (u.first + i, value (u.first + i)))).map fun g =>
        { r with key := 2 ^ 63 + g.1, body := leBytes g.2.1 8 ++ leBytes g.2.2.toNat 16 }
    else [r]

/-- An image's bytes. -/
def imageOfRecs (epoch base : Nat) (digest : List Byte) (recs : List CfgRec) : List Byte :=
  let body := recs.flatMap recBytes
  leBytes (pack [(32, 0x31464343), (8, 1), (24, 0), (32, epoch), (32, base), (32, 64 + body.length), (32, recs.length),
    (64, 0)]) 32 ++ sliceOf digest 0 32 ++ body

/-- The current image as it stands in the store. -/
def State.currentImage (s : State) : List Byte :=
  let p := s.curPlan
  imageOfRecs p.head.epoch p.head.base (digestOut s.mgmt.cfg.digest)
    (liveRecs p (fun n => s.imageTile p n) (fun n => s.tab.gens.get n))

/-- An image slot's contents: the current image carries the live values that Bolroth has written (R382). -/
def State.imageAt (s : State) (k : Nat) : List Byte :=
  if s.mgmt.cfg.current = some k then s.currentImage else s.mgmt.cfg.slots.get k

/-- The image that unbinds or removes tenant n: one changed record of the current image. -/
def State.tenantImage (s : State) (n : Nat) (remove : Bool) : List Byte :=
  let p := s.curPlan
  let next := s.tab.epoch + 1
  let recs := (liveRecs p (fun k => s.tile k) (fun _ => 0)).filterMap fun r =>
    if r.type = 0x0020 ∧ r.key = n ∧ r.applies p.rank then
      if remove then none
      else
        let w := leNat (sliceOf r.body 0 8)
        some { r with body := leBytes (setField (setField w 6 1 0) 38 7 0) 8 }
    else some r
  imageOfRecs (if next = 0 then 1 else next.toNat) s.tab.epoch.toNat [] recs

/-- TENANT_UNBIND and TENANT_REMOVE (R370, R471). -/
def State.tenantChange (s : State) (n : Nat) (base : U32) (remove : Bool) : CmdRes :=
  let c := s.mgmt.cfg
  if c.staged.isSome ∨ c.phase ≠ .idle ∨ c.current.isNone ∨ s.tab.epoch = 0 then s.cfgConflict
  else
    let img := s.tenantImage n remove
    let p := planOf img
    if c.undrained.isSome then .done s rcConflict (s.failBytes 0 (undrainedFail p.recs))
    else if base ≠ s.tab.epoch then s.validationFailed (headFail 2 rcEpoch)
    else
      match s.curPlan.tenant n with
      | none => conflict s 1 n 0
      | some t =>
        let r := p.record .tenant n
        match (if remove ∨ t.entry.valid then s.checkLeaving r n t.entry.valid else none) with
        | some f => s.validationFailed f
        | none =>
          let k := c.freeSlot
          .wait (State.writeShadow { s.dropStore (slotBase k) 0x4000000 with mgmt.cfg.slots := c.slots.set k img } k p)

/-- TENANT_UNBIND. -/
def State.cmdTenantUnbind (s : State) (i : Instr) (h : CmdHdr) (n : U16) (base : U32) : State :=
  s.command i h { opcode := 0xC102, len := 6, bad := decide (4096 ≤ n.toNat), changes := true, object := some (7, 0) } none
    fun s _ => s.tenantChange n.toNat base false

/-- TENANT_REMOVE. -/
def State.cmdTenantRemove (s : State) (i : Instr) (h : CmdHdr) (n : U16) (base : U32) : State :=
  s.command i h { opcode := 0xC103, len := 6, bad := decide (4096 ≤ n.toNat), changes := true, object := some (7, 0) } none
    fun s _ => s.tenantChange n.toNat base true

/-! ### Reading (R370) -/

/-- CONFIG_GET_STATE: epoch and digest of the staged, current and previous versions, the commit phase, the drained flag and
the confirm deadline; what is absent reads 0. -/
def State.cfgStateBytes (s : State) : List Byte :=
  let c := s.mgmt.cfg
  let version (epoch : Nat) (d : BitVec 256) : List Byte := leBytes epoch 4 ++ digestOut d
  let staged := match c.staged with
    | some k =>
      let img := c.slots.get k
      version (imageHead img).epoch (imageDigest (imageRecs img))
    | none => version 0 0
  let previous := if c.previous.isSome then version c.prevEpoch.toNat c.prevDigest else version 0 0
  staged ++ version s.tab.epoch.toNat c.digest ++ previous
    ++ leBytes (commitNo c.phase) 1 ++ leBytes (b2n c.undrained.isNone) 1 ++ leBytes (c.confirmDeadline.getD 0) 8

/-- CONFIG_GET_STATE. -/
def State.cmdConfigGetState (s : State) (i : Instr) (h : CmdHdr) : State :=
  s.command i h { opcode := 0xC005 } none fun s _ => .done s rcSuccess s.cfgStateBytes

/-- The image of a version: 0 staged, 1 current, 2 previous. -/
def State.imageVersion (s : State) (version : Byte) : Option (List Byte) :=
  let c := s.mgmt.cfg
  if version = 0 then c.staged.map fun k => s.copyBytes (slotBase k) (c.slots.get k) false
  else if version = 1 then c.current.map fun k => s.readImage k s.currentImage c.digest
  else c.previous.map fun k => s.readImage k (c.slots.get k) c.prevDigest

/-- CONFIG_READ. -/
def State.cmdConfigRead (s : State) (i : Instr) (h : CmdHdr) (version : Byte) (off : U32) (len : U16) : State :=
  s.command i h { opcode := 0xC006, len := 7, bad := decide (2 < version.toNat) || decide (2048 < len.toNat) } none
    fun s _ =>
    match s.imageVersion version with
    | none => s.cfgConflict
    | some b => .done s rcSuccess (sliceOf b off.toNat len.toNat)

/-! ### After a warm reset (R389, R404) -/

/-- Replay one live-log record. -/
def State.replayLive (s : State) (r : LiveRec) : State :=
  match r with
  | .entry n w => { s with tab.ht := s.tab.ht.set n (HtEntry.ofNat w.toNat) }
  | .walk p => s.tileWalk p

/-- What a warm reset makes of MIGRATING and ZEROING entries. -/
def State.endJobs (s : State) (n : Nat) : State :=
  let e := s.tab.ht.get n
  match e.state with
  | .migrating => { s with tab.ht := s.tab.ht.set n { e with state := .active, migSlot := 0 } }
  | .zeroing => State.log { s with tab.ht := s.tab.ht.set n { e with state := .lost } } 0x050A 1 [(4, n)]
  | _ => s

/-- The current image, of plan p, is written into the tables again (R389): bank, epoch, meters, parameters and home entries. -/
def State.restoreImage (s : State) (p : Plan) : State :=
  let s := { s.setBank s.tab.cur (s.bankOf p) with tab.epoch := BitVec.ofNat 32 p.head.epoch }
  let s := p.tenants.foldl (fun (s : State) (t : TenantRec) => s.fillMeter t.number true {}) s
  p.homes.foldl (fun (s : State) (e : Nat × HtEntry) => { s with tab.ht := s.tab.ht.set e.1 (s.imageTile p e.1) })
    (s.applyParams p)

/-- Then the live log is replayed, MIGRATING and ZEROING entries end, the live values go into the image, and every grant is
offered (R389, R404). -/
def State.restoreLive (s : State) (p : Plan) : State :=
  let s := s.sys.liveLog.foldl State.replayLive { s with sys.liveLog := [] }
  let s := s.tab.ht.keys.foldl State.endJobs s
  (({ s with sys.liveLog := [] }.writeLive p).offer p.granted true).buildSnoop

/-- Can the current image be read? One whose digest fails in both copies is not restored (DESIGN CHOICE, log entry 83). -/
def State.imageReadable (s : State) : Bool :=
  match s.mgmt.cfg.current with
  | none => false
  | some k => !s.flipped (slotBase k) 0x4000000
      || imageDigest (imageRecs (s.readImage k s.currentImage s.mgmt.cfg.digest)) == s.mgmt.cfg.digest

/-- WARM_RESTORE. -/
def State.warmRestore (s : State) : State :=
  if s.sys.mode ≠ .provision ∨ s.tab.epoch ≠ 0 ∨ ¬ s.imageReadable ∨ ¬ s.sys.warmPending ∨ ¬ s.bolrothRuns then s
  else
    let p := s.curPlan
    let s := (s.restoreImage p).restoreLive p
    if s.mgmt.cfg.confirmLost then
      State.log { s with mgmt.cfg.confirmLost := false } 0x0507 1 [(4, p.head.epoch), (1, 0)]
    else s

end Sys2Proof.Machine
end

