-- ==== Sys2Proof/Machine/LogicalStore.lean ====
section
/-! DEFINITION. The logical store as its readers and writers see it (R118 to R124, R133, R134): reads that take one copy and fall
back on the other, writes of both, and the archives' own check (R429). -/

namespace Sys2Proof.Machine

/-- A journal record's bytes (R340): its CRC covers bytes 0 to 59. -/
def JRec.bytes (r : JRec) : List Byte :=
  if r.type = 0 then leBytes 0 64
  else
    let l := leBytes (pack [(32, r.seq.toNat), (8, r.type.toNat), (8, 1), (16, r.ticket.toNat),
      (416, (Config.journalBody r.seq).toNat)]) 60
    l ++ leBytes (~~~ l.foldl crcByte 0xFFFFFFFF).toNat 4

/-! ### Bytes -/

/-- The byte that was last written at logical address a outside directory and bitmaps; none for Bolroth's working area, whose
contents the spec does not give. -/
def State.plainByte (s : State) (a : Nat) : Option Byte :=
  match s.mgmt.store.get a with
  | some b => some b
  | none =>
    if a < 0x3AC000000 then some ((s.imageAt ((a - 0x3A0000000) / 0x4000000)).getD (a % 0x4000000) 0)
    else if a < 0x3AF000000 then none
    else if a < 0x3B0000000 then some ((s.sys.journal.get ((a - 0x3AF000000) / 64)).bytes.getD (a % 64) 0)
    else if a < 0x3B4000000 then
      let r := s.obs.archives.get ((a - 0x3B0000000) / 0x400000)
      some (if r.valid then r.byte (a % 0x400000) else 0)
    else if a < 0x3B8000000 then
      some ((s.obs.snapshots.get ((a - 0x3B4000000) / 65536)).bytes.getD (a % 65536) 0)
    else some 0

/-- A byte of the store, the other copy being read first after a read fault: none where it is uncorrectable, `some none` where the
spec does not give the contents. Once a pair is lost, Bolroth has laid the configuration store out anew (R134). -/
def State.storeByte (s : State) (addr : Nat) (swap : Bool := false) : Option (Option Byte) :=
  let a := s.homeAddr addr
  if a < 0x380000000 then
    match s.readWay (a / 256) (a % 256 / 16) swap with
    | .good w _ => some (some (BitVec.ofNat 8 (field w.toNat (8 * (a % 16)) 8)))
    | .bad _ _ => none
  else if a < 0x3A0000000 then
    let up := s.copiesUp (a / 256)
    if ¬ up.1 ∧ ¬ up.2 then none
    else
      let bitAt (j : Nat) : Bool :=
        let i := (a - 0x380000000) * 8 + j
        (up.1 && s.dir.dirty0.get i) || (up.2 && s.dir.dirty1.get i)
      some (some (BitVec.ofNat 8 (bitsOf ((List.range 8).map bitAt))))
  else
    match s.flipAt a swap with
    | none => none
    | some f => if a < 0x3B0000000 ∧ s.dir.lost ≠ 0 then some none else some ((s.plainByte a).map (· ^^^ f))

/-- Write a byte of the store in the copies in service. Its directory set is cached. -/
def State.putStore (s : State) (addr : Nat) (b : Byte) : State :=
  let a := s.homeAddr addr
  let up := s.copiesUp (a / 256)
  if ¬ up.1 ∧ ¬ up.2 then s
  else if a < 0x380000000 then
    let way := a % 256 / 16
    let w := (s.waysOf (a / 256)).getD way dirFill
    s.writeWay (a / 256) way (BitVec.ofNat 128 (setField w.toNat (8 * (a % 16)) 8 b.toNat))
  else if a < 0x3A0000000 then
    let put (t : Tbl false) : Tbl false :=
      (List.range 8).foldl (fun t j => t.set ((a - 0x380000000) * 8 + j) (b.toNat.testBit j)) t
    { s with
      dir.dirty0 := if up.1 then put s.dir.dirty0 else s.dir.dirty0
      dir.dirty1 := if up.2 then put s.dir.dirty1 else s.dir.dirty1 }
  else
    let s := s.cleanStore a 1
    if a < 0x3AC000000 then
      let k := (a - 0x3A0000000) / 0x4000000
      { s with mgmt.cfg.slots := s.mgmt.cfg.slots.set k (patchBytes (s.imageAt k) (a % 0x4000000) [b]) }
    else { s with mgmt.store := s.mgmt.store.set a (some b) }

/-! ### Spans -/

/-- The values of bytes, with a free value where the spec does not give one. -/
def State.byteValues (s : State) (l : List (Option Byte)) : List Byte × State :=
  let (f, s) := if l.any (·.isNone) then s.free else (0, s)
  (l.zipIdx.map fun b => b.1.getD (BitVec.ofNat 8 (field f (8 * b.2) 8)), s)

/-- Read bytes of the store: the data and whether some byte could not be corrected. -/
def State.storeRead (s : State) (a bytes : Nat) : Nat × Bool × State :=
  let (swap, s) := s.readFault (s.homeAddr a / 256)
  let l := (List.range bytes).map fun i => if a + i < 2 ^ 34 then s.storeByte (a + i) swap else none
  if l.any (·.isNone) then (0, true, s)
  else
    let (v, s) := s.byteValues (l.map Option.join)
    (leNat v, false, s)

/-- Write bytes of the store: an address above 34 bits ends with an error status. A directory set that is changed is first brought
into the cache (R125); none while that must wait. -/
def State.storeWrite (s : State) (a bytes data : Nat) : Option (Bool × State) :=
  if 2 ^ 34 < a + bytes then some (true, s)
  else
    let sets := (((List.range bytes).map fun i => s.homeAddr (a + i)).filter (· < 0x380000000)).map (· / 256)
    (sets.eraseDups.foldl (fun (o : Option State) t =>
      o.bind fun s => if s.setLost t then some s else s.fetchSet t) (some s)).map fun s =>
        (false, (List.range bytes).foldl (fun s i => s.putStore (a + i) (BitVec.ofNat 8 (field data (8 * i) 8))) s)

/-! ### Archives (R124, R129, R429) -/

/-- Base of an archive slot. -/
def archiveBase (slot : Nat) : Nat := 0x3B0000000 + 0x400000 * slot

/-- Has something other than the archive engine changed a slot? -/
def State.archiveTouched (s : State) (slot : Nat) : Bool :=
  s.flipped (archiveBase slot) 0x400000 || s.dir.lost != 0
    || s.mgmt.store.keys.any fun a => decide (archiveBase slot ≤ a) && decide (a < archiveBase slot + 0x400000)

/-- Bytes of an archive slot as one copy gives them. -/
def State.archiveBytes (s : State) (slot off len : Nat) (swap : Bool) : List (Option Byte) :=
  (List.range len).map fun i => (s.storeByte (archiveBase slot + off + i) swap).join

/-- Does a slot pass its own check, MAGIC and CRC, in that copy? -/
def State.archiveGood (s : State) (slot : Nat) (swap : Bool) : Bool :=
  let head := s.archiveBytes slot 0 64 swap
  let ring := s.archiveBytes slot 64 2097152 swap
  let value (l : List (Option Byte)) : Nat := leNat (l.map (·.getD 0))
  !(head ++ ring).any (·.isNone) && value (head.take 4) == 0x4C545242
    && value ((head.drop 40).take 4) == (~~~ ring.foldl (fun c b => crcByte c (b.getD 0)) 0xFFFFFFFF).toNat

/-- Is a slot read from the other copy, since its check fails in the first (R124)? -/
def State.archiveSwap (s : State) (slot : Nat) : Bool :=
  s.archiveTouched slot && !s.archiveGood slot false && s.archiveGood slot true

/-- ARCHIVE_READ. -/
def State.cmdArchiveRead (s : State) (i : Instr) (h : CmdHdr) (slot : Byte) (off : U32) (len : U16) : State :=
  s.command i h
    { opcode := 0xC703, len := 7,
      bad := decide (15 < slot.toNat) || decide (2048 < len.toNat) || decide (4194304 < off.toNat + len.toNat) }
    none fun s _ =>
      let k := slot.toNat
      let a := s.obs.archives.get k
      if ¬ s.archiveTouched k then
        (if ¬ a.valid then conflict s 0 0 0
        else .done s rcSuccess ((List.range len.toNat).map fun j => a.byte (off.toNat + j)))
      else
        let swap := s.archiveSwap k
        if ((s.archiveBytes k 0 4 swap).all fun b => b == some 0) then conflict s 0 0 0
        else
          let (v, s) := s.byteValues (s.archiveBytes k off.toNat len.toNat swap)
          .done s rcSuccess v

/-- A reset that keeps the archive zeroes the slots whose MAGIC or CRC fails in both copies (R129). -/
def State.checkArchives (s : State) : State :=
  (List.range 16).foldl (fun (s : State) k =>
    if ¬ s.archiveTouched k ∨ s.archiveGood k false ∨ s.archiveGood k true then s
    else State.dropStore { s with obs.archives := s.obs.archives.set k {} } (archiveBase k) 0x400000) s

/-- The entries of a table in a span. -/
def Tbl.within {α : Type} {d : α} (t : Tbl d) (base len : Nat) : Tbl d :=
  ⟨t.cells.filter fun c => decide (base ≤ c.1) && decide (c.1 < base + len)⟩

end Sys2Proof.Machine
end

