-- ==== Sys2Proof/Machine/Store.lean ====
section
/-! DEFINITION. The directory store's events (R126 to R135): retirement and relocation of channels, scrub passes and
candidate sweeps, and parity failures of on-die SRAM with their repairs. -/

namespace Sys2Proof.Machine

/-! ### Retirement and relocation (R132 to R134) -/

/-- The entries of `t` for which `sel` holds are replaced by those of `src`. -/
def Tbl.takeOver {α : Type} {d : α} (t src : Tbl d) (sel : Nat → Bool) : Tbl d :=
  ⟨((t.cells.filter fun c => !sel c.1) ++ src.cells.filter fun c => sel c.1).mergeSort fun a b => decide (a.1 ≤ b.1)⟩

/-- The scrub sequencer's access to block b at checker 76 (R138, R140): allowed or not. A region of the checker that failed parity
denies (R135). -/
def State.scrubAsk (s : State) (b needs : Nat) : Bool × State :=
  if s.checkerBroken 76 then (false, s)
  else
    let a : Access := { space := 2, addr := 256 * b, needs := needs, noTenant := true }
    let (r, s) := s.checkAccess s.bank 76 a false
    (r == 0, s)

/-- Can checker 76 deny the scrub sequencer anything? Not while its wired region alone is valid (R148). -/
def State.scrubBound (s : State) : Bool :=
  s.checkerBroken 76 || (List.range 64).any fun r => r != 0 && (s.bank.region 76 r).valid

/-- The block of the reserve that data block i of pair p moves to (R133). -/
def reserveBlock (p i : Nat) : Nat := 16 * (pairBlocks + i / 15) + ((List.range 16).filter (· ≠ p)).getD (i % 15) p

/-- The data blocks of pair p below `lim` that checker 76 keeps from being copied: they are skipped (R149). -/
def State.relocSkips (s : State) (p lim : Nat) : List Nat × State :=
  if ¬ s.scrubBound then ([], s)
  else (List.range lim).foldl (fun (r : List Nat × State) i =>
    let (reads, s) := r.2.scrubAsk (16 * i + p) 1
    if ¬ reads then (r.1 ++ [i], s)
    else
      let (writes, s) := s.scrubAsk (reserveBlock p i) 2
      (if writes then r.1 else r.1 ++ [i], s)) ([], s)

/-- Is block b one of pair p below `lim` that is copied? -/
def blockIn (p lim : Nat) (skip : List Nat) (b : Nat) : Bool :=
  b % 16 == p && decide (b / 16 < lim) && !skip.contains (b / 16)

/-- Blocks of pair p below `lim` are copied from the survivor into both copies of the reserve (R133). -/
def State.copyPair (s : State) (p lim : Nat) (skip : List Nat) : State :=
  let d := s.dir
  let one := s.chanOk (p + 16)
  let entry (e : Nat) : Bool := blockIn p lim skip (e / 16)
  let bit (j : Nat) : Bool := blockIn p lim skip (0x3800000 + j / 2048)
  let byte (a : Nat) : Bool := blockIn p lim skip (a / 256)
  let es := if one then d.copy1 else d.copy0
  let bs := if one then d.dirty1 else d.dirty0
  let fs := if one then d.flip1 else d.flip0
  { s with
    dir.copy0 := d.copy0.takeOver es entry, dir.copy1 := d.copy1.takeOver es entry
    dir.dirty0 := d.dirty0.takeOver bs bit, dir.dirty1 := d.dirty1.takeOver bs bit
    dir.flip0 := d.flip0.takeOver fs byte, dir.flip1 := d.flip1.takeOver fs byte }

/-- The dirty-bitmap blocks that are lost read as marked (R224). -/
def State.loseBitmaps (s : State) : State :=
  (s.wq.slots.find fun _ m => m.valid).foldl (fun s k =>
    let gone := (List.range 2048).filter fun b => s.setLost (0x3800000 + 2048 * k + b)
    let marks := gone.foldl (fun t b => t.set (2048 * k + b) true) s.wq.summary
    { s with wq.summary := marks }) s

/-- Channel c is retired (R132): its pair goes on from the survivor and moves to the reserve (R133), or is lost (R134). -/
def State.retireChannel (s : State) (c cause : Nat) : State :=
  if ¬ s.chanOk c then s
  else
    let p := c % 16
    let mate := if c < 16 then c + 16 else c - 16
    let moved : Bool := match s.dir.reloc with
      | some r => r.pair == p && r.done
      | none => false
    let copying : Bool := match s.dir.reloc with
      | some r => r.pair == p && !r.done
      | none => false
    let log (s : State) : State :=
      ((s.countGlobal 87).log 0x0205 2 [(1, c), (1, cause)]).freezeMaskable 5
    if s.chanOk mate then
      let s := { s with dir.retired := s.dir.retired ||| BitVec.ofNat 32 (2 ^ c) }
      log (if s.dir.reloc.isNone then { s with dir.reloc := some { pair := p } } else s)
    else if moved then log { s with dir.retired := s.dir.retired ||| BitVec.ofNat 32 (2 ^ c) }
    else
      let s : State := if copying then
          let (n, s) := s.free
          let n := n % (pairBlocks + 1)
          let (skip, s) := s.relocSkips p n
          let s := s.copyPair p n skip
          { s with dir.reloc := some { pair := p, pointer := n, skipped := skip } }
        else s
      let s := log { s with
        dir.retired := s.dir.retired ||| BitVec.ofNat 32 (2 ^ c), dir.lost := s.dir.lost ||| BitVec.ofNat 16 (2 ^ p) }
      (s.log 0x0207 3 [(1, p), (1, cause)]).loseBitmaps

/-- The copy to the reserve ends (R133). -/
def State.relocationDone (s : State) : State :=
  match s.dir.reloc with
  | none => s
  | some r =>
    if r.done ∨ s.sys.mode = .safe ∨ s.dir.lost.toNat.testBit r.pair then s
    else
      let (skip, s) := s.relocSkips r.pair pairBlocks
      let s := s.copyPair r.pair pairBlocks skip
      { s with dir.reloc := some { r with pointer := pairBlocks, done := true, skipped := skip } }.log 0x0206 0
        [(1, r.pair), (1, 0)]

/-- CHANNEL_RETIRED: the channel is retired where its cause holds (R120, R132). -/
def State.retireFor (s : State) (c : Nat) (r : RetireCause) : State :=
  match r with
  | .write fails => if fails.toNat < 4 then s else s.retireChannel c 0
  | .retrain errors => if errors.toNat ≤ s.tab.dirParam.retrainErrors then s else s.retireChannel c 1
  | .corrections => if (s.dir.corrections.get c).length ≤ s.tab.dirParam.correctionLimit then s else s.retireChannel c 2

/-- Channels with more corrections in a second than the limit are retired (R132). -/
def State.retireDue (s : State) : State :=
  (List.range 32).foldl (fun (s : State) c =>
    if s.chanOk c ∧ s.tab.dirParam.correctionLimit < (s.dir.corrections.get c).length then s.retireChannel c 2 else s) s

/-- CHANNEL_RETIRE. -/
def State.cmdChannelRetire (s : State) (i : Instr) (h : CmdHdr) (c : Nat) : State :=
  s.command i h { opcode := 0xC603, len := 1, changes := true } none fun s _ =>
    if s.chanOk c ∧ s.chanOk (if c < 16 then c + 16 else c - 16) then ok (s.retireChannel c 3)
    else conflict s 0xA c (if s.chanOk c then 0 else 1)

/-! ### Scrub passes (R130, R131) -/

/-- Note entry e as failing. -/
def ScrubSummary.fail (m : ScrubSummary) (e : Nat) : ScrubSummary :=
  let v := BitVec.ofNat 30 e
  { m with
    firstFail := if v.toNat ≤ m.firstFail.toNat then v else m.firstFail
    lastFail := if m.lastFail = 0x3FFFFFFF ∨ m.lastFail.toNat ≤ v.toNat then v else m.lastFail }

/-- A one-copy failure, or a copy that differs from the cache, is repaired. -/
def ScrubSummary.fixed (m : ScrubSummary) (e : Nat) : ScrubSummary := { m.fail e with corrected := m.corrected + 1 }

/-- The summary's word (R131). -/
def ScrubSummary.word (m : ScrubSummary) : BitVec 192 :=
  BitVec.ofNat 192 (pack [(32, m.checked.toNat), (32, m.corrected.toNat), (32, m.uncorrectable.toNat),
    (30, m.firstFail.toNat), (2, 0), (30, m.lastFail.toNat), (2, 0), (1, b2n m.partialPass)])

/-- An uncorrectable entry found by a pass: counted, logged, and rebuilt for its readable TAGs or swept (R126, R130). -/
def State.scrubBad (s : State) (set way : Nat) (tags : List Nat) : State :=
  let s := s.logUncorrectable set way
  if tags.isEmpty then s.queueSweep set way else tags.foldl (fun s tag => s.queueRebuild (lineAt tag set) set way) s

/-- Two copies that both pass and differ make an entry that is not cached uncorrectable, with both TAGs as candidates (R130). -/
def State.findConflict (s : State) (set way : Nat) : State :=
  let up := s.copiesUp set
  let a := s.dir.copy false set way
  let b := s.dir.copy true set way
  if up.1 ∧ up.2 ∧ dirPass a ∧ dirPass b ∧ a ≠ b ∧ ¬ s.dir.conflicted.any (·.1 == 16 * set + way) then
    { s with dir.conflicted := s.dir.conflicted ++ [(16 * set + way, [(DirE.decode a).tag, (DirE.decode b).tag].eraseDups)] }
  else s

/-- A pass checks one entry of a set. -/
def State.scrubWay (s : State) (m : ScrubSummary) (set way : Nat) : State × ScrubSummary :=
  let e := 16 * set + way
  let up := s.copiesUp set
  let mend (s : State) (v : BitVec 128) : State × ScrubSummary :=
    let bad := (if up.1 ∧ s.dir.copy false set way ≠ v then [false] else [])
      ++ (if up.2 ∧ s.dir.copy true set way ≠ v then [true] else [])
    (bad.foldl (fun s one => s.repairCopy set way one v) s, if bad.isEmpty then m else m.fixed e)
  match ((s.cachedSet set).map fun c => c.ways.getD way dirFill).filter (s.wayGood set way) with
  | some v => mend s v
  | none =>
    let s := if (s.cachedSet set).isSome then s else s.findConflict set way
    match s.readWay set way with
    | .good v _ => mend s v
    | .bad _ tags => (s.scrubBad set way tags, { m.fail e with uncorrectable := m.uncorrectable + 1 })

/-- Sets of the range that a pass can find anything at: those listed in a copy or in the cache and those that are lost, or every
set where checker 76 may deny one. The entries of every other set pass, and its copies agree. -/
def State.scrubSets (s : State) (first count : Nat) : List Nat :=
  let all := List.range' (first / 16) ((first + count - 1) / 16 + 1 - first / 16)
  if s.scrubBound then all
  else
    let inside (t : Nat) : Bool := decide (first < 16 * t + 16) && decide (16 * t < first + count)
    let listed := (s.dir.copy0.keys ++ s.dir.copy1.keys).map (· / 16)
    let cached := s.dir.cache.cells.flatMap fun c => c.2.map (·.set)
    let lost := if s.dir.lost = 0 then [] else all.filter s.setLost
    ((listed ++ cached ++ lost).filter inside).mergeSort.eraseDups

/-- A pass that is under way: its state and summary, and whether a channel's retirement has ended it (R131). -/
structure Scrub where
  state : State
  sum : ScrubSummary
  ended : Bool := false

/-- A pass reads one set and repairs what it finds; a set that checker 76 denies is skipped (R130, R149). It ends once a channel of
the range is to be retired (R131, R132). -/
def Scrub.set (r : Scrub) (first count set : Nat) : Scrub :=
  if r.ended then r
  else
    let (reads, s) := r.state.scrubAsk set 1
    let ways := (List.range 16).filter fun w => decide (first ≤ 16 * set + w) && decide (16 * set + w < first + count)
    let skip (s : State) : Scrub :=
      { r with state := s, sum := { r.sum with partialPass := true, checked := r.sum.checked - BitVec.ofNat 32 ways.length } }
    if ¬ reads then skip s
    else
      let t := ways.foldl (fun (t : State × ScrubSummary) w => t.1.scrubWay t.2 set w) (s, r.sum)
      let (writes, u) := if t.1.dir.copy0 = s.dir.copy0 ∧ t.1.dir.copy1 = s.dir.copy1 then (true, s) else s.scrubAsk set 2
      if ¬ writes then skip u
      else
        let left := first + count - (16 * set + 16)
        if t.1.overLimit.isSome ∧ left ≠ 0 then
          { state := t.1, ended := true
            sum := { t.2 with partialPass := true, checked := t.2.checked - BitVec.ofNat 32 left } }
        else { r with state := t.1, sum := t.2 }

/-- A scrub pass over a range (R130). The model makes it at one instant, and logs the entries of a lost pair one by one
(DESIGN CHOICE, log entries 40 and 41). -/
def State.scrubPass (s : State) (first count : Nat) : ScrubSummary × State :=
  let r := (s.scrubSets first count).foldl (fun (r : Scrub) set => r.set first count set)
    { state := s, sum := { checked := BitVec.ofNat 32 count } }
  (r.sum, r.state.count (globalCtr 88) r.sum.checked.toNat)

/-- SCRUB_DIR. -/
def State.cmdScrubDir (s : State) (i : Instr) (h : CmdHdr) (first count : U32) : State :=
  s.command i h
    { opcode := 0xC602, len := 8, bad := count == 0 || decide (939524096 < first.toNat + count.toNat), changes := true }
    none fun s _ =>
      let (m, s) := s.scrubPass first.toNat count.toNat
      .done s rcSuccess (leBytes m.word.toNat 24)

/-- A SCRUB_DIR job of queue pair q (R203). -/
def State.scrubJob (s : State) (q : Nat) : State :=
  match s.nextJob q with
  | none => s
  | some h =>
    if dfield h.desc 0 8 ≠ 6 ∨ s.sys.mode = .safe then s
    else
      let gen := (s.qp q).qpGen
      let (m, s) := (s.startHeld q h.seq).scrubPass (dfield h.desc 192 30) (dfield h.desc 224 30)
      s.jobEnd q h.seq gen 0 m.word

/-- The patrol period expires (R130): fabric time reaches its end, and a pass runs over the whole directory. -/
def State.patrol (s : State) : State :=
  let hrs := s.tab.dirParam.patrolH
  if hrs = 0 ∨ s.sys.mode = .safe ∨ ¬ s.sys.served then s
  else
    let s := s.advanceTo (s.dir.lastPatrol + hrs * 3600000000000)
    let s := { s with dir.lastPatrol := s.sys.ft }
    (s.scrubPass 0 939524096).2

/-! ### Candidate sweeps (R127, R128) -/

/-- The TAG of candidate k of a set (R127); none when the candidates are exhausted. -/
def sweepTag (set k : Nat) : Option Nat :=
  let v := set / 32 + k * dirGroups
  if v < 2 ^ 36 then some (v / 2 ^ 18 * 2 ^ 18 + ((v % 2 ^ 18) ^^^ (v / 2 ^ 18))) else none

/-- Does the word's readable part agree with a TAG? -/
def tagAgrees (w : BitVec 128) (tag : Nat) : Bool :=
  (List.range 5).all fun k =>
    let bits := if k = 4 then 4 else 8
    !byteOk w k || field w.toNat (8 * k) bits == field tag (8 * k) bits

/-- Is a candidate TAG to be rebuilt (R127)? -/
def State.sweepWants (s : State) (set way tag : Nat) : Bool :=
  let up := s.copiesUp set
  let e := s.tab.ht.get (lineAt tag set / 2 ^ 22)
  (!up.1 || tagAgrees (s.dir.copy false set way) tag) && (!up.2 || tagAgrees (s.dir.copy true set way) tag)
    && !((List.range 16).any fun w => match s.readWay set w with
      | .good v _ => (DirE.decode v).state != 0 && (DirE.decode v).tag == tag
      | .bad _ tags => tags.contains tag)
    && (e.state == .active || e.state == .migrating) && e.attr == .sharedCoherent

/-- A queued sweep starts: the first in arrival order, while fewer than four run. A block that checker 76 denies is skipped (R149). -/
def State.startSweep (s : State) (set way : Nat) : State :=
  match s.dir.sweepQueue with
  | (a, b) :: rest =>
    if a = set ∧ b = way ∧ s.dir.sweeps.length < 4 ∧ s.sys.mode ≠ .safe then
      let (reads, s) := s.scrubAsk set 1
      if reads then { s with dir.sweepQueue := rest, dir.sweeps := s.dir.sweeps ++ [{ set := set, way := way }] }
      else { s with dir.sweepQueue := rest }
    else s
  | [] => s

/-- Change the sweep of (set, way). -/
def State.updSweep (s : State) (set way : Nat) (f : Sweep → Sweep) : State :=
  { s with dir.sweeps := s.dir.sweeps.map fun w => if w.set = set ∧ w.way = way then f w else w }

/-- Try candidates of a sweep while fewer than 16 of its rebuilds run. -/
def State.pumpSweep (s : State) (set way : Nat) : Nat → State
  | 0 => s
  | fuel + 1 =>
    match s.dir.sweeps.find? fun w => w.set == set && w.way == way with
    | none => s
    | some w =>
      if w.exhausted ∨ 16 ≤ w.running then s
      else match sweepTag set w.next with
        | none => s.updSweep set way fun w => { w with exhausted := true }
        | some tag =>
          if ¬ s.sweepWants set way tag then (s.updSweep set way fun w => { w with next := w.next + 1 }).pumpSweep set way fuel
          else
            let n := lineAt tag set
            if (s.dp.lines.get n).isSome then s
            else match s.startRebuild n none (.sweep set way) with
              | none => s
              | some s =>
                ((s.countGlobal 81).updSweep set way fun w => { w with next := w.next + 1, running := w.running + 1 }).pumpSweep
                  set way fuel

/-- Every running sweep goes on. -/
def State.stepSweeps (s : State) : State :=
  if s.sys.mode = .safe then s else s.dir.sweeps.foldl (fun s w => s.pumpSweep w.set w.way 37452) s

/-- A rebuild of a sweep ends (R128). -/
def State.sweepRebuilt (s : State) (set way result : Nat) : State :=
  s.updSweep set way fun w => { w with
    running := w.running - 1, rebuilt := w.rebuilt + 1, poisoned := w.poisoned + (if result = 1 then 1 else 0) }

/-- Once the sweep's rebuilds have ended, the way is written INVALID through the cache (R125, R128), unless checker 76 denies it
(R149) or its set is lost. -/
def State.sweepDone (s : State) (set way : Nat) : State :=
  match s.dir.sweeps.find? fun w => w.set == set && w.way == way with
  | none => s
  | some w =>
    if ¬ w.exhausted ∨ w.running ≠ 0 ∨ s.sys.mode = .safe then s
    else match (if s.setLost set then some s else s.fetchSet set) with
      | none => s
      | some s =>
        let (writes, s) := s.scrubAsk set 2
        let s := if writes ∧ ¬ s.setLost set then s.writeWay set way dirFill else s
        let s := { s with dir.sweeps := s.dir.sweeps.filter fun v => !(v.set == set && v.way == way), dp.freed := true }
        s.log 0x0204 0 [(4, set), (1, way), (4, w.rebuilt), (4, w.poisoned)]

/-! ### Parity of on-die SRAM (R135) -/

/-- Count and log a parity failure: the counter's index among the global counters, and the entry (R416, R428). -/
def State.logParity (s : State) (g entry : Nat) : State := (s.countGlobal g).log 0x010A 2 [(1, g), (4, entry)]

/-- Requests that read entry m end in error until Bolroth rewrites it. -/
def State.markDamaged (s : State) (m : ParityMem) : State :=
  { s with tab.damaged := if s.isDamaged m then s.tab.damaged else s.tab.damaged ++ [(m, s.sys.ft)] }

/-- A table entry fails. -/
def State.damage (s : State) (m : ParityMem) (g entry : Nat) : State := (s.logParity g entry).markDamaged m

/-- Transaction i takes the snoop outcome TIMEOUT, and its line is poisoned (R112, R135). -/
def State.forceTimeout (s : State) (i : Nat) : State :=
  if (s.txn i).state = .free then s
  else State.wake (s.updTxn i fun t => { t with timedOut := true, poisonedLine := true, poisonData := true }) i

/-- The first queued entry with a record at (point, class). -/
def State.queuedRecord (s : State) (x q : Nat) : Option (Nat × QEntry) :=
  ((List.range (s.queue x q).length).zip (s.queue x q)).find? fun e => e.2.record.isSome && !e.2.void

/-- A memory fails its check. -/
def State.parityFailure (s : State) (m : ParityMem) : State :=
  match m with
  | .bufferData x c onWrite =>
    (match s.queuedRecord x.val c.val with
    | none => s
    | some (k, e) =>
      if onWrite then
        { s with
          dp.recs := s.dp.recs.upd (e.record.getD 0) (·.map fun r => { r with badWrite := true })
          dp.queues := s.dp.queues.upd (8 * x.val + c.val) (·.modify k fun e => { e with sf := true }) }
      else
      let s := s.logParity 67 (e.record.getD 0)
      { s with dp.queues := s.dp.queues.upd (8 * x.val + c.val) fun l =>
          l.set k { e with msg := { e.msg with poison := true } } })
  | .bufferHeader x c =>
    (match s.queuedRecord x.val c.val with
    | none => s
    | some (k, e) =>
      let s := s.logParity 67 (e.record.getD 0)
      match e.txn with
      | none => (s.dequeueAt x.val c.val k).releaseRec e.record
      | some i =>
        if e.final then
          let t := s.txn i
          match t.errorAnswer with
          | some (m, u) => { s with dp.queues := s.dp.queues.upd (8 * x.val + c.val) fun l => l.set k { e with msg := m, units := u } }
          | none => (s.dequeueAt x.val c.val k).freeTxn i
        else ((s.dequeueAt x.val c.val k).releaseRec e.record).failSent i)
  | .txn idx idPass =>
    let i := idx.toNat
    if (s.txn i).state = .free then s
    else
      let s := s.logParity 176 i
      if idPass then (s.quarantine i).endError i else s.freeTxn i 2
  | .window n => s.damage m 177 n.toNat
  | .tenant n => s.damage m 177 n.toNat
  | .sharer n => s.damage m 177 n.val
  | .checkerRegion k r => s.damage m 177 (64 * k.val + r.val)
  | .translation n => s.damage m 177 n.toNat
  | .homeTile n => s.damage m 177 n.toNat
  | .snoopAddr n => s.damage m 177 n.toNat
  | .recipeWord r k => s.damage m 178 (16 * r.toNat + k.toNat)
  | .dispatch n => s.damage m 178 n.toNat
  | .dirCache set =>
    (match s.cachedSet set.toNat with
    | none => s
    | some _ =>
      let s := { s with dir.cache := s.dir.cache.upd (cacheRow set.toNat) fun row => row.filter (·.set ≠ set.toNat) }
      s.logParity 82 set.toNat)
  | .conflict n =>
    let c := s.dp.conflicts.get n.toNat
    if c.valid then (s.logParity 179 n.toNat).forceTimeout c.txn else s
  | .activeLine n =>
    (match s.dp.lines.get n.toNat with
    | none => s
    | some l => (s.logParity 179 (n.toNat % 2 ^ 32)).forceTimeout l.holder)
  | .counter n =>
    if 5120 ≤ n.toNat then s
    else State.logParity { s with obs.counters := s.obs.counters.upd n.toNat fun c => { c with value := 0, ovf := true } } 180 n.toNat
  | .dirtySummary k b =>
    if (s.mig k.toNat).valid then { s with wq.summary := s.wq.summary.set (2048 * k.toNat + b.toNat) true } else s
  | .gddrRead c fails =>
    if fails.toNat < 4 then s else { s with dir.readErr := s.dir.readErr ||| BitVec.ofNat 32 (2 ^ c.val) }
  | .gddrByte a one f => s.flipByte a.toNat one f

/-- Drain the oldest live-log records into the live fields of the current image (R403). -/
def State.drainLive (s : State) (n : Nat) : State :=
  let done := s.sys.liveLog.take n
  let walked := done.any fun r => match r with
    | .walk _ => true
    | .entry _ _ => false
  let img : Tbl (none : Option HtEntry) := done.foldl (fun t r => match r with
    | .entry n w => t.set n (some (HtEntry.ofNat w.toNat))
    | .walk _ => t) s.mgmt.cfg.liveImage
  let img : Tbl (none : Option HtEntry) := if walked then
      s.tab.ht.keys.foldl (fun t n => t.set n (some (s.tab.ht.get n))) img
    else img
  { s with sys.liveLog := s.sys.liveLog.drop n, mgmt.cfg.liveImage := img, dp.freed := true }

/-- Bolroth rewrites a damaged table entry within 10 ms; it needs an ACTIVE pair. A translation entry that was RELEASING is
written EMPTY at the completion timeout plus 2 µs after the failure (R135). -/
def State.parityRepair (s : State) (m : ParityMem) : State :=
  let failed := ((s.tab.damaged.find? (·.1 == m)).map (·.2)).getD 0
  if ¬ s.isDamaged m ∨ ¬ s.executorFree then s
  else
    let s := { s with tab.damaged := s.tab.damaged.filter (·.1 ≠ m), dp.freed := true }
    match m with
    | .homeTile _ => s.drainLive s.sys.liveLog.length
    | .translation n =>
      if (s.tab.tt.get n.toNat).state = .releasing then
        let s := s.advanceTo (failed + s.tab.ident.completionMs * 1000000 + 2000)
        { s with tab.tt := s.tab.tt.set n.toNat {} }
      else s
    | _ => s

end Sys2Proof.Machine
end

