-- ==== Sys2Proof/Machine/Modes.lean ====
section
/-! DEFINITION. Operating modes (R13 to R17), retired units (R406), SAFE (R410, R411), the management pairs and handover
(R337 to R345), the thermal and die-to-die events (R456, R465). -/

namespace Sys2Proof.Machine

/-! ### Retired units and the mode (R13, R406) -/

/-- MEMBER_RETIRED. -/
def State.membersRetired (s : State) : Nat :=
  (s.edge.ports.keys.filter fun p => (s.port p).memberLost).foldl (fun n p => n ||| 2 ^ p) 0

/-- RETIRED. -/
def State.retiredWord (s : State) : Nat :=
  pack [(32, s.dir.retired.toNat), (8, bitsOf ((List.range 8).map fun t => (s.trunk t).retired)),
    (2, s.sys.pairRetired.toNat), (6, s.sys.dieLost.toNat), (1, b2n (s.membersRetired ≠ 0))]

/-- The mode changes, and MODE_CHANGE is logged. -/
def State.setMode (s : State) (m : Mode) : State :=
  if s.sys.mode = m then s
  else { s with sys.mode := m }.log 0x0501 0 [(1, modeNo s.sys.mode), (1, modeNo m)]

/-- SERVICE or DEGRADED, by the retired units. -/
def State.serviceMode (s : State) : Mode := if s.retiredWord = 0 then .service else .degraded

/-- DEGRADED exactly while any unit is retired and the mode would otherwise be SERVICE. -/
def State.settleMode (s : State) : State :=
  if s.sys.mode = .service ∨ s.sys.mode = .degraded then s.setMode s.serviceMode else s

/-- The lost units of port p's pool member counts no longer: its link is up and no entry has it as lost (R222). -/
def State.settleMembers (s : State) : State :=
  (s.edge.ports.keys.filter fun p => (s.port p).memberLost && (s.port p).dlUp).foldl (fun s p =>
    if s.tab.ht.cells.any fun c => (c.2.state == .lost && c.2.pPort == p) || (c.2.singleCopy && c.2.mPort == p) then s
    else s.updPort p fun k => { k with memberLost := false }) s

/-! ### SAFE (R410, R411) -/

/-- A record that waits for a transaction entry is answered as SAFE answers a new request. -/
def State.safeWaiting (s : State) : State :=
  (s.dp.waiting.cells.flatMap fun c => c.2.map fun r => (c.1, r)).foldl (fun s (e : Nat × Nat) =>
    let s := match s.dp.recs.get e.2 with
      | some k => s.safeMessage (e.1 / 8) (e.1 % 8) k.msg
      | none => s
    s.releaseRec (some e.2)) { s with dp.waiting := .empty }

/-- Every outstanding transaction ends as COMPLETE(ERROR): no directory write and no snoop. -/
def State.endAllTxns (s : State) : State :=
  (s.dp.txns.find fun _ t => t.state != .free && t.state != .draining).foldl
    (fun s i => State.endError (s.quarantine i) i) s

/-- Entry into SAFE with a cause of R410, from PREPARE to DRAIN. A handover under way goes on (R343). -/
def State.enterSafe (s : State) (cause : Nat) : State :=
  if s.sys.mode = .reset ∨ s.sys.mode = .safe then s
  else
    let s := s.setMode .safe
    let s := { s with sys.status := { s.sys.status with safeCause := BitVec.ofNat 4 cause } }
    let s := s.freezeAlways 2
    let s := s.takeSnapshot
    let s := s.safeWaiting.endAllTxns
    s.wq.qps.keys.foldl (fun s q => s.stopLinkDown q) s

/-- CONTROL_PARITY. -/
def State.controlParity (s : State) : State := s.enterSafe 3

/-! ### Temperature (R456, R458) -/

/-- Take a temperature reading. -/
def State.readTj (s : State) (tj : Byte) (sensor : Fin 28) : State :=
  let t := s.sys.thermal
  { s with sys.thermal := { t with
      now := tj, hot := BitVec.ofNat 5 sensor.val, peak := if t.peak.toNat < tj.toNat then tj else t.peak
      warn := if 100 ≤ tj.toNat then true else if tj.toNat < 98 then false else t.warn } }

/-- THERM_WARN. -/
def State.thermWarn (s : State) (tj : Byte) (sensor : Fin 28) : State := s.readTj tj sensor

/-- THERMAL: Tj has stayed at or above 110 °C for 1 ms. -/
def State.thermal (s : State) (tj : Byte) (sensor : Fin 28) : State :=
  let s := s.readTj tj sensor
  if 110 ≤ tj.toNat then s.enterSafe 4 else s

/-! ### Die-to-die links (R406, R465) -/

/-- Modules of link j. -/
def linkModules (j : Nat) : Nat := if j < 4 then 3 else if j = 4 then 5 else 1

/-- Change link j. -/
def State.updLink (s : State) (j : Nat) (f : DieLink → DieLink) : State := { s with sys.links := s.sys.links.modify j f }

/-- Link j fails beyond lane repair: its ports or trunks go down, and its die's unit is retired. -/
def State.dieLinkFailure (s : State) (j : Nat) : State :=
  if s.sys.dieLost.toNat.testBit j ∨ s.sys.mode = .reset then s
  else
    let s := { s with sys.dieLost := s.sys.dieLost ||| BitVec.ofNat 6 (2 ^ j) }.updLink j fun l =>
      { l with up := false, modules := 0 }
    let s := s.freezeMaskable 5
    if j < 4 then ((List.range 16).map (16 * j + ·)).foldl (fun s p =>
      (s.linkLost p 0 false).updPort p fun k => { k with training := false }) s
    else if j = 4 then (List.range 8).foldl (fun s t =>
      (s.leaveActive t 0x10).updTrunk t fun k => { k with phase := .off, retrying := false }) s
    else s

/-- A lane of link j is repaired by a retrain of its module; without a lane left the link fails. -/
def State.d2dLaneRepair (s : State) (j : Nat) (spareLeft : Bool) : State :=
  if ¬ ((s.sys.links.getD j {}).up) then s
  else if spareLeft then
    (s.pass 1000).updLink j fun l => { l with repaired := if l.repaired = 15 then 15 else l.repaired + 1 }
  else s.dieLinkFailure j

/-! ### Firmware images (R436, R438) -/

/-- Byte of the xSPI flash. -/
def State.flashByte (s : State) (a : Nat) : Byte := (s.mgmt.flash.get a).getD (Config.flashByte a)

/-- Bytes of image slot k from an offset. -/
def State.imageBytes (s : State) (k off n : Nat) : List Byte := (List.range n).map fun i => s.flashByte (k * 0x2000000 + off + i)

/-- A header field of image slot k: its byte offset and size. -/
def State.imageField (s : State) (k off n : Nat) : Nat := leNat (s.imageBytes k off n)

/-- The lock entries of image slot k (R437): (checker, region, entry). -/
def State.lockEntries (s : State) (k : Nat) : List (Nat × Nat × Nat) :=
  let off := s.imageField k 16 4
  (List.range (s.imageField k 20 2)).map fun i =>
    let e := s.imageField k (off + 40 * i) 40
    (field e 0 7, field e 8 8, field e 64 256)

/-- The first two rules of R146 on a region entry: BASE and LIMIT aligned and ordered, and a space and permissions that
exist. -/
def lockEntryOk (n : Nat) : Bool :=
  let r := Region.ofNat n
  !r.valid || (r.base % 4096 == 0 && r.limit % 4096 == 4095 && decide (r.base ≤ r.limit) && decide (r.space < 4))

/-- Does the image in slot k verify (R438)? -/
def State.imageOk (s : State) (k : Nat) : Bool :=
  let len := s.imageField k 12 4
  let sig := s.imageField k 28 4
  let lockOff := s.imageField k 16 4
  let lockN := s.imageField k 20 2
  let key := field (s.imageField k 9 1) 0 2
  let pub := BitVec.ofNat 768 (beNat (s.imageBytes k 64 96))
  let pairs := (s.lockEntries k).map fun e => (e.1, e.2.1)
  s.imageField k 0 4 == 0x4D524C42 && decide (len ≤ 0x2000000) && decide (256 ≤ len)
    && decide (lockOff + 40 * lockN ≤ len) && decide (lockN ≤ 616)
    && decide (s.imageField k 24 4 + s.imageField k 32 4 ≤ len) && decide (sig + 96 ≤ len)
    && Config.sha384 (s.imageBytes k 64 96) == Config.fwKeyHash key && !s.mgmt.fuses.fwKeyRevoke.toNat.testBit key
    && Config.ecdsaP384 pub (s.imageBytes k 0 sig) (BitVec.ofNat 768 (beNat (s.imageBytes k sig 96)))
    && decide (s.mgmt.fuses.svn.toNat ≤ s.imageField k 8 1)
    && (s.lockEntries k).all (fun e => decide (e.1 < 77) && decide (56 ≤ e.2.1) && decide (e.2.1 < 64) && lockEntryOk e.2.2)
    && pairs.eraseDups.length == pairs.length

/-! ### Management pairs (R337 to R345) -/

/-- Number of a pair. -/
def pairNo : Pair → Nat
  | .a => 0 | .b => 1
/-- The other pair. -/
def otherPair : Pair → Pair
  | .a => .b | .b => .a
/-- Bits of a pair's state (R356). -/
def pairStateNo : PairState → Nat
  | .off => 0 | .booting => 1 | .syncing => 2 | .standbyReady => 3 | .active => 4 | .fenced => 5 | .retired => 6
/-- State of a pair. -/
def State.pairState (s : State) : Pair → PairState
  | .a => s.sys.pairA | .b => s.sys.pairB
/-- Registers of a pair. -/
def State.pairRegs (s : State) : Pair → PairRegs
  | .a => s.sys.regsA | .b => s.sys.regsB
/-- Change a pair's registers. -/
def State.updPair (s : State) (p : Pair) (f : PairRegs → PairRegs) : State :=
  match p with
  | .a => { s with sys.regsA := f s.sys.regsA }
  | .b => { s with sys.regsB := f s.sys.regsB }

/-- A pair takes a state: it counts as retired from RETIRED until it is STANDBY_READY, or ACTIVE, again. -/
def State.setPair (s : State) (p : Pair) (st : PairState) : State :=
  let bit := BitVec.ofNat 2 (2 ^ pairNo p)
  let r := match st with
    | .retired => s.sys.pairRetired ||| bit
    | .standbyReady | .active => s.sys.pairRetired &&& ~~~ bit
    | _ => s.sys.pairRetired
  let s : State := { s with sys.pairRetired := r }
  match p with
  | .a => { s with sys.pairA := st }
  | .b => { s with sys.pairB := st }

/-- A pair is retired. -/
def State.retirePair (s : State) (p : Pair) : State := (s.setPair p .retired).freezeMaskable 5

/-- The ACTIVE pair. -/
def State.active (s : State) : Option Pair :=
  if s.sys.pairA = .active then some .a else if s.sys.pairB = .active then some .b else none

/-- A pair becomes ACTIVE: its watchdog starts. -/
def State.makeActive (s : State) (p : Pair) : State :=
  let s := (s.setPair p .active).updPair p fun r => { r with kicked := s.sys.ft, applied := s.sys.journalTail }
  { s with sys.activePair := decide (p = .b) }

/-- SYNCING to ACTIVE, as at the first release: no pair is ACTIVE or FENCED and no handover is under way. Pair A goes
first. -/
def State.firstActive (s : State) : State :=
  if s.hasActive ∨ s.sys.pairA = .fenced ∨ s.sys.pairB = .fenced ∨ s.sys.handover.isSome then s
  else if s.sys.pairA = .syncing then s.makeActive .a
  else if s.sys.pairB = .syncing then s.makeActive .b
  else s

/-- A pair has verified its image and started Bolroth, or is retired (R338). -/
def State.pairBoot (s : State) (p : Pair) : State :=
  if s.pairState p ≠ .booting ∨ s.sys.mode = .reset ∨ s.sys.mode = .prepare then s
  else
    let k := if (s.pairRegs p).imageSlot then 1 else 0
    if s.imageOk k then
      let s := s.updPair p fun r => { r with
        imageVersion := BitVec.ofNat 32 (s.imageField k 4 4), svn := BitVec.ofNat 8 (s.imageField k 8 1)
        revoke := BitVec.ofNat 4 (field (s.imageField k 8 4) 10 4), since := s.sys.ft, applied := 0 }
      (s.setPair p .syncing).firstActive
    else s.retirePair p

/-- A full resynchronisation (R341): the ACTIVE pair writes a SNAPSHOT_MARK, and the standby copies the live state. -/
def State.resync (s : State) (p : Pair) : State :=
  let s := (s.setPair p .syncing).updPair p fun r => { r with since := s.sys.ft }
  let s := s.countGlobal 196
  if s.hasActive then
    let s := s.journal 6 0
    s.updPair p fun r => { r with applied := s.sys.journalTail }
  else s

/-- How many journal records a pair is behind. -/
def State.behind (s : State) (p : Pair) : Nat := (s.sys.journalTail - (s.pairRegs p).applied).toNat

/-- A record of the journal ring. -/
def State.journalRec (s : State) (seq : U32) : JRec := s.sys.journal.get (seq.toNat % 262144)

/-- The time that the records which a pair has still to apply span, in ns: from the first of them to the journal tail (R342). -/
def State.behindNs (s : State) (p : Pair) : Nat :=
  if s.behind p = 0 then 0 else (s.journalRec s.sys.journalTail).at_ - (s.journalRec ((s.pairRegs p).applied + 1)).at_

/-- A standby that falls more than 196,608 records, or 1 ms of records, behind resynchronises (R342). -/
def State.checkStandby (s : State) (p : Pair) : State :=
  if s.pairState p = .standbyReady ∧ (196608 < s.behind p ∨ 1000000 < s.behindNs p) then s.resync p else s

/-- A standby applies journal records (R341). -/
def State.journalApply (s : State) (p : Pair) (records : Nat) (unreadable : Bool) : State :=
  if s.pairState p ≠ .syncing ∧ s.pairState p ≠ .standbyReady then s
  else if unreadable then s.resync p
  else
    let s := s.updPair p fun r => { r with applied := r.applied + BitVec.ofNat 32 (Nat.min records (s.behind p)) }
    if s.pairState p = .syncing ∧ s.behind p = 0 ∧ (s.hasActive ∨ s.sys.handover.isSome) then s.setPair p .standbyReady else s

/-- STANDBY_STALLED: the ACTIVE pair retires a standby that stays SYNCING for more than 10 s (R339). -/
def State.standbyStalled (s : State) : State :=
  match s.active with
  | none => s
  | some p =>
    let q := otherPair p
    if s.pairState q ≠ .syncing then s
    else
      let s := s.advanceTo ((s.pairRegs q).since + 10000000001)
      (s.retirePair q).log 0x0503 1 [(1, 0), (1, pairNo q), (1, pairNo p)]

/-- Commands that wait unstarted get HANDOVER_IN_PROGRESS (R344). -/
def State.turnAway (s : State) : State :=
  (s.mgmt.running.filter fun r => !r.started).foldl (fun s r =>
    let s := { s with mgmt.running := s.mgmt.running.filter (·.ticket ≠ r.ticket) }
    s.respond r.instr r.src r.tag r.ticket rcHandover (leBytes s.retryHint 4)) s

/-- A handover starts (R343 steps 1 to 3): SPDM sessions end (R440). -/
def State.startHandover (s : State) (cause : Nat) : State :=
  let s := { s with
    sys.handoverCause := BitVec.ofNat 3 cause, sys.handover := some s.sys.ft, mgmt.sessions := .empty, mgmt.spdm := .empty }
  let s := if s.sys.mode = .service ∨ s.sys.mode = .degraded then s.setMode .handover else s
  s.turnAway

/-- A handover that a command started loses its standby: the ACTIVE pair, which has no mismatch, keeps service, and the mode that was
HANDOVER becomes DEGRADED (R15). -/
def State.dropHandover (s : State) : State :=
  if s.sys.handover.isNone ∨ ¬ s.hasActive then s
  else
    let s := { s with sys.handover := none }
    if s.sys.mode = .handover then s.setMode s.serviceMode else s

/-- A pair's outputs are blocked: it becomes FENCED and then RETIRED, and a handover starts if it was ACTIVE (R337). -/
def State.fencePair (s : State) (p : Pair) (cause : Nat) : State :=
  let st := s.pairState p
  if st = .off ∨ st = .retired ∨ s.sys.mode = .reset then s
  else
    let s := s.freezeMaskable 4
    let s := (s.setPair p .fenced).retirePair p
    if st = .active then s.startHandover cause else s.dropHandover

/-- LOCKSTEP_MISMATCH. -/
def State.lockstepMismatch (s : State) (p : Pair) (c : MismatchCause) : State :=
  s.fencePair p (match c with
    | .lockstep => 1
    | .sramParity => 2)

/-- WATCHDOG_EXPIRY: it does not count while the debug bridge holds the grant (R339). -/
def State.watchdogExpiry (s : State) : State :=
  match s.active with
  | none => s
  | some p =>
    if s.mgmt.dbg.hold then s
    else
      let r := s.pairRegs p
      (s.advanceTo (r.kicked + r.wdtPeriod.toNat * 1000000)).fencePair p 3

/-- WDT_KICK. -/
def State.wdtKick (s : State) (p : Pair) : State :=
  if s.pairState p = .active then s.updPair p fun r => { r with kicked := s.sys.ft } else s

/-- Step 5 of R343: the new pair is ACTIVE, the old one STANDBY_READY after a command, and the mode returns. -/
def State.takeOver (s : State) (old new : Pair) : State :=
  let s := if s.pairState old = .active then
      (s.setPair old .standbyReady).updPair old fun r => { r with applied := s.sys.journalTail }
    else s
  let s := s.makeActive new
  let s := { s with sys.handover := none, sys.handoverCount := s.sys.handoverCount + 1 }.countGlobal 195
  let s := s.log 0x0502 1 [(1, s.sys.handoverCause.toNat), (1, pairNo old), (1, pairNo new)]
  if s.sys.mode = .handover then s.setMode s.serviceMode else s

/-- HANDOVER_COMPLETE (R343 steps 4 and 5). -/
def State.handoverComplete (s : State) : State :=
  if s.sys.handover.isNone ∨ s.mgmt.dbg.hold then s
  else
    let old : Pair := if s.sys.activePair then .b else .a
    let new := if s.pairState (otherPair old) = .standbyReady then otherPair old else old
    if s.pairState new ≠ .standbyReady then s else s.takeOver old new

/-- STATE_CONFLICT naming a pair. -/
def State.pairConflict (s : State) (p : Pair) : CmdRes := conflict s 6 (pairNo p) (pairStateNo (s.pairState p))

/-- HANDOVER. -/
def State.cmdHandover (s : State) (i : Instr) (h : CmdHdr) : State :=
  s.command i h { opcode := 0xC903, changes := true } none fun s _ =>
    match s.active with
    | none => conflict s 6 0 0
    | some p =>
      if s.pairState (otherPair p) ≠ .standbyReady then s.pairConflict (otherPair p)
      else ok ((s.journal 5 0).startHandover 4)

/-- What PAIR_RESET does. -/
def State.pairReset (s : State) (p : Pair) (slot : Bool) : CmdRes :=
  let st := s.pairState p
  if st = .active ∨ st = .off ∨ st = .fenced then s.pairConflict p
  else ok ((s.setPair p .booting).updPair p fun r =>
    { r with imageSlot := slot, imageVersion := 0, applied := 0, since := s.sys.ft })

/-- PAIR_RESET: the gateway serves it itself while no pair is ACTIVE (R345). -/
def State.cmdPairReset (s : State) (i : Instr) (h : CmdHdr) (p : Pair) (slot : Bool) : State :=
  let c : CmdSpec := { opcode := 0xC904, len := 2, changes := true }
  let run (s : State) (_ : Nat) : CmdRes := s.pairReset p slot
  s.command i h c (if s.hasActive then none else some run) run

/-- BOOT_CONFIRMED (R399, R439): the running image's SECURITY_VERSION and REVOKE_MASK may be burned. -/
def State.bootConfirm (s : State) : State :=
  match s.active with
  | none => s
  | some p =>
    if s.sys.status.bootConfirmed ∨ ¬ s.sys.served then s
    else
      let r := s.pairRegs p
      let s := { s with sys.status := { s.sys.status with bootConfirmed := true } }
      if s.tab.policy.svnAdvance then
        { s with mgmt.fuses := { s.mgmt.fuses with
            svn := if s.mgmt.fuses.svn.toNat < r.svn.toNat then r.svn else s.mgmt.fuses.svn
            fwKeyRevoke := s.mgmt.fuses.fwKeyRevoke ||| r.revoke } }
      else s

/-! ### SERVICE_START, DRAIN -/

/-- The mode that the next entry into SERVICE brings, with what R401 and R405 start. -/
def State.enterService (s : State) : State :=
  let warm := s.sys.warmPending
  let s := { s with sys.served := true, sys.warmPending := false, sys.hostStartDue := some (s.sys.ft + 10000000000) }
  let s := if warm then
      let slots := s.bank.sharers.find fun _ e => e.valid
      let hosts := s.tab.ports.find fun _ k => k.present && k.role == .host
      { s with
        dp.unrespSlots := slots.foldl (fun n i => n ||| BitVec.ofNat 64 (2 ^ i)) s.dp.unrespSlots
        dp.unrespPorts := hosts.foldl (fun n p => n ||| BitVec.ofNat 64 (2 ^ p)) s.dp.unrespPorts }
    else s
  let s := (s.setMode .service).settleMode
  let s := ((List.range 8).filter fun t => (s.trunkParam t).enable).foldl (fun s t => s.startTrunk t) s
  (s.edge.ports.keys.filter fun p => (s.port p).role == .poolMember && !(s.port p).perst).foldl
    (fun s p => s.updPort p fun k => { k with training := true }) s

/-- SERVICE_START. -/
def State.cmdServiceStart (s : State) (i : Instr) (h : CmdHdr) : State :=
  s.command i h { opcode := 0xC902, changes := true } none fun s _ =>
    if s.sys.mode ≠ .provision then conflict s 0 0 0
    else if s.tab.epoch = 0 then conflict s 7 0 0
    else ok s.enterService

/-- MODE_GET's MGMT_STATUS (R356). -/
def State.mgmtStatus (s : State) : Nat :=
  pack [(4, modeNo s.sys.mode), (1, b2n s.sys.activePair), (3, pairStateNo s.sys.pairA), (3, pairStateNo s.sys.pairB),
    (4, s.rank), (1, b2n s.tab.ident.valid), (1, b2n s.sys.leader), (1, b2n s.mgmt.dbg.enabled),
    (1, b2n s.mgmt.dbg.hold), (3, s.sys.handoverCause.toNat), (10, 0), (32, s.sys.handoverCount.toNat)]

/-- MODE_GET. -/
def State.cmdModeGet (s : State) (i : Instr) (h : CmdHdr) : State :=
  s.command i h { opcode := 0xC901, scope := .anyone } none fun s _ => .done s rcSuccess (leBytes s.mgmtStatus 8)

/-- The leader of a fabric without ranks (R354). -/
def State.settleLeader (s : State) : State :=
  let up := (List.range 8).filter fun t => (s.trunk t).phase == .active
  let lead := !s.tab.ident.valid && s.sys.mode != .reset && s.sys.mode != .prepare
    && up.all fun t => decide (Config.provisionedId.toNat < (s.trunk t).partnerId.toNat)
  { s with sys.leader := lead }

/-! ### The end of debug (R352, R447) -/

/-- The debug bridge no longer holds the grant: the watchdog of the ACTIVE pair has not counted meanwhile (R339). -/
def State.dropHold (s : State) : State :=
  if ¬ s.mgmt.dbg.hold then s
  else
    let s := match s.active with
      | some p => s.updPair p fun r => { r with kicked := r.kicked + (s.sys.ft - Nat.max r.kicked s.sys.heldSince) }
      | none => s
    { s with mgmt.dbg := { s.mgmt.dbg with hold := false } }

/-- Debug ends: the bridge's request line is withdrawn, and DEBUG_STATE is logged. -/
def State.endDebug (s : State) : State :=
  if ¬ s.mgmt.dbg.enabled then s
  else
    let s := s.dropHold
    let s := { s with
      mgmt.dbg := { s.mgmt.dbg with enabled := false }
      tab.checkers := s.tab.checkers.upd 75 fun c => { c with enabled := false }
      sys.owner := if s.sys.owner = 2 then 7 else s.sys.owner }
    s.log 0x050B 0 [(1, 0)]

/-- Debug ends once fabric time has reached its expiry, also by a step of fabric time (R447, R451). -/
def State.expireDebug (s : State) : State := if s.mgmt.dbg.expiry ≤ s.sys.ft then s.endDebug else s

/-- DEBUG_EXPIRY. -/
def State.debugExpiry (s : State) : State := if s.mgmt.dbg.enabled then (s.advanceTo s.mgmt.dbg.expiry).endDebug else s

/-! ### Pins, and what every command leaves in order -/

/-- The output pins that follow the state (R411, R456). -/
def State.pinsNow (s : State) : Pins :=
  { safeN := s.sys.mode == .safe, thermWarnN := s.sys.thermal.warn, thermtripN := s.sys.thermal.trip }

/-- What follows every command: the expiry of debug, the standby's bounds, the mode by the retired units, the leader, the
duration events and the pins. -/
def State.refresh (s : State) : State :=
  let s := (((s.expireDebug.settleMembers.checkStandby .a).checkStandby .b).settleMode).settleLeader
  let s := s.updateConds
  { s with sys.pins := s.pinsNow }

end Sys2Proof.Machine
end

