-- ==== Sys2Proof/Machine/Reset.lean ====
section
/-! DEFINITION. Resets, what each keeps, and PREPARE (R393 to R399, R402, R129, R333). -/

namespace Sys2Proof.Machine

/-! ### Cold reset (R393, R396, R402, R456) -/

/-- The slot-power die after a cold reset: every register at its reset value; PRSNT_N_n is the board's. -/
def State.coldSlots (s : State) : Slots :=
  { chans := (s.slots.chans.find fun _ c => c.prsntLow).foldl (fun t n => t.set n { prsntLow := true }) .empty }

/-- Crossbar-written bytes of the Brittle archive, which a reset with GDDR6 in self-refresh keeps (R129). -/
def State.keptStore (s : State) : Tbl (none : Option Byte) :=
  s.mgmt.store.within 0x3B0000000 0x4000000

/-- The state after a cold reset: fuses, flash and board inputs stay, and the Brittle archive while GDDR6 keeps its
contents (R129). -/
def State.cold (s : State) (kind : BitVec 3) (keepGddr : Bool) : State :=
  let o : Obs := if keepGddr then
      { archives := s.obs.archives, archiveSeq := s.obs.archiveSeq, out := s.obs.out }
    else { out := s.obs.out }
  { sys := {
      status := { kind := kind }
      thermal := { trip := s.sys.thermal.trip }
      railPg := s.sys.railPg }
    obs := o
    dir := if keepGddr then
        { flip0 := s.dir.flip0.within 0x3B0000000 0x4000000, flip1 := s.dir.flip1.within 0x3B0000000 0x4000000 }
      else {}
    slots := s.coldSlots
    mgmt := {
      fuses := s.mgmt.fuses, flash := s.mgmt.flash, ownerChain := s.mgmt.ownerChain, challengeNo := s.mgmt.challengeNo
      store := if keepGddr then s.keptStore else .empty }
    freeCtr := s.freeCtr
    pending := s.pending }

/-- POWER_ON: the core and auxiliary rails rise; the THERMTRIP latch is clear (R456). -/
def State.powerOn (s : State) : State :=
  let t := s.cold 0 false
  { t with sys.thermal := {}, sys.railPg := 0xF }

/-- COLD_PIN: the archive is kept, but for slots that fail their check (R129). -/
def State.coldPin (s : State) : State := s.checkArchives.cold 1 true

/-- A rail's bit in RAIL_STATUS. -/
def railNo : Rail → Nat
  | .core => 0 | .serdes => 1 | .gddr => 2 | .aux => 3

/-- RAIL_FAULT: LAST_FAULT names the rail, and nothing of it stays when VDD_AUX itself is gone. -/
def State.railFault (s : State) (r : Rail) : State :=
  let t := s.cold 2 false
  { t with
    sys.railPg := s.sys.railPg &&& ~~~ BitVec.ofNat 4 (2 ^ railNo r)
    sys.railFault := match r with
      | .core => 1
      | .serdes => 2
      | .gddr => 3
      | .aux => 0 }

/-- THERMTRIP: the latch sets and the part is held in RESET (R456). KIND keeps its value (DESIGN CHOICE, log entry 43). -/
def State.thermtrip (s : State) (tj : Byte) (sensor : Fin 28) : State :=
  if tj.toNat < 125 then s.readTj tj sensor
  else
    let t := s.readTj tj sensor
    let c := s.checkArchives.cold s.sys.status.kind true
    { c with sys.thermal := { t.sys.thermal with trip := true } }

/-! ### Warm reset (R402) -/

/-- Queue pairs keep their assignment and QP_GEN, and are DISABLED (R181); one without an assignment keeps QP_GEN alone. -/
def State.warmQps (s : State) : Tbl ({} : Qp) :=
  s.wq.qps.keys.foldl (fun t q =>
    let k := s.wq.qps.get q
    t.set q (if k.state = .unassigned then { qpGen := k.qpGen }
      else { state := .disabled, tenant := k.tenant, hostPort := k.hostPort, dbPage := k.dbPage, qpGen := k.qpGen })) .empty

/-- Locks stay; every other checker register returns to its reset value. -/
def State.warmCheckers (s : State) : Tbl ({} : Checker) :=
  (s.tab.checkers.find fun _ c => c.locked != 0).foldl (fun t k => t.set k { locked := (s.tab.checkers.get k).locked }) .empty

/-- What a warm reset keeps of the bits by which copies differ: those of the archive and of the current image (R129). -/
def State.warmFlips (s : State) (t : Tbl (0 : Byte)) : Tbl (0 : Byte) :=
  match s.mgmt.cfg.current with
  | some k => ⟨(t.within (slotBase k) 0x4000000).cells ++ (t.within 0x3B0000000 0x4000000).cells⟩
  | none => t.within 0x3B0000000 0x4000000

/-- The state after a warm reset. -/
def State.warm (s : State) : State :=
  let s := s.checkArchives
  let st := s.sys.status
  let keptImage : Tbl ([] : List Byte) := match s.mgmt.cfg.current with
    | some k => Tbl.empty.set k (s.mgmt.cfg.slots.get k)
    | none => .empty
  let t : State :=
    { sys := {
        ft := s.sys.ft, frac := s.sys.frac, warmPending := true, stopped := s.sys.stopped
        status := { kind := 3, bootSlot := st.bootSlot, bootConfirmed := st.bootConfirmed, safeCause := st.safeCause,
                    warmCount := if st.warmCount = 0xFFFF then 0xFFFF else st.warmCount + 1 }
        thermal := s.sys.thermal, railPg := s.sys.railPg, pps := { missed := s.sys.pps.missed }
        handoverCount := s.sys.handoverCount, liveLog := s.sys.liveLog }
      obs := {
        log := s.obs.log, status := { s.obs.status with archiving := false }, freezeTime := s.obs.freezeTime
        archived := s.obs.archived, archives := s.obs.archives, archiveSeq := s.obs.archiveSeq, out := s.obs.out }
      tab := {
        bank0 := { regions := s.tab.bank0.regions, tenants := s.tab.bank0.tenants }
        bank1 := { regions := s.tab.bank1.regions, tenants := s.tab.bank1.tenants }
        gens := s.tab.gens, checkers := s.warmCheckers }
      dir := { retired := s.dir.retired, reloc := s.dir.reloc, lost := s.dir.lost, lastPatrol := s.sys.ft
               flip0 := s.warmFlips s.dir.flip0, flip1 := s.warmFlips s.dir.flip1 }
      wq := { qps := s.warmQps }
      slots := s.slots
      mgmt := {
        fuses := s.mgmt.fuses, flash := s.mgmt.flash, ownerChain := s.mgmt.ownerChain, challengeNo := s.mgmt.challengeNo
        lockTable := s.mgmt.lockTable, bscanUsed := s.mgmt.bscanUsed, store := s.keptStore
        cfg := { slots := keptImage, current := s.mgmt.cfg.current, digest := s.mgmt.cfg.digest,
                 liveImage := s.mgmt.cfg.liveImage
                 confirmLost := s.mgmt.cfg.phase == .flipped } }
      freeCtr := s.freeCtr
      pending := s.pending }
  t.slots.chans.keys.foldl (fun t n => t.slotPins n) t

/-- WARM_PIN: debug ends (R447), the log freezes, and the reset is taken. In RESET the pin only holds the part there (R394). -/
def State.warmPin (s : State) : State :=
  if s.sys.mode = .reset then s
  else
    let s := (s.endDebug.setMode .reset).freezeAlways 3
    s.warm

/-! ### PREPARE (R397, R398, R129) -/

/-- PREPARE_STEP. -/
def State.prepareStep (s : State) (k : Nat) : State :=
  { s with sys.status := { s.sys.status with prepareStep := BitVec.ofNat 4 k } }

/-- Step 3: the die-to-die links; a die whose link does not train is retired. -/
def State.trainLinks (s : State) (up : BitVec 6) : State :=
  (List.range 6).foldl (fun s j =>
    if up.toNat.testBit j then s.updLink j fun l => { l with up := true, modules := BitVec.ofNat 3 (linkModules j) }
    else { s with sys.dieLost := s.sys.dieLost ||| BitVec.ofNat 6 (2 ^ j) }.freezeMaskable 5) s

/-- Retire the channels of a mask that failed training or read-back. -/
def State.retireMask (s : State) (m : U32) : State := (bitList m.toNat 32).foldl (fun s c => s.retireChannel c 4) s

/-- Does some pair have both channels retired? -/
def State.pairGone (s : State) : Bool := (List.range 16).any fun p => !s.chanOk p && !s.chanOk (p + 16)

/-- The boot ROM's choice (R398): slot and FALLBACK. -/
def bootChoice (ok0 ok1 : Bool) (v0 v1 : Nat) (warm confirmed last : Bool) : Option (Bool × Bool) :=
  match ok0, ok1 with
  | false, false => none
  | true, false => some (false, false)
  | false, true => some (true, false)
  | true, true =>
    if warm && !confirmed then some (!last, true) else some (decide (v0 < v1), false)

/-- Step 7: both images are verified, and one is chosen. -/
def State.bootVerify (s : State) : State :=
  let ok0 := s.imageOk 0
  let ok1 := s.imageOk 1
  let st := s.sys.status
  let s := { s with sys.status := { st with slot0Ok := ok0, slot1Ok := ok1 } }.prepareStep 7
  match bootChoice ok0 ok1 (s.imageField 0 4 4) (s.imageField 1 4 4) (decide (st.kind = 3)) st.bootConfirmed st.bootSlot with
  | none => s.enterSafe 2
  | some (slot, fb) => { s with sys.status := { s.sys.status with bootSlot := slot, fallback := fb } }

/-- RESET_RELEASE: the part leaves RESET and PREPARE runs its steps 1 to 7, as far as they succeed. THERMTRIP holds it in
RESET. -/
def State.release (s : State) (r : PrepareReport) : State :=
  if s.sys.mode ≠ .reset ∨ s.sys.thermal.trip then s
  else
    let s := ({ s with sys.railPg := 0xF }.setMode .prepare).prepareStep 1
    if ¬ r.fusesOk then s.enterSafe 1
    else
      let s := s.prepareStep 2
      if ¬ r.sramOk then s.enterSafe 1
      else
        let s := ((s.prepareStep 3).trainLinks r.linkUp).prepareStep 4
        if r.straps = 3 then s.enterSafe 1
        else
          let s := ((s.retireMask r.trainFail).prepareStep 6).retireMask r.readFail
          if s.pairGone then s.enterSafe 1
          else
            let s := if s.obs.status.frozen ∧ ¬ s.obs.archived then s.archiveLog else s
            s.bootVerify

/-! ### Steps 8 and 9 -/

/-- Step 8 writes one lock entry: the region in both banks, and its lock (R155). -/
def State.lockRegion (s : State) (e : Nat × Nat × Nat) : State :=
  let k := 64 * e.1 + e.2.1
  let r := Region.ofNat e.2.2
  { s with
    tab.bank0 := { s.tab.bank0 with regions := s.tab.bank0.regions.set k r }
    tab.bank1 := { s.tab.bank1 with regions := s.tab.bank1.regions.set k r }
    tab.checkers := s.tab.checkers.upd e.1 fun c => { c with locked := c.locked ||| BitVec.ofNat 8 (2 ^ (e.2.1 - 56)) } }

/-- Step 8: the lock table, only after a cold reset, and the key store (R397, R434). -/
def State.lockStep (s : State) : State :=
  let s := if s.sys.status.kind = 3 then s
    else
      let k := if s.sys.status.bootSlot then 1 else 0
      let s := { s with mgmt.lockTable := s.imageBytes k (s.imageField k 16 4) (40 * s.imageField k 20 2) }
      (s.lockEntries k).foldl (fun s e => s.lockRegion e) s
  { s with
    mgmt.keystoreReady := true, mgmt.challenge := Config.randomChallenge s.mgmt.challengeNo
    mgmt.challengeNo := s.mgmt.challengeNo + 1 }.prepareStep 8

/-- RELEASED: steps 8 and 9. Both pairs boot the chosen slot, every checker but 75 is enabled, and the log resumes. -/
def State.releasePairs (s : State) : State :=
  if s.sys.mode ≠ .prepare ∨ s.sys.stopped ∨ s.sys.status.prepareStep ≠ 7 then s
  else
    let s := s.lockStep
    let slot := s.sys.status.bootSlot
    let boot (r : PairRegs) : PairRegs := { r with imageSlot := slot, since := s.sys.ft }
    let s := (((s.setPair .a .booting).setPair .b .booting).updPair .a boot).updPair .b boot
    let s := { s with
      tab.checkers := ((List.range 77).filter (· ≠ 75)).foldl (fun t k => t.upd k fun c => { c with enabled := true })
        s.tab.checkers
      sys.status := { s.sys.status with bootConfirmed := false } }
    let s := s.prepareStep 9
    let s := if s.obs.status.frozen then s.resumeLog else s
    let s := s.setMode .provision
    s.log 0x050D 0 [(1, b2n slot), (1, b2n s.sys.status.fallback), (1, s.sys.status.kind.toNat)]

end Sys2Proof.Machine
end

