-- ==== Sys2Proof/Machine/Flags.lean ====
section
/-! DEFINITION. The words of status registers and table entries that software reads: each is computed from the state it
reports, as its register map gives. -/

namespace Sys2Proof.Machine

/-! ### Edge ports and trunks (R235, R265, R266, R307 to R309) -/

/-- PORT_STATUS (R235). -/
def State.portStatus (s : State) (p : Nat) : Nat :=
  let k := s.port p
  pack [(3, roleNo k.role), (1, b2n k.dlUp), (3, k.rate), (5, k.width), (5, k.widthNow), (2, k.flit), (2, k.ide),
    (1, b2n k.widthDegraded), (1, b2n k.dpc), (1, b2n k.present), (1, b2n k.slotPg), (1, b2n k.memberReady), (1, b2n k.mld)]

/-- TRUNK_STATUS (R265). -/
def State.trunkStatus (s : State) (t : Nat) : Nat :=
  let k := s.trunk t
  let p := s.trunkParam t
  pack [(4, trunkPhaseNo k.phase), (2, if p.present then p.rate else 0), (1, b2n p.compat), (4, k.rxSkip), (4, k.txSkip),
    (9, k.locked.toNat), (4, k.holdReason), (2, k.spare)]

/-- TRUNK_PARTNER (R265): valid in ACTIVE and HELD. -/
def State.trunkPartner (s : State) (t : Nat) : Nat :=
  let k := s.trunk t
  if k.phase = .active ∨ k.phase = .held then
    pack [(48, k.partnerId.toNat), (4, k.partnerRank.toNat), (1, b2n k.partnerRankValid), (3, k.partnerTrunk.toNat)]
  else 0

/-- ROLE of a receive lane (R266): 0 ACTIVE, 1 IDLE, 2 OFF. -/
def State.laneRole (s : State) (t n : Nat) : Nat :=
  let k := s.trunk t
  if k.phase = .off ∨ k.phase = .held then 2
  else if n = k.rxSkip ∧ (k.phase = .active ∨ k.phase = .init) then (if (s.trunkParam t).compat then 2 else 1)
  else 0

/-- A quality block (R266). -/
def State.qualityBlock (s : State) (t n : Nat) : Nat :=
  let q := (s.trunk t).lanes.getD n {}
  pack [(32, q.prbsErrors.toNat), (32, q.prbsKbits.toNat), (32, q.fecCorr.toNat), (2, s.laneQuality t n),
    (2, s.laneRole t n), (1, b2n ((s.trunk t).locked.toNat.testBit n))]

/-- LL_STATUS (R307). A replay pass is instantaneous in this model, so REPLAYING reads 0. -/
def State.llStatus (s : State) (t : Nat) : Nat :=
  let k := s.trunk t
  pack [(12, k.next.toNat), (12, k.oldest.toNat), (11, k.outstanding), (12, k.expect.toNat), (1, b2n k.nakOut), (1, 0),
    (2, k.move), (1, b2n k.resync)]

/-- A credit state register (R308). -/
def State.creditState (s : State) (t k : Nat) : Nat :=
  let r := s.trunk t
  pack [(16, r.window k), (16, (r.advertised.getD k 0).toNat), (16, r.leak.getD k 0)]

/-- A signed value in w bits, saturating. -/
def satInt (w : Nat) (i : Int) : Nat := ofInt w (max (-(2 ^ (w - 1) : Int)) (min i (2 ^ (w - 1) - 1)))

/-- TIME_STATUS (R309). -/
def State.timeStatus (s : State) (t : Nat) : Nat :=
  let k := s.trunk t
  let heard := k.partnerHops ≠ 15 ∨ k.partnerRoot ≠ {}
  pack [(32, satInt 32 k.offset), (16, Nat.min 65535 k.delay), (1, b2n (s.trk.parent == some t)),
    (4, if heard then k.partnerHops else 0)]

/-! ### Management registers (R356, R406, R409, R412, R450, R458, R463, R465) -/

/-- PAIR_CTRL (R356): WDT_KICK is write-only. -/
def PairRegs.word (r : PairRegs) : Nat :=
  pack [(8, 0), (10, r.wdtPeriod.toNat), (1, b2n r.imageSlot), (13, 0), (32, r.imageVersion.toNat)]

/-- ARB_STATUS (R356). -/
def State.arbStatus (s : State) : Nat :=
  pack [(3, s.sys.owner.toNat), (6, s.sys.windowGrants.toNat), (6, s.sys.masked.toNat), (17, 0), (32, if s.sys.owner = 7 then 0 else Nat.min 0xFFFFFFFF ((s.sys.ft - s.sys.heldSince) * 6 / 5))]

/-- DRAIN_STATUS (R409). -/
def Drain.word (d : Drain) : Nat :=
  pack [(20, d.total), (20, d.moved), (20, d.short), (1, b2n d.done), (1, b2n d.cancelled)]

/-- RESET_STATUS (R412). -/
def ResetStatus.word (r : ResetStatus) : Nat :=
  pack [(3, r.kind.toNat), (1, b2n r.slot0Ok), (1, b2n r.slot1Ok), (1, b2n r.bootSlot), (1, b2n r.fallback),
    (1, b2n r.bootConfirmed), (4, r.prepareStep.toNat), (4, r.safeCause.toNat), (16, r.warmCount.toNat)]

/-- SPDM sessions in use (R440). -/
def State.openSessions (s : State) : Nat := (s.mgmt.sessions.cells.filter fun c => c.2.src.isSome || c.2.device.isSome).length

/-- Whole seconds to the debug expiry. -/
def State.debugRemaining (s : State) : Nat :=
  if s.mgmt.dbg.enabled then (s.mgmt.dbg.expiry - s.sys.ft) / 1000000000 else 0

/-- SEC_STATUS (R450). -/
def State.secStatus (s : State) : Nat :=
  let d := s.mgmt.dbg
  let f := s.mgmt.fuses
  pack [(1, b2n s.mgmt.keystoreReady), (1, b2n d.enabled), (1, b2n d.key), (1, b2n f.debugKey1.isSome),
    (4, f.fwKeyRevoke.toNat), (2, f.debugRevoke.toNat), (1, b2n s.mgmt.bscanUsed), (1, 0), (8, f.svn.toNat),
    (5, s.openSessions), (7, 0), (32, s.debugRemaining)]

/-- THERMAL_STATUS (R458): PEAK_CLR is write-only. -/
def Thermal.word (t : Thermal) : Nat := pack [(8, t.now.toNat), (8, t.peak.toNat), (5, t.hot.toNat), (1, b2n t.warn)]

/-- RAIL_STATUS (R458). -/
def State.railStatus (s : State) : Nat := pack [(4, s.sys.railPg.toNat), (3, s.sys.railFault.toNat)]

/-- FT_STATUS (R463). In RESET it shows its reset value. -/
def State.ftStatus (s : State) : Nat :=
  let p := s.sys.pps
  let root := s.isRoot && s.sys.mode != .reset
  pack [(1, b2n root), (1, b2n (root || s.trk.synced)), (1, b2n p.present), (1, b2n p.locked),
    (4, if s.sys.mode = .reset then 15 else s.trk.hops), (8, p.missed.toNat), (32, satInt 32 p.error)]

/-- D2D_STATUS (R465). -/
def State.d2dStatus (s : State) : Nat :=
  pack (s.sys.links.map fun l => (8, pack [(4, l.repaired.toNat), (1, b2n l.up), (3, l.modules.toNat)]))

/-! ### Checkers (R151, R157) -/

/-- STATUS of a checker. -/
def State.checkerStatus (s : State) (k : Nat) : Nat := pack [(1, b2n s.tab.cur), (1, b2n (s.tab.checkers.get k).enabled)]

/-- FAULT_CAPTURE. -/
def Checker.captureWord (c : Checker) : Nat :=
  pack [(1, b2n c.capValid), (3, c.capSpace.toNat), (2, c.capNeeds.toNat), (7, c.capRegion.toNat), (1, b2n c.capLockedHit),
    (12, c.capTenant.toNat), (4, c.capRank.toNat), (1, b2n c.capPriv), (1, b2n c.capNoTenant), (32, 0), (64, c.capAddr.toNat)]

/-! ### Table entries (R77, R85, R109, R322) -/

/-- A transaction table entry (R77). -/
def Txn.toNat (t : Txn) : Nat :=
  pack [(3, tstateNo t.state), (1, b2n t.bank), (8, t.epochLo.toNat), (11, t.recipe), (4, t.step), (3, t.cls),
    (6, t.opcode), (2, t.source), (7, t.ingress), (32, t.seq.toNat), (12, t.tenant), (16, t.gen.toNat), (12, t.qp),
    (8, t.qpGen.toNat), (16, t.reqTag.toNat), (64, t.addr), (2, attrNo t.attr), (4, t.homeRank), (19, t.homeTile),
    (3, htNo t.homeState), (1, b2n t.mirrored), (1, b2n t.singleCopy), (6, t.pPort), (24, t.pTile), (6, t.mPort),
    (24, t.mTile), (10, t.migSlot), (2, colourNo t.colour), (18, t.cell), (4, t.unit), (7, t.expect), (7, t.got),
    (1, b2n t.poisonSeen), (1, b2n t.errSeen), (1, b2n t.snoopExpired), (1, b2n t.snoopTimer), (20, t.lifeDl.toNat),
    (20, t.snoopDl.toNat), (2, t.grant.toNat), (4, t.reuse.toNat), (1, b2n t.noTenant)]

/-- A cell allocation record (R85). -/
def CellRec.toNat (c : CellRec) : Nat :=
  pack [(7, c.owner), (3, c.iclass), (5, c.use), (1, b2n c.isOpen), (8, c.stamp.toNat), (2, match c.audit with
    | .free => 0 | .allocated => 1 | .suspect => 2 | .withheld => 3)]

/-- A conflict record (R109). -/
def Conflict.toNat (c : Conflict) : Nat :=
  pack [(1, b2n c.valid), (17, c.txn), (6, c.slot), (1, b2n c.sent), (1, b2n c.answered), (2, c.answer.toNat),
    (1, b2n c.conf), (1, b2n c.confDeferred), (16, field c.confTag.toNat 0 16), (4, c.wbCount), (1, b2n c.wbApplied),
    (8, field c.confTag.toNat 16 8), (5, 0), (58, c.key.toNat)]

/-- Breaker point k of a channel (R322): loaded at a flip. -/
def State.breakerPoint (s : State) (n k : Nat) : Nat :=
  let p := s.slotParam n
  let c := p.curve.getD k (0, 0)
  if s.tab.epoch = 0 then 0 else pack [(16, shuntCode p c.1), (24, c.2)]

end Sys2Proof.Machine
end

