-- ==== Sys2Proof/Machine/Csr.lean ====
section
/-! DEFINITION. MGMT_CSR (R347): what its addresses hold (R157, R160, R181, R208, R235, R265, R332, R348, R356, R414, R426),
reads with their latches (R5, R266), and writes by the access codes of R6 and the rules of R348. -/

namespace Sys2Proof.Machine

/-! ### Contents -/

/-- The registers from MGMT_BASE: offset, size, value. -/
def State.mgmtRegs (s : State) : List (Nat × Nat × Nat) :=
  [(0x000, 8, s.mgmtStatus), (0x010, 8, s.sys.regsA.word), (0x018, 8, s.sys.regsB.word), (0x020, 8, s.arbStatus),
   (0x030, 4, s.sys.journalTail.toNat), (0x040, 8, s.retiredWord), (0x048, 8, s.membersRetired),
   (0x050, 8, s.sys.drain.word), (0x058, 8, s.sys.status.word), (0x060, 8, s.obs.status.word), (0x070, 8, s.secStatus),
   (0x080, 4, s.sys.thermal.word), (0x088, 4, s.railStatus), (0x090, 8, s.sys.ft), (0x098, 8, s.ftStatus),
   (0x0A0, 8, s.d2dStatus)]

/-- The registers of trunk t. -/
def State.trunkRegs (s : State) (t : Nat) : List (Nat × Nat × Nat) :=
  [(0x000, 4, s.trunkStatus t), (0x008, 8, s.trunkPartner t), (0x100, 8, s.llStatus t), (0x160, 8, s.timeStatus t)]
    ++ ((List.range 9).map fun n => (0x040 + 16 * n, 16, s.qualityBlock t n))
    ++ (List.range 8).map fun k => (0x110 + 8 * k, 8, s.creditState t k)

/-- The registers of slot channel n. -/
def State.slotRegs (s : State) (n : Nat) : List (Nat × Nat × Nat) :=
  let c := s.chan n
  [(0x00, 4, s.slotStatus n), (0x08, 8, c.meas), (0x10, 8, c.energyWord), (0x18, 8, c.faultWord)]
    ++ (List.range 8).map fun k => (0x40 + 8 * k, 8, s.breakerPoint n k)

/-- Bank false is 0, true is 1. -/
def State.bankAt (s : State) (one : Bool) : Bank := if one then s.tab.bank1 else s.tab.bank0

/-- The checker block of checker k (R157). FAULT_CAPTURE is frozen while it holds a fault, so its dwords are never latched (R151). -/
def State.checkerObject (s : State) (base k off : Nat) : CsrObject :=
  let c := s.tab.checkers.get k
  if off < 0x1000 then
    let r := off % 0x800 / 32
    { base := base + off / 32 * 32, size := 32, value := ((s.bankAt (decide (0x800 ≤ off))).region k r).toNat }
  else { regObject base off [(0x1000, 4, c.locked.toNat), (0x1004, 4, s.checkerStatus k), (0x1010, 16, c.captureWord)] with
    latches := false }

/-- The quality-of-service tables (R160). Before a first image the meter and schedule tables hold their reset value 0 (R161,
R172). -/
def State.qosObject (s : State) (base off : Nat) : CsrObject :=
  let at_ (o n v : Nat) : CsrObject := { base := base + o, size := n, value := v }
  if off < 0x40000 then
    at_ (off / 32 * 32) 32 (let b := s.bankAt (decide (0x20000 ≤ off)); if b.loaded then (b.meters.get (off % 0x20000 / 32)).toNat else 0)
  else if off < 0x80000 then at_ (off / 64 * 64) 64 (s.tab.meterState.get ((off - 0x40000) / 64)).toNat
  else if off < 0x100000 then
    let x := off % 0x1000 / 32
    let b := s.bankAt (decide (0x81000 ≤ off))
    if off < 0x82000 ∧ x < 72 then at_ (off / 32 * 32) 32 (if b.loaded then (b.scheds.get x).toNat else 0)
    else at_ off 1 0
  else
    let o := off - 0x100000
    let one := decide (0x48000 ≤ o)
    let x := o % 0x48000 / 0x1000
    at_ (off / 0x1000 * 0x1000) 0x1000 (leNat ((s.bankAt one).gates.get x).toBytes)

/-- The table SRAMs (R348). -/
def State.tableObject (s : State) (base off : Nat) : CsrObject :=
  let at_ (o n v : Nat) : CsrObject := { base := base + o, size := n, value := v }
  let item (n : Nat) (v : Nat) : CsrObject := at_ (off / n * n) n v
  if off < 0x10000 then
    let t := off % 0x8000 / 8
    item 8 (((s.bankAt (decide (0x8000 ≤ off))).tenants.get t).toNat (s.tab.gens.get t))
  else if 0x100000 ≤ off ∧ off < 0x180000 then
    item 16 ((s.bankAt (decide (0x140000 ≤ off))).windows.get ((off - 0x100000) % 0x40000 / 16)).toNat
  else if 0x800000 ≤ off ∧ off < 0x1000000 then item 8 (s.tab.tt.get ((off - 0x800000) / 8)).toNat
  else if 0x1000000 ≤ off ∧ off < 0x1800000 then item 16 (s.tab.ht.get ((off - 0x1000000) / 16)).toNat
  else if 0x2000000 ≤ off ∧ off < 0x2100000 then
    let b := s.bankAt (decide (0x2080000 ≤ off))
    let o := (off - 0x2000000) % 0x80000
    if o < 0x1000 then item 2 (b.dispatch.get (o / 2)).toNat
    else if o < 0x41000 then item 8 (b.steps.get ((o - 0x1000) / 8)).toNat
    else at_ off 1 0
  else if 0x2100000 ≤ off ∧ off < 0x2100100 then
    item 2 ((s.bankAt (decide (0x2100080 ≤ off))).sharers.get (off % 0x80 / 2)).toNat
  else if 0x2200000 ≤ off ∧ off < 0x2400000 then item 8 (s.tab.snoop.get ((off - 0x2200000) / 8)).toNat
  else if 0x3000000 ≤ off ∧ off < 0x3800000 then item 64 (Txn.toNat (s.dp.txns.get ((off - 0x3000000) / 64)))
  else if 0x3800000 ≤ off ∧ off < 0x3900000 then item 16 (Conflict.toNat (s.dp.conflicts.get ((off - 0x3800000) / 16)))
  else if 0x3900000 ≤ off ∧ off < 0x3A00000 then item 4 (CellRec.toNat (s.dp.cells.get ((off - 0x3900000) / 4)))
  else at_ off 1 0

/-- A byte of the pairs' SRAM: the applied SEQ of each pair stands at the start of the last 64 B of its own (R341; at their start is a
DESIGN CHOICE, log entry 44). -/
def State.sramByte (s : State) (a : Nat) : Nat :=
  let regs := if a < 0x400000 then s.sys.regsA else s.sys.regsB
  let o := a % 0x400000
  if 0x3FFFC0 ≤ o ∧ o < 0x3FFFC4 then field regs.applied.toNat (8 * (o - 0x3FFFC0)) 8 else (s.mgmt.sram.get a).toNat

/-- What MGMT_CSR holds at an address: none where R347 lists nothing. -/
def State.csrObject (s : State) (a : Nat) : Option CsrObject :=
  let within (base size : Nat) : Bool := decide (base ≤ a) && decide (a < base + size)
  if a < 0x800000 then some { base := a, size := 1, value := s.sramByte a }
  else if within 0x800000 0x40000 then some { base := a, size := 1, value := (Config.bootRomByte (a - 0x800000)).toNat }
  else if within 0x1000000 0x10000 then some (regObject 0x1000000 (a - 0x1000000) s.mgmtRegs)
  else if within 0x1100000 0x10000 then some { base := a, size := 1, value := 0, isFree := true }
  else if within 0x2000000 0x9A000 then
    let k := (a - 0x2000000) / 0x2000
    some (s.checkerObject (0x2000000 + 0x2000 * k) k ((a - 0x2000000) % 0x2000))
  else if within 0x3000000 0x190000 then some (s.qosObject 0x3000000 (a - 0x3000000))
  else if within 0x4000000 0x40000 then
    some { base := a / 64 * 64, size := 64, value := (s.qp ((a - 0x4000000) / 64)).toNat }
  else if within 0x5000000 0x8000 then
    some { base := a / 32 * 32, size := 32, value := (s.mig ((a - 0x5000000) / 32)).toNat }
  else if within 0x6000000 0x4000 then
    let p := (a - 0x6000000) / 0x100
    some (regObject (0x6000000 + 0x100 * p) (a % 0x100) [(0, 4, s.portStatus p)])
  else if within 0x7000000 0x2000 then
    let t := (a - 0x7000000) / 0x400
    some (regObject (0x7000000 + 0x400 * t) (a % 0x400) (s.trunkRegs t))
  else if within 0x8000000 0x4000 then
    let n := (a - 0x8000000) / 0x100
    some (regObject (0x8000000 + 0x100 * n) (a % 0x100) (s.slotRegs n))
  else if within 0x9000000 0xA000 then
    some { base := a / 8 * 8, size := 8, value := (s.obs.counters.get ((a - 0x9000000) / 8)).word, latches := true }
  else if within 0xA000000 0x200000 then
    some { base := a / 32 * 32, size := 32, value := leNat (s.obs.log.get ((a - 0xA000000) / 32)).bytes }
  else if within 0x10000000 0x4000000 then some (s.tableObject 0x10000000 (a - 0x10000000))
  else none

/-! ### Reads -/

/-- A read of `bytes` bytes at a, least significant first, and whether it met an address that R347 does not list. -/
def State.csrRead (s : State) (a bytes : Nat) : Nat × Bool × State :=
  let s := s.slotTicks
  if (s.csrObject a).any (·.isFree) then
    let (v, s) := s.free
    (v % 256 ^ bytes, false, s)
  else
    let r := readSpan s.csrObject a bytes s.mgmt.latch
    (r.1, (dwordsOf a bytes).any fun d => (s.csrObject d).isNone, { s with mgmt.latch := r.2 })

/-! ### Writes -/

/-- WDT_PERIOD_MS takes 10 to 1,000. -/
def PairRegs.setPeriod (r : PairRegs) (v : Nat) : PairRegs :=
  if 10 ≤ v ∧ v ≤ 1000 then { r with wdtPeriod := BitVec.ofNat 10 v } else r

/-- A write to PAIR_CTRL of a pair (R356). -/
def State.writePairCtrl (s : State) (p : Pair) (bits merged : Nat) : State :=
  let s := if bits.testBit 0 then s.wdtKick p else s
  s.updPair p fun r => r.setPeriod (field merged 8 10)

/-- PEAK_CLR: TJ_PEAK becomes TJ_NOW (R458). -/
def State.peakClr (s : State) : State := { s with sys.thermal := { s.sys.thermal with peak := s.sys.thermal.now } }

/-- Writing 1 to VALID of a FAULT_CAPTURE clears the register and re-arms the capture (R151). -/
def State.clearCapture (s : State) (k : Nat) : State :=
  { s with tab.checkers := s.tab.checkers.upd k fun c =>
      { locked := c.locked, enabled := c.enabled, lastLog := c.lastLog } }

/-- A write from MGMT_BASE: who is ACTIVE may set BOOT_CONFIRMED (R412); RO fields keep their values. -/
def State.writeMgmt (s : State) (active : Bool) (off bits merged : Nat) : State :=
  if off = 0x010 then s.writePairCtrl .a bits merged
  else if off = 0x018 then s.writePairCtrl .b bits merged
  else if off = 0x058 then (if active ∧ bits.testBit 7 then s.bootConfirm else s)
  else if off = 0x080 then (if bits.testBit 22 then s.peakClr else s)
  else s

/-- A write to a slot channel's registers: ENERGY_WRAP and the fault bits clear where 1 is written (R332). -/
def State.writeSlot (s : State) (n off bits : Nat) : State :=
  if off = 0 then (if bits.testBit 19 then s.updChan n fun c => { c with energyWrap := false } else s)
  else if off = 0x18 then s.updChan n fun c => { c with fault := c.fault &&& ~~~ BitVec.ofNat 9 bits }
  else s

/-- A write that R348 refuses. -/
def State.refuseWrite (s : State) : Bool × State := (true, s.countGlobal 192)

/-- Change one bank. -/
def State.updBank (s : State) (one : Bool) (f : Bank → Bank) : State :=
  if one then { s with tab.bank1 := f s.tab.bank1 } else { s with tab.bank0 := f s.tab.bank0 }

/-- The configuration loader writes an entry of a banked table: only of the shadow bank (R348), and no locked region
(R155). -/
def State.loaderWrite (s : State) (loader one : Bool) (locked : Bool) (f : Bank → Bank) : Bool × State :=
  if ¬ loader ∨ one = s.tab.cur ∨ locked then s.refuseWrite else (false, s.updBank one f)

/-- A write to the QoS tables (R160): meter state is hardware's. -/
def State.writeQos (s : State) (loader : Bool) (off merged : Nat) (bytes : List Byte) : Bool × State :=
  if off < 0x40000 then
    s.loaderWrite loader (decide (0x20000 ≤ off)) false fun b =>
      { b with meters := b.meters.set (off % 0x20000 / 32) (MeterCfg.ofNat merged) }
  else if off < 0x80000 then s.refuseWrite
  else if off < 0x100000 then
    let x := off % 0x1000 / 32
    if off < 0x82000 ∧ x < 72 then
      s.loaderWrite loader (decide (0x81000 ≤ off)) false fun b => { b with scheds := b.scheds.set x (SchedCfg.ofNat merged) }
    else s.refuseWrite
  else
    let o := off - 0x100000
    s.loaderWrite loader (decide (0x48000 ≤ o)) false fun b =>
      { b with gates := b.gates.upd (o % 0x48000 / 0x1000) fun g =>
          GateList.ofBytes (((g.toBytes ++ List.replicate (4096 - g.toBytes.length) 0).take (o % 0x1000)) ++ bytes
            ++ (g.toBytes ++ List.replicate (4096 - g.toBytes.length) 0).drop (o % 0x1000 + bytes.length)) }

/-- A step word without its reserved bits, which read 0 (R7, R47). -/
def stepBits (v : Nat) : Nat := v % 2 ^ 26 + 2 ^ 32 * field v 32 16

/-- A write to the table SRAMs (R348). `active` says that the master is the ACTIVE pair, `whole` that the write is one aligned
write of the whole entry. -/
def State.writeTable (s : State) (active loader whole : Bool) (off merged : Nat) : Bool × State :=
  if off < 0x10000 then
    s.loaderWrite loader (decide (0x8000 ≤ off)) false fun b =>
      { b with tenants := b.tenants.set (off % 0x8000 / 8) (Tenant.ofNat merged) }
  else if 0x100000 ≤ off ∧ off < 0x180000 then
    s.loaderWrite loader (decide (0x140000 ≤ off)) false fun b =>
      { b with windows := b.windows.set ((off - 0x100000) % 0x40000 / 16) (Window.ofNat merged) }
  else if 0x800000 ≤ off ∧ off < 0x1000000 then
    (if active ∧ whole then
      let e := TtEntry.ofNat merged
      let st : TtState := match field merged 0 2 with
        | 0 => .empty
        | 1 => .offered
        | 2 => .active
        | _ => .releasing
      (false, { s with tab.tt := s.tab.tt.set ((off - 0x800000) / 8) { e with state := st }, dp.freed := true })
    else s.refuseWrite)
  else if 0x1000000 ≤ off ∧ off < 0x1800000 then
    (if active ∧ whole then
      (false, { s with tab.ht := s.tab.ht.set ((off - 0x1000000) / 16) (HtEntry.ofNat merged), dp.freed := true })
    else s.refuseWrite)
  else if 0x2000000 ≤ off ∧ off < 0x2100000 then
    let one := decide (0x2080000 ≤ off)
    let o := (off - 0x2000000) % 0x80000
    if o < 0x1000 then s.loaderWrite loader one false fun b => { b with dispatch := b.dispatch.set (o / 2) (BitVec.ofNat 16 (merged % 2 ^ 12)) }
    else if o < 0x41000 then
      s.loaderWrite loader one false fun b => { b with steps := b.steps.set ((o - 0x1000) / 8) (BitVec.ofNat 64 (stepBits merged)) }
    else s.refuseWrite
  else if 0x2100000 ≤ off ∧ off < 0x2100100 then
    s.loaderWrite loader (decide (0x2100080 ≤ off)) false fun b =>
      { b with sharers := b.sharers.set (off % 0x80 / 2) (Sharer.ofNat merged) }
  else s.refuseWrite

/-- A write that touches one object: whether it ends with an error status. -/
def State.writeObject (s : State) (active loader : Bool) (o : CsrObject) (a bytes data : Nat) : Bool × State :=
  let w := o.written a bytes data
  let off (base : Nat) : Nat := o.base - base
  if o.base < 0x800000 then (false, { s with mgmt.sram := s.mgmt.sram.set o.base (BitVec.ofNat 8 w.2) })
  else if o.base < 0x1000000 then (false, s)
  else if o.base < 0x1100000 then (false, s.writeMgmt active (off 0x1000000) w.1 w.2)
  else if o.base < 0x2000000 then (false, s)
  else if o.base < 0x3000000 then
    let k := off 0x2000000 / 0x2000
    let c := off 0x2000000 % 0x2000
    if c < 0x1000 then
      let r := c % 0x800 / 32
      s.loaderWrite loader (decide (0x800 ≤ c)) (s.regionLocked k r || (k == 76 && r == 0)) fun b =>
        { b with regions := b.regions.set (64 * k + r) (Region.ofNat w.2) }
    else (false, if c = 0x1010 ∧ w.1.testBit 0 then s.clearCapture k else s)
  else if o.base < 0x4000000 then
    let lo := Nat.max a o.base
    let n := Nat.min (a + bytes) (o.base + o.size) - lo
    s.writeQos loader (lo - 0x3000000) w.2 (leBytes (data / 256 ^ (lo - a)) n)
  else if o.base < 0x8000000 then (false, s)
  else if o.base < 0x9000000 then
    (false, s.writeSlot (off 0x8000000 / 0x100) (off 0x8000000 % 0x100) w.1)
  else if o.base < 0xA000000 then
    (false, if w.1.testBit 48 then
        { s with obs.counters := s.obs.counters.upd (off 0x9000000 / 8) fun c => { c with ovf := false } }
      else s)
  else if o.base < 0x10000000 then (false, s)
  else s.writeTable active loader (decide (a = o.base ∧ bytes = o.size)) (off 0x10000000) w.2

/-- A write of `bytes` bytes at a: each register or entry that it touches in turn; whether some part of it ends with an error
status. -/
def State.csrWrite (s : State) (active loader : Bool) (a bytes data : Nat) : Bool × State :=
  let s := s.slotTicks
  let objs := ((List.range bytes).map fun i => s.csrObject (a + i)).dedup
  objs.foldl (fun (r : Bool × State) (o : Option CsrObject) =>
    match o with
    | none => (true, r.2)
    | some o =>
      let t := r.2.writeObject active loader o a bytes data
      (r.1 || t.1, t.2)) (false, s)

end Sys2Proof.Machine
end

