-- ==== Sys2Proof/Machine/Security.lean ====
section
/-! DEFINITION. Security (spec/20): SPDM (R440 to R442), IDE keys (R443), debug tokens (R445 to R447), and the TAP's
instructions but DBG_ACCESS (R449). Message codes and the order of SPDM requests are those of SPDM 1.2 (PRESUMED, log entry
24). -/

namespace Sys2Proof.Machine

/-! ### IDE keys (R434, R443) -/

/-- Does port p run IDE by its PORT record (R244)? -/
def State.hasIde (s : State) (p : Nat) : Bool := (s.param p).ideRequired || (s.param p).ideMode != 0

/-- Is a key set of port p, stream and direction in force? -/
def State.keyLive (s : State) (p stream dir : Nat) : Bool :=
  let k := 8 * p + 4 * stream + 2 * dir
  (s.mgmt.keys.get k).live || (s.mgmt.keys.get (k + 1)).live

/-- PORT_STATUS.IDE by the keys in force on the CXL.cachemem stream; new keys end the discard of an integrity failure
(R235, R244). -/
def State.settleIde (s : State) (p : Nat) : State :=
  if s.keyLive p 0 0 ∧ s.keyLive p 0 1 then
    s.updPort p fun k => { k with ide := 1 + Nat.max 1 (s.param p).ideMode, ideDiscard := false }
  else s.updPort p fun k => { k with ide := idleIde (s.param p) }

/-- The key-set switch: key slot k takes effect in place of the other set of its stream and direction. -/
def State.switchKeys (s : State) (p k : Nat) : State :=
  let other := k / 2 * 2 + (1 - k % 2)
  State.settleIde { s with
    mgmt.keys := (s.mgmt.keys.upd other fun v => { v with live := false }).upd k fun v => { v with live := v.filled } } p

/-- Bolroth's requester session with the device of port p. -/
def State.deviceSession (s : State) (p : Nat) : Bool := s.mgmt.sessions.cells.any fun c => c.2.device == some p

/-- Bolroth refreshes the keys of port p as requester: new keys in the sets not in force, then the key-set switch, for both
streams and directions. -/
def State.refreshKeys (s : State) (p : Nat) : State :=
  let s := (List.range 4).foldl (fun (s : State) (i : Nat) =>
    let k := 8 * p + 2 * i
    let next := if (s.mgmt.keys.get k).live then k + 1 else k
    State.switchKeys { s with mgmt.keys := s.mgmt.keys.set next { filled := true } } p next) s
  s.emit (.notify p 11 [])

/-- IDE_KEY_REFRESH. -/
def State.cmdIdeKeyRefresh (s : State) (i : Instr) (h : CmdHdr) (p : Nat) : State :=
  s.command i h { opcode := 0xC803, len := 1, changes := true, object := some (8, p) } none fun s _ =>
    if (s.port p).role = .host ∨ ¬ s.deviceSession p then conflict s 8 p (roleNo (s.port p).role) else ok (s.refreshKeys p)

/-- The keys of every port of another role than HOST that runs IDE and has a session are refreshed now. -/
def State.refreshAll (s : State) : State :=
  ((List.range 64).filter fun p => (s.port p).role != .host && s.hasIde p && s.deviceSession p).foldl
    (fun s p => s.refreshKeys p) { s with mgmt.ideRefreshed := s.sys.ft }

/-- IDE_REFRESH: IDE_REFRESH_S after the last refresh. -/
def State.ideRefresh (s : State) : State :=
  let n := s.tab.policy.ideRefreshS
  if n = 0 ∨ ¬ s.bolrothRuns then s
  else
    (s.advanceTo (s.mgmt.ideRefreshed + n * 1000000000)).refreshAll

/-! ### Sessions (R440) -/

/-- The lowest free SESSION slot. -/
def State.freeSession (s : State) : Option Nat :=
  (List.range 16).find? fun k => (s.mgmt.sessions.get k).src.isNone && (s.mgmt.sessions.get k).device.isNone

/-- Bolroth opens a session, as requester, with the device of every non-HOST port that runs IDE once configuration requests
are allowed, and a link-down ends it (DESIGN CHOICE, log entry 50). -/
def State.settleSessions (s : State) : State :=
  let wants (p : Nat) : Bool := (s.port p).role != .host && (s.port p).cfgAllowed && s.hasIde p
  let gone (v : Session) : Bool := match v.device with
    | some p => !wants p
    | none => false
  let s := { s with mgmt.sessions := (s.mgmt.sessions.find fun _ v => gone v).foldl (fun t k => t.set k {}) s.mgmt.sessions }
  if ¬ s.bolrothRuns then s
  else (s.edge.ports.keys.filter fun p => wants p && !s.deviceSession p).foldl (fun (s : State) (p : Nat) =>
    match s.freeSession with
    | some k => { s with mgmt.sessions := s.mgmt.sessions.set k { device := some p, finished := true } }
    | none => s) s

/-! ### SPDM (R440 to R442) -/

/-- Number of an SPDM transport: an MCTP transport by its source, or the DOE mailbox of a host port. -/
def spdmNo : SpdmSrc → Nat
  | .mctp c => srcNo c
  | .doe p => 256 + p.val

/-- An SPDM ERROR response: 1 InvalidRequest, 2 InvalidSession, 3 Busy, 4 UnexpectedRequest. -/
def State.spdmError (s : State) (q : SpdmSrc) (code : Nat) : State := s.emit (.spdm q 0x7F [BitVec.ofNat 8 code])

/-- Bolroth answers an SPDM request once the connection has been negotiated. -/
def State.spdm (s : State) (q : SpdmSrc) (negotiated : Bool) (run : State → State) : State :=
  let c := s.mgmt.spdm.get (spdmNo q)
  if ¬ s.bolrothRuns ∨ s.sys.mode = .reset ∨ s.sys.mode = .prepare then s
  else if negotiated ∧ ¬ (c.version ∧ c.caps ∧ c.algs) then s.spdmError q 4
  else run s

/-- GET_VERSION: version 1.2; the negotiation starts anew. -/
def State.spdmVersion (s : State) (q : SpdmSrc) : State :=
  s.spdm q false fun s =>
    State.emit { s with mgmt.spdm := s.mgmt.spdm.set (spdmNo q) { version := true } } (.spdm q 0x04 (leBytes 0x1200 2))

/-- Capability flags of SPDM 1.2: certificates, challenge, signed measurements, encryption, MAC, key exchange, heartbeat, key
update and SET_CERTIFICATE; neither pre-shared keys nor mutual authentication. -/
def spdmFlags : Nat := 0x862D6

/-- GET_CAPABILITIES. -/
def State.spdmCaps (s : State) (q : SpdmSrc) : State :=
  s.spdm q false fun s =>
    let c := s.mgmt.spdm.get (spdmNo q)
    if ¬ c.version then s.spdmError q 4
    else State.emit { s with mgmt.spdm := s.mgmt.spdm.set (spdmNo q) { c with caps := true } }
      (.spdm q 0x61 (leBytes spdmFlags 4))

/-- NEGOTIATE_ALGORITHMS: the one suite, as ECDSA P-384, SHA-384, ECDHE P-384 and AES-256-GCM. -/
def State.spdmAlgs (s : State) (q : SpdmSrc) : State :=
  s.spdm q false fun s =>
    let c := s.mgmt.spdm.get (spdmNo q)
    if ¬ (c.version ∧ c.caps) then s.spdmError q 4
    else State.emit { s with mgmt.spdm := s.mgmt.spdm.set (spdmNo q) { c with algs := true } }
      (.spdm q 0x63 (leBytes 0x80 4 ++ leBytes 2 4 ++ leBytes 0x10 2 ++ leBytes 2 2))

/-- The chain of a certificate slot: slot 0 Duoft's, slot 1 the owner's, others empty (R441). -/
def State.chain (s : State) (slot : Nat) : List Byte :=
  if slot = 0 then Config.deviceChain else if slot = 1 then s.mgmt.ownerChain else []

/-- SHA-384 as bytes. -/
def hash384 (l : List Byte) : List Byte := beBytes (Config.sha384 l).toNat 48

/-- A signature with DEVICE_KEY as bytes. -/
def deviceSignature (l : List Byte) : List Byte := beBytes (Config.deviceSign Config.provisionedId l).toNat 96

/-- GET_DIGESTS: the slots that hold a chain, and each chain's digest. -/
def State.spdmDigests (s : State) (q : SpdmSrc) : State :=
  s.spdm q true fun s =>
    let slots := (List.range 2).filter fun k => k == 0 || !(s.chain k).isEmpty
    s.emit (.spdm q 0x01 (leBytes (slots.foldl (fun n k => n + 2 ^ k) 0) 1 ++ slots.flatMap fun k => hash384 (s.chain k)))

/-- GET_CERTIFICATE: a portion of a chain and what remains after it. -/
def State.spdmCertificate (s : State) (q : SpdmSrc) (slot off len : Nat) : State :=
  s.spdm q true fun s =>
    let c := s.chain slot
    if (1 ≤ slot ∧ c.isEmpty) ∨ c.length < off then s.spdmError q 1
    else
      let part := (c.drop off).take len
      s.emit (.spdm q 0x02 (leBytes slot 1 ++ leBytes part.length 2 ++ leBytes (c.length - off - part.length) 2 ++ part))

/-- CHALLENGE: the chain's digest and the responder's nonce, a free value, signed with DEVICE_KEY. -/
def State.spdmChallenge (s : State) (q : SpdmSrc) (slot : Nat) (nonce : BitVec 256) : State :=
  s.spdm q true fun s =>
    if slot ≠ 0 ∧ (s.chain slot).isEmpty then s.spdmError q 1
    else
      let (r, s) := s.free
      let body := hash384 (s.chain slot) ++ leBytes r 32
      s.emit (.spdm q 0x03 (body ++ deviceSignature (leBytes nonce.toNat 32 ++ body)))

/-- The measurement of an index (R442): none where the table has no row. -/
def State.measurement (s : State) (k : Nat) : Option (List Byte) :=
  let image (ok : Bool) (slot : Nat) : List Byte :=
    if ok then hash384 (s.imageBytes slot 0 (s.imageField slot 12 4)) else leBytes 0 48
  let r := s.pairRegs (s.active.getD .a)
  let f := s.mgmt.fuses
  if k = 1 then some (hash384 ((List.range 262144).map Config.bootRomByte))
  else if k = 2 then some (image s.sys.status.slot0Ok 0)
  else if k = 3 then some (image s.sys.status.slot1Ok 1)
  else if k = 4 then some (leBytes (b2n r.imageSlot) 1 ++ leBytes r.imageVersion.toNat 4 ++ leBytes r.svn.toNat 1)
  else if k = 5 then some (hash384 s.mgmt.lockTable)
  else if k = 6 then
    let recs := s.curPlan.recs.filter (·.applies s.curPlan.rank)
    match (ofType recs .recipeBank).head? with
    | some r => some (hash384 (r.body.take (SetHead.ofBody r.body).length))
    | none => some (beBytes Config.noRecipeMeasurement.toNat 48)
  else if k = 7 then some (leBytes s.tab.epoch.toNat 4 ++ digestOut s.mgmt.cfg.digest)
  else if k = 8 then
    some (leBytes f.svn.toNat 1 ++ leBytes (pack [(4, f.fwKeyRevoke.toNat), (2, f.debugRevoke.toNat)]) 1
      ++ leBytes (b2n f.debugKey1.isSome) 1)
  else if k = 0x10 then some (leBytes s.mgmt.challenge.toNat 8 ++ leBytes (b2n s.mgmt.dbg.enabled) 1)
  else none

/-- The indexes of R442. -/
def measurementIndexes : List Nat := [1, 2, 3, 4, 5, 6, 7, 8, 0x10]

/-- One measurement block: its index and value. -/
def State.measurementBlock (s : State) (k : Nat) : List Byte :=
  leBytes k 1 ++ leBytes ((s.measurement k).getD []).length 2 ++ (s.measurement k).getD []

/-- GET_MEASUREMENTS: index 0 asks for their number, 0xFF for all, signed with DEVICE_KEY when the request asks. -/
def State.spdmMeasurements (s : State) (q : SpdmSrc) (index : Nat) (signed : Bool) : State :=
  s.spdm q true fun s =>
    let answer (l : List Byte) : State := s.emit (.spdm q 0x60 (l ++ if signed then deviceSignature l else []))
    if index = 0 then answer (leBytes measurementIndexes.length 1)
    else if index = 0xFF then answer (measurementIndexes.flatMap s.measurementBlock)
    else if (s.measurement index).isNone then s.spdmError q 1
    else answer (s.measurementBlock index)

/-- KEY_EXCHANGE: a session opens; beyond 16 the answer is Busy. -/
def State.spdmKeyExchange (s : State) (q : SpdmSrc) : State :=
  s.spdm q true fun s =>
    match s.freeSession with
    | none => s.spdmError q 3
    | some k => State.emit { s with mgmt.sessions := s.mgmt.sessions.set k { src := some q } } (.spdm q 0x64 (leBytes k 2))

/-- A request inside session k: it must be the transport's own, and established unless it is FINISH. -/
def State.inSession (s : State) (q : SpdmSrc) (k : Nat) (finishing : Bool) (run : State → State) : State :=
  s.spdm q true fun s =>
    let v := s.mgmt.sessions.get k
    if v.src ≠ some q ∨ v.finished = finishing then s.spdmError q 2 else run s

/-- FINISH: the session is established. -/
def State.spdmFinish (s : State) (q : SpdmSrc) (k : Nat) : State :=
  s.inSession q k true fun s =>
    State.emit { s with mgmt.sessions := s.mgmt.sessions.upd k fun v => { v with finished := true } } (.spdm q 0x65 [])

/-- END_SESSION: the SESSION slot is cleared (R435). -/
def State.spdmEnd (s : State) (q : SpdmSrc) (k : Nat) : State :=
  s.inSession q k false fun s =>
    State.emit { s with mgmt.sessions := s.mgmt.sessions.set k {} } (.spdm q 0x6C [])

/-- HEARTBEAT. -/
def State.spdmHeartbeat (s : State) (q : SpdmSrc) (k : Nat) : State := s.inSession q k false fun s => s.emit (.spdm q 0x68 [])

/-- KEY_UPDATE: the session's keys, which only the key store knows, change. -/
def State.spdmKeyUpdate (s : State) (q : SpdmSrc) (k : Nat) : State := s.inSession q k false fun s => s.emit (.spdm q 0x69 [])

/-- SET_CERTIFICATE: the owner chain of slot 1, in PROVISION and over I3C only (R441). -/
def State.spdmSetCertificate (s : State) (q : SpdmSrc) (slot : Nat) (chain : List Byte) : State :=
  s.spdm q true fun s =>
    let i3c : Bool := match q with
      | .mctp (.i3c _) => true
      | _ => false
    if s.sys.mode ≠ .provision ∨ ¬ i3c ∨ slot ≠ 1 then s.spdmError q 1
    else State.emit { s with mgmt.ownerChain := chain } (.spdm q 0x6E (leBytes slot 1))

/-- The status of an IDE_KM request: 0 successful, 2 a port that the requester may not key, 4 failed. A HOST port's keys come
from its host's DOE mailbox (R244). -/
def State.ideKmStatus (s : State) (q : SpdmSrc) (p : Nat) : Nat :=
  let own : Bool := match q with
    | .doe h => h.val == p
    | .mctp _ => false
  if ¬ own ∨ (s.port p).role ≠ .host then 2 else if ¬ (s.port p).dlUp then 4 else 0

/-- VENDOR_DEFINED_REQUEST: an IDE_KM message in a session (R443). The answer has the message, the slot and the status. -/
def State.spdmIdeKm (s : State) (q : SpdmSrc) (session : Nat) (m : IdeKm) : State :=
  s.inSession q session false fun s =>
    let answer (s : State) (kind arg status : Nat) : State :=
      s.emit (.spdm q 0x7E (leBytes kind 1 ++ leBytes arg 2 ++ leBytes status 1))
    match m with
    | .query p => answer s 1 p.val (s.port p.val).ide
    | .program k =>
      let st := s.ideKmStatus q k.port.val
      if st ≠ 0 then answer s 3 (ideKey k) st
      else answer { s with mgmt.keys := s.mgmt.keys.set (ideKey k) { filled := true } } 3 (ideKey k) 0
    | .go k =>
      let st := if (s.mgmt.keys.get (ideKey k)).filled then s.ideKmStatus q k.port.val else 4
      if st ≠ 0 then answer s 5 (ideKey k) st else answer (s.switchKeys k.port.val (ideKey k)) 5 (ideKey k) 0
    | .stop k =>
      let st := s.ideKmStatus q k.port.val
      if st ≠ 0 then answer s 5 (ideKey k) st
      else
        let s := { s with mgmt.keys := s.mgmt.keys.set (ideKey k) {} }
        answer (s.settleIde k.port.val) 5 (ideKey k) 0

/-! ### Debug (R445 to R447) -/

/-- Bytes 0 to 63 of a token (R445). -/
def tokenBytes (t : Token) : List Byte :=
  leBytes (pack [(32, t.magic.toNat), (48, t.provisionedId.toNat), (2, t.keyIndex.toNat), (14, 0), (64, t.challenge.toNat),
    (32, t.durationS.toNat)]) 64

/-- The fused hash of debug key k: key 1 may be blank (R433). -/
def State.debugHash (s : State) (k : Nat) : Option (BitVec 384) :=
  if k = 0 then some Config.debugKeyHash else if k = 1 then s.mgmt.fuses.debugKey1 else none

/-- Has an MCTP source an SPDM session in which a message can be secured? -/
def State.securedSource (s : State) (src : CmdSrc) : Bool :=
  match src with
  | .mbox _ => false
  | _ => s.mgmt.sessions.cells.any fun c => c.2.src == some (.mctp src) && c.2.finished

/-- The checks of R446. -/
def State.tokenOk (s : State) (src : CmdSrc) (secured : Bool) (t : Token) : Bool :=
  let k := t.keyIndex.toNat
  secured && s.securedSource src && s.tab.policy.debugAllowed
    && t.magic == 0x54424744 && t.provisionedId == Config.provisionedId
    && !s.mgmt.fuses.debugRevoke.toNat.testBit k && (k == 1 || !s.tab.policy.ownerOnly)
    && s.debugHash k == some (Config.sha384 (beBytes t.publicKey.toNat 96))
    && t.challenge == s.mgmt.challenge
    && decide (1 ≤ t.durationS.toNat) && decide (t.durationS.toNat ≤ s.tab.policy.debugMaxS)
    && Config.ecdsaP384 t.publicKey (tokenBytes t) t.signature

/-- A token is accepted (R447). -/
def State.startDebug (s : State) (t : Token) : State :=
  let s := { s with
    mgmt.dbg := { s.mgmt.dbg with
      enabled := true, key := t.keyIndex == 1, expiry := s.sys.ft + t.durationS.toNat * 1000000000 }
    tab.checkers := s.tab.checkers.upd 75 fun c => { c with enabled := true }
    mgmt.challenge := Config.randomChallenge s.mgmt.challengeNo, mgmt.challengeNo := s.mgmt.challengeNo + 1 }
  s.log 0x050B 0 [(1, 1)]

/-- DEBUG_ENABLE. -/
def State.cmdDebugEnable (s : State) (i : Instr) (h : CmdHdr) (secured : Bool) (t : Token) : State :=
  s.command i h { opcode := 0xC801, len := 256, changes := true } none fun s _ =>
    if s.mgmt.dbg.enabled then conflict s 0 0 0
    else if ¬ s.tokenOk h.src secured t then .done s rcLocked []
    else ok (s.startDebug t)

/-- DEBUG_DISABLE: the gateway itself decodes it (R371). -/
def State.cmdDebugDisable (s : State) (i : Instr) (h : CmdHdr) : State :=
  s.command i h { opcode := 0xC802 } (some fun s _ => ok s.endDebug) fun s _ => ok s.endDebug

/-! ### TAP (R449) -/

/-- Does the TAP decode instructions? Not in RESET. -/
def State.tapRuns (s : State) : Bool := s.sys.mode != .reset

/-- An instruction that is available in every mode but RESET is loaded. -/
def State.tapLoad (s : State) (t : TapInstr) : State := if s.tapRuns then { s with mgmt.tap := t } else s

/-- IDCODE: its value is shifted out. -/
def State.tapIdcode (s : State) : State :=
  if s.tapRuns then State.emit { s with mgmt.tap := .idcode } (.tap 0xB0640A6B) else s

/-- PREPARE after a cold reset, before step 8. -/
def State.scanPhase (s : State) : Bool :=
  s.sys.mode == .prepare && s.sys.status.kind != 3 && decide (s.sys.status.prepareStep.toNat < 8)

/-- EXTEST and its like: BSCAN_USED sets, the key store is cleared and PREPARE stops; elsewhere they act as BYPASS. -/
def State.tapScan (s : State) (t : TapInstr) : State :=
  if ¬ s.scanPhase then s.tapLoad .bypass
  else
    { s with
      mgmt.tap := t, mgmt.bscanUsed := true, mgmt.keystoreReady := false, mgmt.challenge := 0, mgmt.sessions := .empty
      mgmt.keys := .empty, sys.stopped := true }

/-- FUSE_PROG: DEBUG_KEY_HASH[1] is burned while it is blank; elsewhere it acts as BYPASS. -/
def State.tapFuse (s : State) (hash : BitVec 384) : State :=
  if ¬ s.scanPhase ∨ s.mgmt.fuses.debugKey1.isSome then s.tapLoad .bypass
  else { s with mgmt.tap := .fuseProg, mgmt.fuses := { s.mgmt.fuses with debugKey1 := some hash } }

end Sys2Proof.Machine
end

