-- ==== Sys2Proof/Machine/Crossbar.lean ====
section
/-! DEFINITION. The management crossbar (R346 to R352): arbitration, checks, accesses to MGMT_CSR, to the logical store
(R119) and to fabric addresses; the debug bridge (R448); register writes of hosts (R360, R361). -/

namespace Sys2Proof.Machine

/-! ### Arbitration (R349, R350) -/

/-- Number of a master (R346). -/
def masterNo : Master → Nat
  | .pairA => 0 | .pairB => 1 | .debug => 2 | .scrub => 3 | .loader => 4 | .gateway => 5

/-- Is a master of high priority: the ACTIVE pair, or the loader (R346)? -/
def State.highMaster (s : State) (m : Nat) : Bool :=
  (m == 0 && s.sys.pairA == .active) || (m == 1 && s.sys.pairB == .active) || m == 4

/-- Can a master request at all? A pair that is OFF, FENCED or RETIRED cannot. -/
def State.canRequest (s : State) (m : Nat) : Bool :=
  let runs (p : PairState) : Bool := p != .off && p != .fenced && p != .retired
  s.sys.mode != .reset && (m != 0 || runs s.sys.pairA) && (m != 1 || runs s.sys.pairB)

/-- A new window of 64 grants. -/
def State.newWindow (s : State) : State :=
  { s with sys.windowGrants := 0, sys.grants := List.replicate 6 0, sys.masked := 0 }

/-- A loss: the back-off count doubles up to 4,096. -/
def State.loseGrant (s : State) (m : Nat) : State :=
  { s with sys.backoff := s.sys.backoff.modify m fun n => Nat.min 4096 (2 * n) }

/-- A grant to master m. As commands come one at a time, m is then the only master that requests: if it is masked, the window
ends first. -/
def State.takeGrant (s : State) (m : Nat) : State :=
  let s := if s.sys.masked.toNat.testBit m then s.newWindow else s
  let high := s.highMaster m
  let n := s.sys.grants.getD m 0 + 1
  let s := { s with
    sys.owner := BitVec.ofNat 3 m, sys.heldSince := s.sys.ft, sys.heldCount := 0
    sys.windowGrants := s.sys.windowGrants + 1
    sys.grants := if high then s.sys.grants.set m n else s.sys.grants
    sys.masked := if high && n == 12 then s.sys.masked ||| BitVec.ofNat 6 (2 ^ m) else s.sys.masked
    sys.backoff := s.sys.backoff.set m 4
    sys.lastHigh := if high then m else s.sys.lastHigh
    sys.lastLow := if high then s.sys.lastLow else m }
  if s.sys.windowGrants = 0 then s.newWindow else s

/-- The arbiter's answer to a request of master m: granted or not. A FABRIC request is not granted while MGMT is at its quota, which
counts as a loss (R357). -/
def State.arbitrate (s : State) (m : Nat) (fabric : Bool) : Bool × State :=
  if s.sys.owner ≠ 7 ∧ s.sys.owner.toNat ≠ m then (false, s.loseGrant m)
  else if fabric ∧ ¬ s.sharedRoom xMgmt then (false, s.loseGrant m)
  else if s.sys.owner.toNat = m then (true, s)
  else (true, s.takeGrant m)

/-- After an access the owner keeps its request, a pair for at most 16 accesses, the scrub sequencer and the loader for 256 B, or drops
it. -/
def State.endAccess (s : State) (m : Nat) (hold : Bool) : State :=
  let n := s.sys.heldCount + 1
  let keep := hold && (m == 2 && s.mgmt.dbg.enabled || (decide (m < 2) && decide (n < 16))
    || ((m == 3 || m == 4) && decide (n < 4)))
  let s := { s with sys.heldCount := n, sys.owner := if keep then BitVec.ofNat 3 m else 7 }
  if m ≠ 2 then s
  else if keep then { s with mgmt.dbg := { s.mgmt.dbg with hold := true } }
  else s.dropHold

/-! ### Accesses -/

/-- How an access ends: with data and status (0 good, 1 error, 2 denied by a locked region), or later: as a transaction, or, for a
write of a directory set that the cache cannot take in, when its master makes it again (R125). -/
inductive XEnd where
  | now (data status : Nat)
  | later
deriving DecidableEq, Repr

/-- SPACE of R141. -/
def spaceNo : Space → Nat
  | .hpa => 0 | .fabric => 1 | .logicalStore => 2 | .mgmtCsr => 3

/-- Does an address of MGMT_CSR lie in a banked table: the checkers' regions, the QoS tables, or a table SRAM (R348)? -/
def bankedAddr (a : Nat) : Bool :=
  (decide (0x2000000 ≤ a) && decide (a < 0x209A000) && decide ((a - 0x2000000) % 0x2000 < 0x1000))
    || (decide (0x3000000 ≤ a) && decide (a < 0x3190000)) || (decide (0x10000000 ≤ a) && decide (a < 0x14000000))

/-- Is the access within the hardwired window of the loader or the gateway, which have no checker (R346)? -/
def hardwired (m sp a bytes : Nat) (write : Bool) : Bool :=
  if m = 4 then
    (sp == 2 && !write && decide (0x3A0000000 ≤ a) && decide (a + bytes ≤ 0x3B0000000))
      || (sp == 3 && write && (List.range bytes).all fun i => bankedAddr (a + i))
  else sp == 3 && decide (0x1100000 ≤ a) && decide (a + bytes ≤ 0x1110000)

/-- The check of a crossbar access (R140, R147, R156): the status to end with, or none. A FABRIC access is checked by its
recipe, but the debug bridge's faults at once while debug is not enabled. -/
def State.crossCheck (s : State) (m sp a bytes : Nat) (write : Bool) : Option Nat × State :=
  if 4 ≤ m then (if hardwired m sp a bytes write then none else some 1, s)
  else if sp = 0 ∨ (m = 3 ∧ sp ≠ 2) then (some 1, s)
  else
    let k := 73 + m
    let acc : Access :=
      { space := sp, addr := if sp = 1 then a / 64 * 64 else a, needs := if write then 2 else 1, rank := s.rank
        priv := decide (m < 2), noTenant := true }
    if m = 2 ∧ ¬ (s.tab.checkers.get 75).enabled then (some 1, s.accessFault 75 acc ⟨2, 0x7F, false⟩)
    else if sp = 1 then (none, s)
    else if s.checkerBroken k then (some 1, s)
    else
      let denied := (s.decideAccess s.bank k acc false).locked && m == 2
      let r := s.checkAccess s.bank k acc (s.defaultMap k acc (if m = 1 then 0x400000 else 0))
      (if r.1 = 2 then some (if denied then 2 else 1) else none, r.2)

/-- A FABRIC access becomes an MGMT_READ or MGMT_WRITE (R351). A write of part of a line carries byte enables. -/
def State.fabricAccess (s : State) (m a bytes data : Nat) (write : Bool) : XEnd × State :=
  let line := a / 64 * 64
  let off := a % 64
  let msg : Msg :=
    { op := BitVec.ofNat 6 (if write then opMgmtWrite else opMgmtRead), addr := BitVec.ofNat 64 line
      data := BitVec.ofNat 512 (2 ^ (8 * off) * (data % 2 ^ (8 * bytes)))
      be := BitVec.ofNat 64 (2 ^ off * (2 ^ bytes - 1)) }
  match s.startInternal
    { cls := 7, opcode := if write then opMgmtWrite else opMgmtRead, source := 3, ingress := xMgmt, addr := line, msg := msg
      issuer := .mgmt m, homeRank := s.rank, noTenant := true } with
  | some s => (.later, s)
  | none => (.now 0 1, s)

/-- A granted access. -/
def State.access (s : State) (m sp a bytes data : Nat) (write : Bool) : XEnd × State :=
  match s.crossCheck m sp a bytes write with
  | (some st, s) => (.now 0 st, s)
  | (none, s) =>
    if sp = 1 then s.fabricAccess m a bytes data write
    else if sp = 2 then
      (if write then
        match s.storeWrite a bytes data with
        | some r => (.now 0 (b2n r.1), r.2)
        | none => (.later, s)
      else
        let r := s.storeRead a bytes
        (.now r.1 (b2n r.2.1), r.2.2))
    else if write then
      let active := (m == 0 && s.sys.pairA == .active) || (m == 1 && s.sys.pairB == .active)
      let r := s.csrWrite active (m == 4) a bytes data
      (.now 0 (b2n r.1), r.2)
    else
      let r := s.csrRead a bytes
      (.now r.1 (b2n r.2.1), r.2.2)

/-- CROSSBAR_ACCESS: one access of a master, of at most 64 B. A request that is not granted does nothing; its master makes it
again. -/
def State.crossbarAccess (s : State) (m : Nat) (sp : Nat) (a : Nat) (write : Bool) (bytes : Nat) (data : Nat) (hold : Bool) :
    XEnd × State :=
  if ¬ s.canRequest m then (.later, s)
  else
    let g := s.arbitrate m (sp == 1)
    if ¬ g.1 then (.later, g.2)
    else
      let r := g.2.access m sp a (Nat.min bytes 64) data write
      (r.1, r.2.endAccess m hold)

/-- CROSSBAR_ACCESS with its answer to the master. -/
def State.crossbarCommand (s : State) (m : Master) (sp : Space) (a : BitVec 51) (write : Bool) (bytes : Nat) (data : Line)
    (hold : Bool) : State :=
  let r := s.crossbarAccess (masterNo m) (spaceNo sp) a.toNat write bytes data.toNat hold
  match r.1 with
  | .now v st => r.2.emit (.crossbar (masterNo m) v st)
  | .later => r.2

/-! ### The debug bridge (R448) -/

/-- Status bits of an access that has ended: DONE, ERROR, DENIED. -/
def bridgeStatus (st : Nat) : BitVec 4 := if st = 0 then 1 else if st = 2 then 7 else 3

/-- The shift of DBG_ACCESS collects the status and data of the last access. -/
def State.bridgeShift (s : State) : State :=
  let d := s.mgmt.dbg
  State.emit { s with mgmt.tap := .dbgAccess }
    (.tap (d.status.toNat % 8 + (if d.enabled then 0 else 8) + 2 ^ 64 * d.data.toNat))

/-- An access of the bridge begins: neither DONE nor ERROR. -/
def State.bridgeBegin (s : State) (write : Bool) (addr : Nat) : State :=
  { s with mgmt.dbg := { s.mgmt.dbg with status := 0, data := 0, addr := addr, write := write } }

/-- The bridge keeps the end of its access. -/
def State.bridgeAnswer (r : XEnd × State) : State :=
  match r.1 with
  | .now v st => { r.2 with mgmt.dbg := { r.2.mgmt.dbg with status := bridgeStatus st, data := BitVec.ofNat 64 v } }
  | .later => r.2

/-- DBG_ACCESS: the shift collects the status and data of the last access and starts one more. -/
def State.dbgAccess (s : State) (write : Bool) (space : BitVec 3) (hold : Bool) (a : BitVec 51) (data : U64) : State :=
  if s.sys.mode = .reset ∨ s.sys.mode = .prepare then s.tapLoad .bypass
  else if ¬ s.mgmt.dbg.enabled then s.bridgeShift
  else
    let addr := a.toNat / 8 * 8
    let s := s.bridgeShift.bridgeBegin write addr
    if space = 0 ∨ 3 < space.toNat then State.bridgeAnswer (.now 0 1, s)
    else State.bridgeAnswer (s.crossbarAccess 2 space.toNat addr write 8 data.toNat hold)

/-- The end of a FABRIC access of the debug bridge. Once debug is disabled its read data is discarded (R352). -/
def State.bridgeDone (s : State) (d : DoneMsg) : State :=
  let b := s.mgmt.dbg
  if ¬ b.enabled then s
  else
    let acc : Access :=
      { space := 1, addr := b.addr / 64 * 64, needs := if b.write then 2 else 1, rank := s.rank, noTenant := true }
    let locked := (s.decideAccess s.bank 75 acc false).locked
    let st := if d.result < 2 then 0 else if d.result = 3 ∧ locked then 2 else 1
    let v := if st = 0 ∧ ¬ b.write then field d.data.toNat (8 * (b.addr % 64)) 64 else 0
    { s with mgmt.dbg := { b with status := bridgeStatus st, data := BitVec.ofNat 64 v } }

/-! ### Register writes (R6, R360, R361) -/

/-- REGISTER_WRITE: to BAR0 of a host port's management function, or to MGMT_CSR by the ACTIVE pair, which its checker decides as for
every access of that pair (R140). -/
def State.registerWrite (s : State) (t : RegTarget) (off bytes data : Nat) : State :=
  match t with
  | .bar0 p =>
    if (s.port p.val).role ≠ .host ∨ ¬ s.pointUp p.val ∨ s.sys.mode = .reset ∨ s.sys.mode = .prepare then s
    else s.writeBar0 p off (leBytes data (Nat.min bytes 8))
  | .csr =>
    match s.active with
    | none => s
    | some k => (s.access (masterNo (if k = .a then .pairA else .pairB)) 3 off (Nat.min bytes 8) data true).2

end Sys2Proof.Machine
end

