-- ==== Sys2Proof/Machine/Drain.lean ====
section
/-! DEFINITION. The drain of a switch (R407 to R409): its plan from the current image, its jobs from Bolroth's own queue
pair, which this model numbers 4096, its end and its cancellation. -/

namespace Sys2Proof.Machine

/-- Bolroth's own queue pair. -/
def drainQp : Nat := 4096

/-- Home entries of other ranks in an image, as (rank, index, entry), in ascending rank and index order. -/
def Plan.foreignHomes (p : Plan) : List (Nat × Nat × HtEntry) :=
  let own : List (Nat × Nat × HtEntry) := (p.recs.filter fun r => r.isHome && !r.applies p.rank).flatMap fun r =>
    let u := RunRec.ofRec r
    (List.range u.count).map fun i => (r.scope, u.first + i, u.ht i)
  own.mergeSort fun a b => decide (a.1 < b.1) || (a.1 == b.1 && decide (a.2.1 ≤ b.2.1))

/-- Home tiles that a translation run of an image maps, of any rank (R407). -/
def Plan.mapped (p : Plan) : List (Nat × Nat) :=
  (p.recs.filter fun r => r.type == 0x0030 && !r.isHome).flatMap fun r =>
    let u := RunRec.ofRec r
    ((List.range u.count).map u.tt).filterMap fun e => if e.state = .offered then some (e.homeRank, e.homeTile) else none

/-- Has a rank a first partner pair in this switch's ROUTE (R378)? -/
def State.routed (s : State) (rank : Nat) : Bool := decide (field (s.tab.ident.route.getD rank 0xFF) 0 4 < 4)

/-- The candidates of a drain plan (R407). -/
def State.drainCandidates (s : State) (p : Plan) : List (Nat × Nat × HtEntry) :=
  let mapped := p.mapped
  p.foreignHomes.filter fun c => c.2.2.state == .active && !mapped.contains (c.1, c.2.1) && s.routed c.1

/-- Give each subject its destination: the first candidate with its ATTR and SHARE_ID. The subjects planned, and how many
found none. -/
def drainPlan : List (Nat × HtEntry) → List (Nat × Nat × HtEntry) → List (Nat × Nat × Nat × Nat) × Nat
  | [], _ => ([], 0)
  | (n, e) :: rest, cands =>
    match cands.find? fun c => c.2.2.attr == e.attr && c.2.2.shareId == e.shareId with
    | none =>
      let r := drainPlan rest cands
      (r.1, r.2 + 1)
    | some c =>
      let r := drainPlan rest (cands.filter fun d => !(d.1 == c.1 && d.2.1 == c.2.1))
      ((n, c.1, c.2.1, 0) :: r.1, r.2)

/-- Make the plan (R407). -/
def State.planDrain (s : State) : State :=
  let subjects := (s.tab.ht.find fun _ e => e.state == .active).map fun n => (n, s.tile n)
  let r := drainPlan subjects (s.drainCandidates s.curPlan)
  { s with sys.drain := { total := subjects.length, short := r.2, plan := r.1 } }

/-- The entry that lends tile n its mirror place (R408): the lowest-indexed MOVED or LOST entry that forwards to it. -/
def State.mirrorLender (s : State) (n : Nat) : Nat :=
  ((s.tab.ht.find fun _ e => (e.state == .moved || e.state == .lost) && e.fwdRank == s.rank && e.fwdTile == n).head?).getD n

/-- Start the next job of a drain (R408): a MIRROR_SPLIT of a mirrored subject, then its COPY_TILE. None while it must
wait. -/
def State.drainJob (s : State) : Option State :=
  match s.sys.drain.plan with
  | [] => none
  | (n, rank, tile, tries) :: rest =>
    let d := s.sys.drain
    let split := (s.tile n).mirrored
    let t : State := { s with sys.drain := { d with
      plan := rest, running := d.running ++ [(if split then 0 else 1, (n, rank, tile, tries))] } }
    if split then
      t.mirrorSplit drainQp 0 0 { type := 4, tile := n, dstRank := 0, dstTile := s.mirrorLender n, zero := true }
    else t.startMig drainQp 0 0 { type := 1, tile := n, dstRank := rank, dstTile := tile }

/-- Start jobs while fewer than 64 are outstanding. -/
def State.drainJobs (s : State) : Nat → State
  | 0 => s
  | n + 1 =>
    if 64 ≤ s.sys.drain.running.length then s
    else match s.drainJob with
      | none => s
      | some t => t.drainJobs n

/-- A drain goes on, and ends when no subject remains: DONE, and DRAIN_DONE in the log. Which home tile the record's
argument names is not stated: it is a free value. -/
def State.settleDrain (s : State) : State :=
  if s.sys.mode ≠ .drain ∨ s.sys.drain.done ∨ s.sys.drain.cancelled then s
  else
    let s := s.drainJobs (4 * s.sys.drain.plan.length + 64)
    if ¬ s.sys.drain.plan.isEmpty ∨ ¬ s.sys.drain.running.isEmpty then s
    else
      let (f, s) := s.free
      State.log { s with sys.drain := { s.sys.drain with done := true } } 0x0509 0 [(4, f % 2 ^ 19)]

/-- DRAIN: the plan is made, and the mode changes (R13, R407). -/
def State.cmdDrain (s : State) (i : Instr) (h : CmdHdr) : State :=
  s.command i h { opcode := 0xC905, changes := true } none fun s _ =>
    if s.sys.mode ≠ .service ∧ s.sys.mode ≠ .degraded then conflict s 0 0 0 else ok (s.planDrain.setMode .drain)

/-- DRAIN_CANCEL: no job starts any more, running jobs are aborted as R225 says, and DRAIN ends (R409). -/
def State.cmdDrainCancel (s : State) (i : Instr) (h : CmdHdr) : State :=
  s.command i h { opcode := 0xC906, changes := true } none fun s _ =>
    if s.sys.mode ≠ .drain then conflict s 0 0 0
    else
      let s := s.abortJobs drainQp
      let s : State := { s with sys.drain := { s.sys.drain with cancelled := true, plan := [], running := [] } }
      ok (s.setMode s.serviceMode)

end Sys2Proof.Machine
end

