-- ==== Sys2Proof/Machine/Finish.lean ====
section
/-! DEFINITION. The form of every command's effect: the command's own act, then what the block does of itself before
the next command: ready transactions run (R52), engines hear of their transactions' ends, queue pairs go on, due flits
leave, and the mode, the pins and the duration events follow the state. -/

namespace Sys2Proof.Machine

/-- A command begins: nothing has left the block yet. -/
def State.start (s : State) : State := { s with obs.out := [] }

/-- The debug bridge also keeps the result of its access. -/
def State.bridgeEnd (m : Nat) (d : DoneMsg) (s : State) : State := if m = 2 then s.bridgeDone d else s

/-- The end of an internal transaction reaches its issuer. What the debug bridge had read is discarded once debug is disabled
(R158). -/
def State.hearDone (s : State) (d : DoneMsg) : State :=
  match d.issuer with
  | .mgmt m =>
    if m = 2 ∧ ¬ s.mgmt.dbg.enabled then s
    else
      State.bridgeEnd m d (s.emit (.crossbar m (if d.result < 2 then d.data.toNat else 0) (if d.result < 2 then 0 else 1)))
  | .sweep set way => s.sweepRebuilt set way d.result
  | _ => s.engineDone d

/-- Transactions and engines run until nothing of them can go on (DESIGN CHOICE, log entry 8: their order and
how long they take). -/
def State.settleAll (s : State) : Nat → State
  | 0 => s
  | n + 1 =>
    let s := settle 1000000 s
    match s.dp.done with
    | [] =>
      let s := s.settleDrain.stepEngine.stepSweeps.pumpRebuilds.retireDue
      if s.dp.ready.isEmpty && s.dp.done.isEmpty && (!s.dp.freed || s.dp.stalled.isEmpty) then s else s.settleAll n
    | ds => (ds.foldl State.hearDone { s with dp.done := [] }).settleAll n

/-- RELEASING translation entries that no transaction holds become EMPTY (R32). -/
def State.endReleasing (s : State) : State :=
  let held := (s.dp.txns.cells.filter fun c => c.2.state != .free).filterMap fun c => c.2.tt
  let gone := s.tab.tt.find fun k e => e.state == .releasing && !held.contains k
  gone.foldl (fun s k => { s with tab.tt := s.tab.tt.set k {} }) s

/-- What follows the act of a command that reaches the data plane or an engine. -/
def State.finish (s : State) : State :=
  let s := s.settleAll 10000
  let s := s.checkQueues.endUnbinds.slotTicks.settleSlots
  let s := (List.range 8).foldl (fun s t => (s.periodicReturns t).idleFlits t 64) s
  s.chooseRoot.telemLogs.endReleasing.settleConfig.settleSessions.refresh

/-- A command with an effect on the data plane. -/
def act (f : State → State) (s : State) : Host.Outcome State Fault Refusal := .next (f s.start).finish

/-- A command that reaches neither the data plane nor an engine, though the mode, the pins or a duration event may follow
from it. -/
def quiet (f : State → State) (s : State) : Host.Outcome State Fault Refusal := .next (f s.start).telemLogs.refresh

/-- A command that nothing further follows from. -/
def plain (f : State → State) (s : State) : Host.Outcome State Fault Refusal := .next (f s.start)

end Sys2Proof.Machine
end

