-- ==== Sys2Proof/Machine/Gossip.lean ====
section
/-! DEFINITION. Gossip of configuration digests (R305, R390, R391), and the leader's discovery (R354). -/

namespace Sys2Proof.Machine

/-- A digest entry's word (R305). -/
def digestWord (e : DigestEntry) : Nat :=
  pack [(48, e.id.toNat), (4, e.rank.toNat), (1, b2n e.rankValid), (1, b2n e.valid), (10, e.age.toNat), (32, e.epoch.toNat),
    (256, digestField e.digest), (32, 0)]

/-- Entry 0: this switch. -/
def State.ownEntry (s : State) : DigestEntry :=
  { id := Config.provisionedId, rank := BitVec.ofNat 4 s.rank, rankValid := s.tab.ident.valid, valid := true
    epoch := s.tab.epoch, digest := s.mgmt.cfg.digest }

/-- Entries of a list of gossip entries with the largest AGE: index and AGE of the first. -/
def oldest (l : List DigestEntry) : Nat × Nat :=
  l.zipIdx.foldl (fun (b : Nat × Nat) e => if b.2 < e.1.age.toNat then (e.2, e.1.age.toNat) else b) (0, 0)

/-- Apply one received entry with AGE a (R390). -/
def applyEntry (l : List DigestEntry) (e : DigestEntry) (a : Nat) : List DigestEntry :=
  let new := { e with age := BitVec.ofNat 10 a }
  if ¬ e.valid ∨ e.id = Config.provisionedId then l
  else
    match l.findIdx? fun o => o.valid && o.id == e.id with
    | some k => if a ≤ (l.getD k {}).age.toNat then l.set k new else l
    | none =>
      match l.findIdx? fun o => !o.valid with
      | some k => l.set k new
      | none => if a < (oldest l).2 then l.set (oldest l).1 new else l

/-- AGE of received entry number j: first-hand for entry 0; the sum saturates at 1,023 as the field does. -/
def heardAge (j : Nat) (e : DigestEntry) : Nat := if j = 0 then 0 else Nat.min 1023 (e.age.toNat + 1)

/-- Note the entries whose AGE has been below 100: those alone can become stale (R391). -/
def Gossip.noteHeard (g : Gossip) : Gossip :=
  { g with heard := (g.entries.filter fun e => e.valid && (decide (e.age.toNat < 100) || g.heard.contains e.id)).map (·.id) }

/-- The entries of a DIGEST flit. -/
def State.digestBody (s : State) (l : List DigestEntry) : State :=
  let g := s.mgmt.gossip
  let t := (l.take 5).zipIdx.foldl (fun t e => applyEntry t e.1 (heardAge e.2 e.1)) g.entries
  { s with mgmt.gossip := Gossip.noteHeard { g with entries := t } }

/-- The next four valid entries in rotation after place k, and the place reached. -/
def nextEntries (l : List DigestEntry) (k : Nat) : List DigestEntry × Nat :=
  let order := (List.range 15).map fun i => (k + i) % 15
  let picked := (order.filter fun i => (l.getD i {}).valid).take 4
  (picked.map fun i => l.getD i {}, match picked.getLast? with
    | some i => (i + 1) % 15
    | none => k)

/-- DIGEST_SEND: one DIGEST flit on each ACTIVE trunk. -/
def State.sendDigests (s : State) : State :=
  ((List.range 8).filter fun t => (s.trunk t).phase == .active).foldl (fun (s : State) (t : Nat) =>
    let (es, k) := nextEntries s.mgmt.gossip.entries (s.trunk t).gossipNext
    let words := (s.ownEntry :: es).map digestWord
    let s := s.updTrunk t fun r => { r with gossipNext := k }
    s.sendFlit t 6 0 false (words ++ List.replicate (5 - words.length) 0)) s

/-- d of R391. -/
def State.epochGap (s : State) (e : DigestEntry) : Nat := (e.epoch - s.tab.epoch).toNat

/-- Does an entry meet the condition of alarm k? -/
def State.alarms (s : State) (k : Nat) (e : DigestEntry) : Bool :=
  e.valid && match k with
    | 0 => decide (e.age.toNat < 100) && s.epochGap e == 0 && e.digest != s.mgmt.cfg.digest
    | 1 => decide (e.age.toNat < 100) && decide (2 ≤ s.epochGap e) && decide (s.epochGap e ≤ 2 ^ 32 - 2)
    | _ => decide (100 ≤ e.age.toNat) && s.mgmt.gossip.heard.contains e.id

/-- GOSSIP_EVALUATE: every entry ages, and the alarms are evaluated. A flag's rise is counted and logged with the first
entry that meets its condition; CONFIG_DIVERGENT and EPOCH_GAP may freeze the log (R427). -/
def State.evaluateGossip (s : State) : State :=
  if s.sys.mode = .reset ∨ s.sys.mode = .prepare then s
  else
    let s := { s with mgmt.gossip.entries := s.mgmt.gossip.entries.map fun (e : DigestEntry) =>
      if e.valid then { e with age := BitVec.ofNat 10 (Nat.min 1023 (e.age.toNat + 1)) } else e }
    let was := s.mgmt.gossip.flags
    let found (k : Nat) : Option DigestEntry := s.mgmt.gossip.entries.find? fun e => s.alarms k e
    let flags := bitsOf ((List.range 3).map fun k => (found k).isSome)
    let s := { s with mgmt.gossip.flags := BitVec.ofNat 3 flags }
    (List.range 3).foldl (fun (s : State) (k : Nat) =>
      match found k with
      | none => s
      | some e =>
        if was.toNat.testBit k then s
        else
          let s := (s.countGlobal (210 + k)).log 0x0508 1 [(1, k), (6, e.id.toNat), (4, s.tab.epoch.toNat), (4, e.epoch.toNat),
            (1, field (digestField e.digest) 0 8)]
          if k < 2 then s.freezeMaskable 8 else s) s

/-- The 16 entries of the gossip table, 48 B each. -/
def State.gossipBytes (s : State) : List Byte :=
  (s.ownEntry :: s.mgmt.gossip.entries).flatMap fun e => leBytes (digestWord e) 48

/-- GOSSIP_GET. -/
def State.cmdGossipGet (s : State) (i : Instr) (h : CmdHdr) : State :=
  s.command i h { opcode := 0xC007 } none fun s _ =>
    .done s rcSuccess (s.gossipBytes ++ leBytes s.mgmt.gossip.flags.toNat 2)

/-- The leader that a switch sees: the lowest provisioned ID among its own and the partners of its ACTIVE trunks (R354). -/
def State.leaderId (s : State) : Nat :=
  ((List.range 8).filter fun t => (s.trunk t).phase == .active).foldl
    (fun m t => Nat.min m (s.trunk t).partnerId.toNat) Config.provisionedId.toNat

/-- PARTNER_ID and PARTNER_RANK of a trunk as its register shows them: in ACTIVE and HELD (R265). -/
def State.partnerOf (s : State) (t : Nat) : Nat × Nat :=
  let k := s.trunk t
  if k.phase = .active ∨ k.phase = .held then (k.partnerId.toNat, k.partnerRank.toNat) else (0, 0)

/-- FABRIC_DISCOVER: the leader's gossip table and trunk partners. Another switch names the leader's ID (R354). -/
def State.cmdFabricDiscover (s : State) (i : Instr) (h : CmdHdr) : State :=
  s.command i h { opcode := 0xC502 } none fun s _ =>
    if s.sys.leader then
      .done s rcSuccess (s.gossipBytes ++ leBytes s.mgmt.gossip.flags.toNat 2 ++ (List.range 8).flatMap fun t =>
        leBytes (s.partnerOf t).1 6 ++ leBytes (s.partnerOf t).2 1)
    else conflict s 0xC s.leaderId 0

end Sys2Proof.Machine
end

