-- ==== Sys2Proof/Machine/ExecConfig.lean ====
section
/-! DEFINITION. The meanings of the configuration and gossip commands and events (spec/17). -/

namespace Sys2Proof.Machine

/-- CONFIG_STAGE_WRITE (R381): The command writes bytes of the staged image into the free slot, or discards the staged
image. -/
def execConfigStageWrite (h : CmdHdr) (off : U32) (len : U32) (bytes : List Byte) (s : State) : Host.Outcome State
    Fault Refusal :=
  plain (fun s => s.cmdConfigStageWrite (.configStageWrite h off len bytes) h off len bytes) s

/-- CONFIG_COMMIT (R383): The command validates the staged image in order and writes the shadow banks, or fails with a
validation report. -/
def execConfigCommit (h : CmdHdr) (baseEpoch : U32) (digest : BitVec 256) (s : State) : Host.Outcome State Fault
    Refusal :=
  act (fun s => s.cmdConfigCommit (.configCommit h baseEpoch digest) h baseEpoch digest) s

/-- CONFIG_CONFIRM (R386): The command disarms the confirm timer of the FLIPPED epoch and sets the phase to IDLE. -/
def execConfigConfirm (h : CmdHdr) (epoch : U32) (s : State) : Host.Outcome State Fault Refusal :=
  act (fun s => s.cmdConfigConfirm (.configConfirm h epoch) h epoch) s

/-- CONFIG_ROLLBACK (R387): The command starts a rollback to the previous image. -/
def execConfigRollback (h : CmdHdr) (epoch : U32) (s : State) : Host.Outcome State Fault Refusal :=
  act (fun s => s.cmdConfigRollback (.configRollback h epoch) h epoch) s

/-- CONFIG_GET_STATE (R370): The command returns the epochs, digests, commit phase, drained flag and confirm deadline.
-/
def execConfigGetState (h : CmdHdr) (s : State) : Host.Outcome State Fault Refusal :=
  plain (fun s => s.cmdConfigGetState (.configGetState h) h) s

/-- CONFIG_READ (R370): The command returns bytes of the staged, current or previous image. -/
def execConfigRead (h : CmdHdr) (version : Byte) (off : U32) (len : U16) (s : State) : Host.Outcome State Fault
    Refusal :=
  plain (fun s => s.cmdConfigRead (.configRead h version off len) h version off len) s

/-- GOSSIP_GET (R391): The command returns the gossip table and the alarm flags. -/
def execGossipGet (h : CmdHdr) (s : State) : Host.Outcome State Fault Refusal :=
  plain (fun s => s.cmdGossipGet (.gossipGet h) h) s

/-- TENANT_UNBIND (R370): The command commits a one-record image that unbinds a tenant. -/
def execTenantUnbind (h : CmdHdr) (tenant : U16) (baseEpoch : U32) (s : State) : Host.Outcome State Fault Refusal :=
  act (fun s => s.cmdTenantUnbind (.tenantUnbind h tenant baseEpoch) h tenant baseEpoch) s

/-- TENANT_REMOVE (R370): The command commits a one-record image that removes a tenant. -/
def execTenantRemove (h : CmdHdr) (tenant : U16) (baseEpoch : U32) (s : State) : Host.Outcome State Fault Refusal :=
  act (fun s => s.cmdTenantRemove (.tenantRemove h tenant baseEpoch) h tenant baseEpoch) s

/-- FABRIC_DISCOVER (R354): The leader returns its gossip table and trunk partners, and any other switch returns
STATE_CONFLICT naming the leader. -/
def execFabricDiscover (h : CmdHdr) (s : State) : Host.Outcome State Fault Refusal :=
  plain (fun s => s.cmdFabricDiscover (.fabricDiscover h) h) s

/-- EPOCH_FLIP (R385): Once the shadow banks are written, every bank select flips in one core clock and Bolroth writes
the single-copy entries and applies parameters. -/
def execEpochFlip (s : State) : Host.Outcome State Fault Refusal :=
  act (fun s => s.epochFlip) s

/-- CONFIRM_DEADLINE (R387): The commit-confirm timer expires in FLIPPED and starts a rollback. -/
def execConfirmDeadline (s : State) : Host.Outcome State Fault Refusal :=
  act (fun s => s.confirmDue) s

/-- ROLLBACK_FLIP (R387): Once R23 allows the generation changes, the banks flip back to the previous image and the
single-copy entries are restored. -/
def execRollbackFlip (s : State) : Host.Outcome State Fault Refusal :=
  act (fun s => s.rollbackFlip) s

/-- EPOCH_DRAINED (R83): The live-entry count of the old epoch reaches 0, and the old epoch is reported drained. -/
def execEpochDrained (s : State) : Host.Outcome State Fault Refusal :=
  act (fun s => s.epochDrained) s

/-- WARM_RESTORE (R404): After a warm reset Bolroth applies the current image, replays the live log and fixes
MIGRATING and ZEROING entries. -/
def execWarmRestore (s : State) : Host.Outcome State Fault Refusal :=
  act (fun s => s.warmRestore) s

/-- DIGEST (R390): A received DIGEST flit's entries are merged into the gossip table. -/
def execDigest (t : TrunkId) (hd : FlitHdr) (entries : List DigestEntry) (s : State) : Host.Outcome State Fault
    Refusal :=
  act (fun s => s.flitIn t.val hd true false fun s => s.digestBody entries) s

/-- DIGEST_SEND (R305): Every 1 ms each end sends a DIGEST flit on each ACTIVE trunk. -/
def execDigestSend (s : State) : Host.Outcome State Fault Refusal :=
  act (fun s => s.sendDigests) s

/-- GOSSIP_EVALUATE (R391): Every 1 ms the CY640 ages the gossip entries and evaluates the alarms. -/
def execGossipEvaluate (s : State) : Host.Outcome State Fault Refusal :=
  act (fun s => s.evaluateGossip) s

end Sys2Proof.Machine
end

