-- ==== Sys2Proof/Machine/Pool.lean ====
section
/-! DEFINITION. The pool view's memory-device commands (R18 to R20, R32, R237), and the event-record and log commands that
it shares with the management function. The layouts of their outputs are those of CXL 3.1 as far as the spec gives their
contents (PRESUMED, log entry 20). -/

namespace Sys2Proof.Machine

/-- The pool view of host port p answers. -/
def State.poolAnswer (s : State) (p code : Nat) (payload : List Byte) : State := s.emit (.poolAnswer p code payload)

/-- A command reaches the pool view of port p: it exists on a HOST port whose link is up. Until Bolroth runs, it is answered
Busy (DESIGN CHOICE, log entry 47). A reserved bit that is 1 returns Invalid Input (R7). -/
def State.poolCommand (s : State) (h : PoolHdr) (run : State → State) : State :=
  let p := h.port.val
  if (s.port p).role ≠ .host ∨ ¬ (s.port p).dlUp then s
  else if ¬ s.bolrothRuns then s.poolAnswer p rcBusy []
  else if h.reservedSet then s.poolAnswer p rcInvalid []
  else run s

/-- Translation entry of pool-view DPA tile d on host port p. -/
def State.poolEntry (s : State) (p d : Nat) : Option Nat :=
  (s.bank.windowOf p ((s.param p).decBaseTile + d)).map fun w =>
    w.2.ttBase + ((s.param p).decBaseTile + d - w.2.baseTile)

/-- Translation entries of host port p that are in one of two states, rising. -/
def State.portEntries (s : State) (p : Nat) (ok : TtState → Bool) : List Nat :=
  (s.tab.tt.cells.filter fun c => ok c.2.state && (match s.entryPlace c.1 with
    | some (q, _, _) => q == p
    | none => false)).map (·.1)

/-- Bytes in a tile. -/
def tileBytes : Nat := 2 ^ 28

/-- An extent: DPA, length, tag with SHARE_ID in bytes 0 and 1, and the shared flag (R20). -/
def Extent.bytes (e : Extent) : List Byte :=
  leBytes (e.dpa * tileBytes) 8 ++ leBytes (e.count * tileBytes) 8 ++ leBytes e.shareId 16 ++ leBytes (b2n e.shared) 8

/-- The extents of a host port (R237). -/
def State.poolExtents (s : State) (p : Nat) : List Extent :=
  (s.extents (s.portEntries p fun t => t == .offered || t == .active)).map (·.2.2)

/-- The extent list from an index: the extents returned, those in all, and the extents. -/
def State.extentListBytes (s : State) (p first count : Nat) : List Byte :=
  let l := s.poolExtents p
  let part := (l.drop first).take count
  leBytes part.length 4 ++ leBytes l.length 4 ++ part.flatMap Extent.bytes

/-- DC region 0: base 0, the decoder's size twice, and the block size (R18, R19). -/
def State.regionBytes (s : State) (p : Nat) : List Byte :=
  let size := ((s.param p).decTilesM1 + 1) * tileBytes
  leBytes 1 8 ++ leBytes 0 8 ++ leBytes size 8 ++ leBytes size 8 ++ leBytes tileBytes 8

/-- Identify Memory Device: total, volatile and persistent capacity 0. -/
def State.poolIdentify (s : State) (h : PoolHdr) : State := s.poolCommand h fun s => s.poolAnswer h.port.val rcSuccess (leBytes 0 24)

/-- Get Dynamic Capacity Configuration. -/
def State.poolConfiguration (s : State) (h : PoolHdr) : State :=
  s.poolCommand h fun s => s.poolAnswer h.port.val rcSuccess (s.regionBytes h.port.val)

/-- Get Dynamic Capacity Extent List. -/
def State.poolExtentList (s : State) (h : PoolHdr) (first count : Nat) : State :=
  s.poolCommand h fun s => s.poolAnswer h.port.val rcSuccess (s.extentListBytes h.port.val first count)

/-- Write the state of the entries of an extent that are in a given state. -/
def State.moveExtent (s : State) (e : Extent) (now : TtState) (next : TtEntry → TtEntry) : State :=
  let tt : Tbl ({} : TtEntry) := (List.range e.count).foldl (fun t i =>
    if (t.get (e.tt + i)).state = now then t.upd (e.tt + i) next else t) s.tab.tt
  { s with tab.tt := tt, dp.freed := true }

/-- Take the oldest unanswered Add Capacity event from a port. -/
def State.popAdd (s : State) (p : Nat) : State :=
  let pv := s.edge.pools.get p
  let pv' : PoolView := { pv with adds := pv.adds.drop 1 }
  { s with edge.pools := s.edge.pools.set p pv' }

/-- The oldest Add Capacity event that has been queued and not answered (R237, R404). -/
def State.oldestAdd (s : State) (p : Nat) : Option AddEvent := (s.edge.pools.get p).adds.head?.filter (·.due.isSome)

/-- An Add Dynamic Capacity Response accepts the oldest event's extent, or omits it; any other extent is refused (R32,
R237). The change stands between its INTENT and END records (R340). -/
def State.addResponse (s : State) (h : PoolHdr) (l : List (U64 × U64)) : State :=
  let p := h.port.val
  s.poolCommand h fun s =>
    match s.oldestAdd p with
    | none => s.poolAnswer p rcInvalid []
    | some a =>
      let e := a.extent
      let own : Nat × Nat := (e.dpa * tileBytes, e.count * tileBytes)
      let given := l.map fun x => (x.1.toNat, x.2.toNat)
      if given = [] then
        (((s.journal 1 0).moveExtent e .offered fun _ => {}).popAdd p).journal 2 0 |>.poolAnswer p rcSuccess []
      else if given = [own] then
        (((s.journal 1 0).moveExtent e .offered fun v => { v with state := .active }).popAdd p).journal 2 0
          |>.poolAnswer p rcSuccess []
      else s.poolAnswer p rcInvalid []

/-- The translation entries that a released extent names: whole tiles, all ACTIVE. -/
def State.releasedEntries (s : State) (p : Nat) (x : U64 × U64) : Option (List Nat) :=
  let d := x.1.toNat / tileBytes
  let n := x.2.toNat / tileBytes
  if x.1.toNat % tileBytes ≠ 0 ∨ x.2.toNat % tileBytes ≠ 0 ∨ n = 0 ∨ 2 ^ 20 < n then none
  else
    let l := (List.range n).map fun i => s.poolEntry p (d + i)
    if l.all fun e => match e with
        | some k => (s.tab.tt.get k).state == .active
        | none => false
    then some (l.filterMap id) else none

/-- Release Dynamic Capacity: the extents' ACTIVE entries go to RELEASING; an extent that is not wholly held is refused
(R32). -/
def State.releaseCapacity (s : State) (h : PoolHdr) (l : List (U64 × U64)) : State :=
  let p := h.port.val
  s.poolCommand h fun s =>
    let found := l.map (s.releasedEntries p)
    if found.any (·.isNone) then s.poolAnswer p rcInvalid []
    else
      let tt : Tbl ({} : TtEntry) := (found.filterMap id).flatten.foldl (fun t k =>
        t.upd k fun v => { v with state := .releasing }) s.tab.tt
      (State.journal { s.journal 1 0 with tab.tt := tt, dp.freed := true } 2 0).poolAnswer p rcSuccess []

/-- ADD_TIMEOUT: the oldest event's add timeout passes; its OFFERED entries go to EMPTY. Bolroth acts on it (R32, R343). -/
def State.addTimeout (s : State) (p : Nat) : State :=
  match s.oldestAdd p with
  | none => s
  | some a =>
    if ¬ s.bolrothRuns then s
    else
      let s := s.advanceTo (a.due.getD 0)
      ((s.journal 1 0).moveExtent a.extent .offered fun _ => {}).popAdd p |>.journal 2 0

/-! ### Event records and logs (R237, R369) -/

/-- Number of an event log. -/
def eventNo : EventLog → Nat
  | .informational => 0 | .warning => 1 | .failure => 2 | .fatal => 3 | .dynamicCapacity => 4

/-- A record: handle, kind, and its data as 8 B each. -/
def EventRecord.bytes (r : EventRecord) : List Byte :=
  sliceOf (leBytes r.handle 2 ++ leBytes r.kind 6 ++ r.data.flatMap fun d => leBytes d 8) 0 128

/-- Get Event Records: overflow flag, number of records, and as many records as the payload holds, oldest first. -/
def EventLogs.recordBytes (l : EventLogs) (i : Nat) : List Byte :=
  let part := (l.logs.getD i []).take 15
  leBytes (pack [(1, b2n (l.overflow.getD i false)), (1, b2n (decide (15 < (l.logs.getD i []).length)))]) 1
    ++ leBytes part.length 2 ++ part.flatMap EventRecord.bytes

/-- Clear Event Records: all, or the oldest `count`; the overflow flag clears. -/
def EventLogs.clear (l : EventLogs) (i : Nat) (all : Bool) (count : Nat) : EventLogs :=
  { l with
    logs := l.logs.set i (if all then [] else (l.logs.getD i []).drop count), overflow := l.overflow.set i false }

/-- The event logs of a target. -/
def State.eventLogs (s : State) : EventTarget → EventLogs
  | .mgmt _ => s.obs.mgmtLogs
  | .pool h => (s.edge.pools.get h.port.val).logs

/-- Write the event logs of a target. -/
def State.setLogs (s : State) (t : EventTarget) (l : EventLogs) : State :=
  match t with
  | .mgmt _ => { s with obs.mgmtLogs := l }
  | .pool h => { s with edge.pools := s.edge.pools.upd h.port.val fun v => { v with logs := l } }

/-- A command that the management function and the pool view both serve; `bad` says that its input holds a reserved value (R7). -/
def State.eventCommand (s : State) (i : Instr) (t : EventTarget) (op len : Nat) (changes bad : Bool)
    (run : State → State × List Byte) : State :=
  match t with
  | .mgmt h =>
    s.command i h { opcode := op, len := len, changes := changes, bad := bad } none fun s _ => .done (run s).1 rcSuccess (run s).2
  | .pool h =>
    s.poolCommand { h with reservedSet := h.reservedSet || bad } fun s => (run s).1.poolAnswer h.port.val rcSuccess (run s).2

/-- Get Event Records. -/
def State.getEvents (s : State) (i : Instr) (t : EventTarget) (log : EventLog) : State :=
  s.eventCommand i t 0x0100 1 false false fun s => (s, (s.eventLogs t).recordBytes (eventNo log))

/-- Clear Event Records. -/
def State.clearEvents (s : State) (i : Instr) (t : EventTarget) (log : EventLog) (all : Bool) (count : Nat) : State :=
  s.eventCommand i t 0x0101 6 true false fun s => (s.setLogs t ((s.eventLogs t).clear (eventNo log) all count), [])

/-- Get Event Interrupt Policy. -/
def State.getPolicy (s : State) (i : Instr) (t : EventTarget) : State :=
  s.eventCommand i t 0x0102 0 false false fun s => (s, leBytes (s.eventLogs t).policy.toNat 5)

/-- Does an event interrupt policy hold a reserved value: mode 3, or bits 3 and 2, of the byte of a log (PRESUMED of CXL 3.1, log
entry 20)? -/
def policyBad (policy : BitVec 40) : Bool :=
  (List.range 5).any fun i => field policy.toNat (8 * i) 2 == 3 || field policy.toNat (8 * i + 2) 2 != 0

/-- Set Event Interrupt Policy. -/
def State.setPolicy (s : State) (i : Instr) (t : EventTarget) (policy : BitVec 40) : State :=
  s.eventCommand i t 0x0103 5 true (policyBad policy) fun s => (s.setLogs t { s.eventLogs t with policy := policy }, [])

/-- Opcodes of a target's Command Effects Log. -/
def effectOps : EventTarget → List Nat
  | .mgmt _ =>
    [0x0001, 0x0003, 0x0004, 0x0100, 0x0101, 0x0102, 0x0103, 0x0200, 0x0201, 0x0300, 0x0301, 0x0400, 0x0401, 0x5100,
     0x5101, 0x5102, 0x5103, 0x5200, 0x5201, 0x5202, 0x5300, 0x5400, 0x5401, 0x5402, 0x5600, 0x5601, 0x5603, 0xC001, 0xC002,
     0xC003, 0xC004, 0xC005, 0xC006, 0xC007, 0xC101, 0xC102, 0xC103, 0xC201, 0xC202, 0xC203, 0xC204, 0xC205, 0xC301, 0xC302,
     0xC303, 0xC401, 0xC402, 0xC403, 0xC404, 0xC501, 0xC502, 0xC601, 0xC602, 0xC603, 0xC604, 0xC605, 0xC606, 0xC607, 0xC701,
     0xC702, 0xC703, 0xC801, 0xC802, 0xC803, 0xC901, 0xC902, 0xC903, 0xC904, 0xC905, 0xC906, 0xC907]
  | .pool _ => [0x0100, 0x0101, 0x0102, 0x0103, 0x0400, 0x0401, 0x4000, 0x4800, 0x4801, 0x4802, 0x4803]

/-- The Command Effects Log: each opcode with its effects word, which the spec leaves open (free values). -/
def State.effectsLog (s : State) (t : EventTarget) : State × List Byte :=
  (effectOps t).foldl (fun (a : State × List Byte) op =>
    let (v, s) := a.1.free
    (s, a.2 ++ leBytes op 2 ++ leBytes v 2)) (s, [])

/-- UUID of the Command Effects Log (PRESUMED of CXL 3.1, log entry 20). -/
def effectsUuid : List Byte := beBytes 0x0da9c0b5bf414b788f7996b1623b3f17 16

/-- Get Supported Logs: one log, its UUID and size. -/
def State.supportedLogs (s : State) (i : Instr) (t : EventTarget) : State :=
  s.eventCommand i t 0x0400 0 false false fun s => (s, leBytes 1 8 ++ effectsUuid ++ leBytes (4 * (effectOps t).length) 4)

/-- Get Log: bytes of the Command Effects Log. -/
def State.getLogBytes (s : State) (i : Instr) (t : EventTarget) (off len : Nat) : State :=
  s.eventCommand i t 0x0401 24 false false fun s => ((s.effectsLog t).1, ((s.effectsLog t).2.drop off).take (Nat.min len 2048))

end Sys2Proof.Machine
end

