-- ==== Sys2Proof/Machine/FmApi.lean ====
section
/-! DEFINITION. The CXL 3.1 generic and FM-API commands that Bolroth serves (R369). The layouts of their inputs and outputs
are those of CXL 3.1 as far as the spec gives their contents (PRESUMED, log entry 20). -/

namespace Sys2Proof.Machine

/-! ### Generic commands -/

/-- Identify: vendor ID (a free value: the spec gives no number), the management function's device ID (R236), the
provisioned ID as serial number, and the largest message, 2^11 B. -/
def State.cmdIdentify (s : State) (i : Instr) (h : CmdHdr) : State :=
  s.command i h { opcode := 0x0001, scope := .anyone } none fun s _ =>
    let (v, s) := s.free
    .done s rcSuccess (leBytes v 2 ++ leBytes 0x0642 2 ++ leBytes Config.provisionedId.toNat 8 ++ leBytes 11 1)

/-- Get Response Message Limit. -/
def State.cmdGetLimit (s : State) (i : Instr) (h : CmdHdr) : State :=
  s.command i h { opcode := 0x0003 } none fun s _ => .done s rcSuccess (leBytes (s.mgmt.msgLimit.get (srcNo h.src)) 2)

/-- Set Response Message Limit: 256 B to 2,048 B. -/
def State.cmdSetLimit (s : State) (i : Instr) (h : CmdHdr) (limit : Nat) : State :=
  s.command i h { opcode := 0x0004, len := 1, bad := decide (limit < 256) || decide (2048 < limit), changes := true } none
    fun s _ => .done { s with mgmt.msgLimit := s.mgmt.msgLimit.set (srcNo h.src) limit } rcSuccess (leBytes limit 2)

/-- Get FW Info: two slots, the active one, and each image's version. -/
def State.cmdFwInfo (s : State) (i : Instr) (h : CmdHdr) : State :=
  s.command i h { opcode := 0x0200 } none fun s _ =>
    let active := match s.active with
      | some p => if (s.pairRegs p).imageSlot then 2 else 1
      | none => 0
    .done s rcSuccess (leBytes 2 1 ++ leBytes active 1 ++ leBytes 0 14 ++ leBytes (s.imageField 0 4 4) 16
      ++ leBytes (s.imageField 1 4 4) 16)

/-- Transfer FW: bytes into the slot, 1 or 2, that the ACTIVE pair did not boot from. -/
def State.cmdTransferFw (s : State) (i : Instr) (h : CmdHdr) (slot off : Nat) (bytes : List Byte) : State :=
  s.command i h { opcode := 0x0201, bad := decide (0x2000000 < off + bytes.length), changes := true } none fun s _ =>
    match s.active with
    | none => conflict s 6 0 (pairStateNo s.sys.pairA)
    | some p =>
      let free := if (s.pairRegs p).imageSlot then 1 else 2
      if slot ≠ free then conflict s 6 (pairNo p) (pairStateNo (s.pairState p))
      else
        let base := (slot - 1) * 0x2000000 + off
        ok { s with mgmt.flash := bytes.zipIdx.foldl (fun t b => t.set (base + b.2) (some b.1)) s.mgmt.flash }

/-- Commands that always return Unsupported: Activate FW, Set DC Region Configuration, Initiate DC Add and Release. -/
def State.cmdUnsupported (s : State) (i : Instr) (h : CmdHdr) (op : Nat) : State :=
  s.command i h { opcode := op } none fun s _ => .done s rcUnsupported []

/-- Get Timestamp: fabric time. -/
def State.cmdGetTimestamp (s : State) (i : Instr) (h : CmdHdr) : State :=
  s.command i h { opcode := 0x0300 } none fun s _ => .done s rcSuccess (leBytes s.sys.ft 8)

/-- Set Timestamp: on the time root, and only forward (R304). -/
def State.cmdSetTimestamp (s : State) (i : Instr) (h : CmdHdr) (t : U64) : State :=
  s.command i h { opcode := 0x0301, len := 8, changes := true } none fun s _ =>
    if ¬ s.isRoot ∨ t.toNat < s.sys.ft then conflict s 0 0 0 else ok (s.advanceTo t.toNat)

/-! ### Physical switch -/

/-- A 256-bit map of the edge ports that satisfy p. -/
def State.portMap (s : State) (p : PortState → Bool) : Nat := bitsOf ((List.range 64).map fun x => p (s.port x))

/-- Identify Switch Device: 64 physical ports, 64 VCSs, the ports up, the VCSs in use, 512 vPPBs, those bound, and 8 HDM
decoders (R236). -/
def State.cmdIdentifySwitch (s : State) (i : Instr) (h : CmdHdr) : State :=
  s.command i h { opcode := 0x5100 } none fun s _ =>
    .done s rcSuccess (leBytes 0 2 ++ leBytes 64 1 ++ leBytes 64 1 ++ leBytes (s.portMap (·.dlUp)) 32
      ++ leBytes (s.portMap (·.role == .host)) 32 ++ leBytes 512 2 ++ leBytes s.edge.binds.cells.length 2 ++ leBytes 8 1)

/-- Get Physical Port State: each port's number and PORT_STATUS. -/
def State.cmdPortState (s : State) (i : Instr) (h : CmdHdr) (ports : List PortId) : State :=
  s.command i h { opcode := 0x5101, len := 1 } none fun s _ =>
    .done s rcSuccess (leBytes ports.length 4 ++ ports.flatMap fun p => leBytes p.val 4 ++ leBytes (s.portStatus p.val) 4)

/-- Physical Port Control: a PPB reset of a BOUND or UNBOUND port takes its link through a hot reset (cause 5 of R472);
PERST control returns Invalid Input. -/
def State.cmdPortControl (s : State) (i : Instr) (h : CmdHdr) (p : Nat) (c : PortControl) : State :=
  s.command i h { opcode := 0x5102, len := 2, changes := true } none fun s _ =>
    let role := (s.port p).role
    if c ≠ .resetPpb ∨ (role ≠ .bound ∧ role ≠ .unbound) then .done s rcInvalid [] else ok (s.linkLost p 5 false)

/-- Send PPB CXL.io Configuration Request: it goes out on a BOUND, UNBOUND or POOL_MEMBER port, and `answer` is what comes
back; with the link down, or unanswered, a read returns all ones (PRESUMED of PCIe 6.1, log
entry 20). -/
def State.cmdPpbConfig (s : State) (i : Instr) (h : CmdHdr) (p : Nat) (reg : BitVec 12) (write : Bool) (data : U32)
    (answer : Option U32) : State :=
  s.command i h { opcode := 0x5103, len := 8, changes := true } none fun s _ =>
    let k := s.port p
    if k.role = .host ∨ k.role = .disabled then .done s rcInvalid []
    else
      let s := if k.dlUp then s.emit (.notify p 9 [reg.toNat, b2n write, data.toNat]) else s
      let v : U32 := if k.dlUp then answer.getD 0xFFFFFFFF else 0xFFFFFFFF
      .done s rcSuccess (if write then [] else leBytes v.toNat 4)

/-! ### Virtual switches -/

/-- The VCS, its state, its upstream port, and each vPPB's binding: 0 unbound, 1 port, 2 LD, 3 pool view, with port and
LD-ID. -/
def State.vcsInfo (s : State) (vcs : Nat) : List Byte :=
  let n := (s.param vcs).vppbCount
  let vppb (v : Nat) : List Byte :=
    if v = 0 then leBytes 3 4
    else match s.edge.binds.get (32 * vcs + v) with
      | none => leBytes 0 4
      | some (p, ld) =>
        let mld := (s.param p).mld && (s.port p).mld
        leBytes (if mld then 2 else 1) 1 ++ leBytes p 1 ++ leBytes (if mld then ld else 0xFF) 1 ++ leBytes 0 1
  leBytes vcs 1 ++ leBytes (b2n (s.port vcs).dlUp) 1 ++ leBytes vcs 1 ++ leBytes n 1 ++ (List.range n).flatMap vppb

/-- Get Virtual CXL Switch Info. -/
def State.cmdVcsInfo (s : State) (i : Instr) (h : CmdHdr) (vcs : Nat) : State :=
  s.command i h { opcode := 0x5200, len := 3, bad := (s.port vcs).role != .host } none fun s _ =>
    .done s rcSuccess (s.vcsInfo vcs)

/-- Bind vPPB (R239). -/
def State.cmdBind (s : State) (i : Instr) (h : CmdHdr) (vcs v p : Nat) (ld : Option (BitVec 4)) : State :=
  s.command i h { opcode := 0x5201, len := 4, changes := true, object := some (8, p) } none fun s _ =>
    let l := ld.map (·.toNat)
    if s.bindRefused vcs v p l then conflict s 8 p (roleNo (s.port p).role) else ok (s.bind vcs v p l)

/-- Unbind vPPB by one of the three options of CXL 3.1 (R239): at link down, or at once as a simulated removal. vPPB 0 and
an unbound vPPB are Invalid Input (DESIGN CHOICE, log entry 48). -/
def State.cmdUnbind (s : State) (i : Instr) (h : CmdHdr) (vcs v : Nat) (o : UnbindOption) : State :=
  let held : Option (Nat × Nat) := (s.edge.binds.get (32 * vcs + v)).map fun b => (8, b.1)
  s.command i h { opcode := 0x5202, len := 3, changes := true, object := held } none fun s _ =>
    match s.edge.binds.get (32 * vcs + v) with
    | none => .done s rcInvalid []
    | some (p, _) =>
      if v = 0 then .done s rcInvalid []
      else if o = .waitLinkDown ∧ (s.port p).dlUp then .wait s
      else ok (s.unbind vcs v)

/-! ### MLD ports -/

/-- A command that goes to the FM-owned LD of an MLD port and brings the device's answer back (R240). -/
def State.mldCommand (s : State) (i : Instr) (h : CmdHdr) (op p : Nat) (request answer : List Byte) (changes : Bool) :
    State :=
  s.command i h { opcode := op, changes := changes } none fun s _ =>
    let k := s.port p
    if ¬ ((k.role = .bound ∨ k.role = .unbound) ∧ k.mld ∧ k.dlUp) then .done s rcInvalid []
    else .done (s.emit (.notify p 10 (op :: request.map (·.toNat)))) rcSuccess answer

/-! ### Dynamic capacity -/

/-- A command about the pool view of a HOST port. -/
def State.dcdCommand (s : State) (i : Instr) (h : CmdHdr) (op p : Nat) (answer : State → List Byte) : State :=
  s.command i h { opcode := op, bad := (s.port p).role != .host } none fun s _ => .done s rcSuccess (answer s)

/-- Get DCD Info: one host, one region, its length and its block size (R18, R19). -/
def State.dcdInfo (s : State) (p : Nat) : List Byte :=
  leBytes 1 1 ++ leBytes 1 7 ++ leBytes (((s.param p).decTilesM1 + 1) * tileBytes) 8 ++ leBytes tileBytes 8

end Sys2Proof.Machine
end

