-- ==== Sys2Proof/Machine/Diag.lean ====
section
/-! DEFINITION. Trunk and diagnostic commands (R370): TRUNK_GET_STATUS, PORT_RETRAIN, TXN_READ, the unresponsive flags (R113)
and GET_RESULT (R372). -/

namespace Sys2Proof.Machine

/-- TRUNK_GET_STATUS: TRUNK_STATUS, TRUNK_PARTNER, LL_STATUS, 8 credit states, TIME_STATUS and 9 quality blocks. -/
def State.cmdTrunkStatus (s : State) (i : Instr) (h : CmdHdr) (t : Nat) : State :=
  s.command i h { opcode := 0xC501, len := 1 } none fun s _ =>
    .done s rcSuccess (leBytes (s.trunkStatus t) 4 ++ leBytes (s.trunkPartner t) 8 ++ leBytes (s.llStatus t) 8
      ++ ((List.range 8).flatMap fun k => leBytes (s.creditState t k) 8) ++ leBytes (s.timeStatus t) 8
      ++ (List.range 9).flatMap fun n => leBytes (s.qualityBlock t n) 16)

/-- PORT_RETRAIN: the link goes down (cause 6 of R472) and trains again; `l` is what training reaches, width 0 for
nothing. -/
def State.cmdPortRetrain (s : State) (i : Instr) (h : CmdHdr) (p : Nat) (l : LinkTrained) : State :=
  s.command i h { opcode := 0xC604, len := 1, changes := true, object := some (8, p) } none fun s _ =>
    let k := s.port p
    if ¬ k.dlUp ∨ k.role = .disabled then conflict s 8 p (roleNo k.role)
    else
      let s := (s.linkLost p 6 false).dpcClear p
      let s := if l.width.toNat = 0 then s else s.linkUpEvent p l
      .done s rcSuccess (leBytes (s.portStatus p) 4)

/-- TXN_READ: one transaction table entry. -/
def State.cmdTxnRead (s : State) (i : Instr) (h : CmdHdr) (idx : U32) : State :=
  s.command i h { opcode := 0xC605, len := 4, bad := decide (131072 ≤ idx.toNat) } none fun s _ =>
    .done s rcSuccess (leBytes (s.txn idx.toNat).toNat 64)

/-- UNRESPONSIVE_GET: the home slot flags and this switch's port flags. -/
def State.cmdUnrespGet (s : State) (i : Instr) (h : CmdHdr) : State :=
  s.command i h { opcode := 0xC606 } none fun s _ =>
    .done s rcSuccess (leBytes s.dp.unrespSlots.toNat 8 ++ leBytes s.dp.unrespPorts.toNat 8)

/-- The quarantined BITag slots of a port are freed (R79). -/
def State.freeQuarantine (s : State) (p : Nat) : State :=
  let keys := s.dp.bitags.find fun k b => b.quarantined && k / 4096 == p
  keys.foldl (fun (s : State) (k : Nat) => s.freeBiTag k) { s with dp.freed := true }

/-- UNRESPONSIVE_CLEAR. -/
def State.cmdUnrespClear (s : State) (i : Instr) (h : CmdHdr) (slots ports : U64) : State :=
  s.command i h { opcode := 0xC607, len := 16, changes := true } none fun s _ =>
    let t : State := { s with
      dp.unrespSlots := s.dp.unrespSlots &&& ~~~ slots, dp.unrespPorts := s.dp.unrespPorts &&& ~~~ ports }
    ok ((bitList ports.toNat 64).foldl (fun (s : State) (p : Nat) => s.freeQuarantine p) t)

/-- The return code of the END record that the journal holds for a ticket's latest issue (R372). -/
def State.endCode (s : State) (ticket : Nat) : Option Nat :=
  let tail := (s.mgmt.tickets.get ticket).tail
  (s.sys.journal.cells.find? fun c =>
    c.2.type == 2 && c.2.ticket.toNat == ticket && decide (1 ≤ (c.2.seq - tail).toNat)
      && decide ((c.2.seq - tail).toNat < 2 ^ 31)).map (·.2.code.toNat)

/-- What is known of a ticket: 0 RUNNING, 1 DONE with its return code, 2 UNKNOWN (R372). -/
def State.ticketResult (s : State) (n : Nat) : List Byte :=
  let answer (st code : Nat) : List Byte := leBytes st 1 ++ leBytes code 2
  if s.mgmt.running.any (·.ticket == n) then answer 0 0
  else
    match (if (s.mgmt.tickets.get n).src.isSome then s.endCode n else none) with
    | some c => answer 1 c
    | none => answer 2 0

/-- GET_RESULT: a fabric manager may ask for any ticket, another source for its own; for a ticket of another source it gets Invalid
Input, which MBOX_REFUSED does not count, as the ticket is no tenant or queue pair (DESIGN CHOICE, log entry 90). -/
def State.cmdGetResult (s : State) (i : Instr) (h : CmdHdr) (ticket : U16) : State :=
  let own := (s.mgmt.tickets.get ticket.toNat).src == some h.src
  s.command i h { opcode := 0xC907, len := 2, scope := .anyone, bad := !(s.isFm h.src || own) } none fun s _ =>
    .done s rcSuccess (s.ticketResult ticket.toNat)

end Sys2Proof.Machine
end

