-- ==== Sys2Proof/Machine/ExecDiag.lean ====
section
/-! DEFINITION. The meanings of the trunk, port, transaction, drain and result commands of R370. -/

namespace Sys2Proof.Machine

/-- TRUNK_GET_STATUS (R370): The command returns the status, partner, link-layer, credit, time and quality registers
of a trunk. -/
def execTrunkGetStatus (h : CmdHdr) (t : TrunkId) (s : State) : Host.Outcome State Fault Refusal :=
  plain (fun s => s.cmdTrunkStatus (.trunkGetStatus h t) h t.val) s

/-- PORT_RETRAIN (R230): The command retrains a port's link and returns PORT_STATUS. -/
def execPortRetrain (h : CmdHdr) (p : PortId) (l : LinkTrained) (s : State) : Host.Outcome State Fault Refusal :=
  act (fun s => s.cmdPortRetrain (.portRetrain h p l) h p.val l) s

/-- TXN_READ (R77): The command returns one transaction table entry. -/
def execTxnRead (h : CmdHdr) (idx : U32) (s : State) : Host.Outcome State Fault Refusal :=
  plain (fun s => s.cmdTxnRead (.txnRead h idx) h idx) s

/-- UNRESPONSIVE_GET (R113): The command returns the home slot flags and the port flags. -/
def execUnresponsiveGet (h : CmdHdr) (s : State) : Host.Outcome State Fault Refusal :=
  plain (fun s => s.cmdUnrespGet (.unresponsiveGet h) h) s

/-- UNRESPONSIVE_CLEAR (R113): The command clears slot and port flags and frees quarantined BITag slots. -/
def execUnresponsiveClear (h : CmdHdr) (slots : U64) (ports : U64) (s : State) : Host.Outcome State Fault Refusal :=
  act (fun s => s.cmdUnrespClear (.unresponsiveClear h slots ports) h slots ports) s

/-- DRAIN (R407): The command enters DRAIN, makes the drain plan and starts its jobs. -/
def execDrain (h : CmdHdr) (s : State) : Host.Outcome State Fault Refusal :=
  act (fun s => s.cmdDrain (.drain h) h) s

/-- DRAIN_CANCEL (R409): The command stops the drain, aborts running jobs and ends DRAIN. -/
def execDrainCancel (h : CmdHdr) (s : State) : Host.Outcome State Fault Refusal :=
  act (fun s => s.cmdDrainCancel (.drainCancel h) h) s

/-- GET_RESULT (R372): The command reports RUNNING, DONE with the return code, or UNKNOWN for a ticket. -/
def execGetResult (h : CmdHdr) (ticket : U16) (s : State) : Host.Outcome State Fault Refusal :=
  plain (fun s => s.cmdGetResult (.getResult h ticket) h ticket) s

end Sys2Proof.Machine
end

