-- ==== Sys2Proof/Machine/ExecEdge.lean ====
section
/-! DEFINITION. The meanings of the edge-port events (spec/11). -/

namespace Sys2Proof.Machine

/-- DL_UP (R249): An edge port's data link comes up. -/
def execDlUp (p : PortId) (l : LinkTrained) (s : State) : Host.Outcome State Fault Refusal :=
  act (fun s => s.linkUpEvent p.val l) s

/-- LINK_DOWN (R84): An edge link goes down, so queued messages are flushed, waits end and the port's role effects
follow. -/
def execLinkDown (p : PortId) (c : DownCause) (s : State) : Host.Outcome State Fault Refusal :=
  act (fun s => s.linkLost p.val (downNo c) (c == .removal)) s

/-- LANE_FAILURE (R230): An edge lane fails in L0 and the port degrades to a narrower width through Recovery. -/
def execLaneFailure (p : PortId) (lane : Fin 16) (s : State) : Host.Outcome State Fault Refusal :=
  act (fun s => s.laneFailure p.val lane.val) s

/-- L0P_REQUEST (R231): A partner's L0p request is granted down to L0P_MIN_WIDTH. -/
def execL0pRequest (p : PortId) (width : BitVec 5) (s : State) : Host.Outcome State Fault Refusal :=
  act (fun s => s.l0pRequest p.val width.toNat) s

/-- HOT_RESET (R238): A hot reset of a host port resets the VCS functions and propagates to bound devices. -/
def execHotReset (p : PortId) (s : State) : Host.Outcome State Fault Refusal :=
  act (fun s => s.hotResetPort p.val) s

/-- PERST_DELAY (R249): PERST_DELAY after SLOT_PG has passed, so PERST_N deasserts and link training is enabled. -/
def execPerstDelay (p : PortId) (s : State) : Host.Outcome State Fault Refusal :=
  act (fun s => s.perstDelay p.val) s

/-- LINK_UP_TIMEOUT (R249): DL_UP does not come within LINK_UP_TIMEOUT and LINK_FAIL is logged. -/
def execLinkUpTimeout (p : PortId) (s : State) : Host.Outcome State Fault Refusal :=
  act (fun s => s.linkUpTimeout p.val) s

/-- MEMBER_SETUP (R241): 100 ms after a member's link-up, Bolroth reads it, awaits Memory_Active, programs its decoder
and sets MEMBER_READY or logs a failure. -/
def execMemberSetup (p : PortId) (m : MemberInfo) (s : State) : Host.Outcome State Fault Refusal :=
  act (fun s => s.memberSetup p.val m) s

/-- HOST_PORT_START (R401): Host and bound ports start training once the members are ready or 10 s have passed since
SERVICE_START. -/
def execHostPortStart (s : State) : Host.Outcome State Fault Refusal :=
  act (fun s => s.hostPortStart) s

/-- DPC_TRIGGER (R246): DPC triggers on a downstream port and holds it down. -/
def execDpcTrigger (p : PortId) (c : DpcCause) (s : State) : Host.Outcome State Fault Refusal :=
  act (fun s => s.dpcTrigger p.val (dpcNo c)) s

/-- DPC_CLEAR (R246): Bolroth clears an internal DPC trigger within 10 ms, and the port retrains. -/
def execDpcClear (p : PortId) (s : State) : Host.Outcome State Fault Refusal :=
  act (fun s => s.dpcClear p.val) s

/-- IDE_FAIL (R244): An IDE integrity check fails, bringing a host link down or triggering DPC. -/
def execIdeFail (p : PortId) (pcie : Bool) (s : State) : Host.Outcome State Fault Refusal :=
  act (fun s => s.ideFail p.val pcie) s

/-- VIRAL (R247): Viral from a pool member is handled as a fatal error, and Viral from a bound device is forwarded to
its host. -/
def execViral (p : PortId) (s : State) : Host.Outcome State Fault Refusal :=
  act (fun s => s.viralIn p.val) s

/-- SLOT_CONTROL_WRITE (R317): A host write to a vPPB's Slot Control changes the slot channel's power request or its
indicators. -/
def execSlotControlWrite (p : PortId) (powerOn : Bool) (pwrInd : BitVec 2) (atnInd : BitVec 2) (s : State) :
    Host.Outcome State Fault Refusal :=
  act (fun s => s.slotControl p.val powerOn pwrInd atnInd) s

/-- CONFIGURATION_REQUESTS_ALLOWED (R249): 100 ms after DL_UP, configuration requests are allowed and a BOUND vPPB
reports Data Link Layer State Changed. -/
def execConfigurationRequestsAllowed (p : PortId) (s : State) : Host.Outcome State Fault Refusal :=
  act (fun s => s.configAllowed p.val) s

end Sys2Proof.Machine
end

