-- ==== Sys2Proof/Machine/ExecEgress.lean ====
section
/-! DEFINITION. The meanings of the egress, meter and buffer events (spec/04, spec/08). -/

namespace Sys2Proof.Machine

/-- EGRESS_PICK (R173): The link can take a message, so the scheduler picks and sends one, charges the shapers, and
checks parity and CRC. -/
def execEgressPick (x : PointId) (credits : BitVec 12) (fault : RecordFault) (s : State) : Host.Outcome State Fault
    Refusal :=
  act (fun s => s.egressPick x.val credits fault) s

/-- GATE_BOUNDARY (R175): A gate list entry boundary is reached and the class gates change. -/
def execGateBoundary (x : PointId) (s : State) : Host.Outcome State Fault Refusal :=
  act (fun s => s.gateBoundary x.val) s

/-- METER_REFRESH (R165): The refresher refills each valid tenant's meter and shaper at least once a second. -/
def execMeterRefresh (s : State) : Host.Outcome State Fault Refusal :=
  act (fun s => s.meterRefresh) s

/-- HAZEL_PASS (R86): A Hazel pass marks the referenced cells, withholds conflicts and reclaims leaked cells. -/
def execHazelPass (s : State) : Host.Outcome State Fault Refusal :=
  act (fun s => s.hazelPass) s

end Sys2Proof.Machine
end

