-- ==== Sys2Proof/Machine/ExecGeneric.lean ====
section
/-! DEFINITION. The meanings of the CXL generic and FM-API commands of R369. -/

namespace Sys2Proof.Machine

/-- IDENTIFY (R369): The CXL Identify command returns the device identification. -/
def execIdentify (h : CmdHdr) (s : State) : Host.Outcome State Fault Refusal :=
  plain (fun s => s.cmdIdentify (.identify h) h) s

/-- GET_RESPONSE_MESSAGE_LIMIT (R369): The command returns the response message limit. -/
def execGetResponseMessageLimit (h : CmdHdr) (s : State) : Host.Outcome State Fault Refusal :=
  plain (fun s => s.cmdGetLimit (.getResponseMessageLimit h) h) s

/-- SET_RESPONSE_MESSAGE_LIMIT (R369): The command sets the response message limit, from 256 B to 2,048 B. -/
def execSetResponseMessageLimit (h : CmdHdr) (limit : Nat) (s : State) : Host.Outcome State Fault Refusal :=
  plain (fun s => s.cmdSetLimit (.setResponseMessageLimit h limit) h limit) s

/-- GET_EVENT_RECORDS (R237): The command returns event records from the management function's or the pool view's
logs. -/
def execGetEventRecords (t : EventTarget) (log : EventLog) (s : State) : Host.Outcome State Fault Refusal :=
  plain (fun s => s.getEvents (.getEventRecords t log) t log) s

/-- CLEAR_EVENT_RECORDS (R237): The command clears event records. -/
def execClearEventRecords (t : EventTarget) (log : EventLog) (all : Bool) (count : Nat) (s : State) : Host.Outcome
    State Fault Refusal :=
  plain (fun s => s.clearEvents (.clearEventRecords t log all count) t log all count) s

/-- GET_EVENT_INTERRUPT_POLICY (R237): The command returns the event interrupt policy. -/
def execGetEventInterruptPolicy (t : EventTarget) (s : State) : Host.Outcome State Fault Refusal :=
  plain (fun s => s.getPolicy (.getEventInterruptPolicy t) t) s

/-- SET_EVENT_INTERRUPT_POLICY (R237): The command sets the event interrupt policy. -/
def execSetEventInterruptPolicy (t : EventTarget) (policy : BitVec 40) (s : State) : Host.Outcome State Fault
    Refusal :=
  plain (fun s => s.setPolicy (.setEventInterruptPolicy t policy) t policy) s

/-- GET_FW_INFO (R369): The command reports the two xSPI images as FW slots and names the active slot. -/
def execGetFwInfo (h : CmdHdr) (s : State) : Host.Outcome State Fault Refusal :=
  plain (fun s => s.cmdFwInfo (.getFwInfo h) h) s

/-- TRANSFER_FW (R369): The command writes an image into the slot that the active pair did not boot from, and returns
STATE_CONFLICT for the other slot. -/
def execTransferFw (h : CmdHdr) (slot : Nat) (off : Nat) (bytes : List Byte) (s : State) : Host.Outcome State Fault
    Refusal :=
  plain (fun s => s.cmdTransferFw (.transferFw h slot off bytes) h slot off bytes) s

/-- ACTIVATE_FW (R369): Activate FW always returns Unsupported. -/
def execActivateFw (h : CmdHdr) (s : State) : Host.Outcome State Fault Refusal :=
  plain (fun s => s.cmdUnsupported (.activateFw h) h 0x0202) s

/-- GET_TIMESTAMP (R369): The command returns fabric time. -/
def execGetTimestamp (h : CmdHdr) (s : State) : Host.Outcome State Fault Refusal :=
  plain (fun s => s.cmdGetTimestamp (.getTimestamp h) h) s

/-- SET_TIMESTAMP (R369): The command sets fabric time forward, and only on the time root; otherwise it returns
STATE_CONFLICT. -/
def execSetTimestamp (h : CmdHdr) (t : U64) (s : State) : Host.Outcome State Fault Refusal :=
  act (fun s => s.cmdSetTimestamp (.setTimestamp h t) h t) s

/-- GET_SUPPORTED_LOGS (R369): The command lists the Command Effects Log. -/
def execGetSupportedLogs (t : EventTarget) (s : State) : Host.Outcome State Fault Refusal :=
  plain (fun s => s.supportedLogs (.getSupportedLogs t) t) s

/-- GET_LOG (R369): The command returns the Command Effects Log. -/
def execGetLog (t : EventTarget) (off : Nat) (len : Nat) (s : State) : Host.Outcome State Fault Refusal :=
  plain (fun s => s.getLogBytes (.getLog t off len) t off len) s

/-- IDENTIFY_SWITCH_DEVICE (R369): The command reports 64 ports, 64 VCSs and 512 vPPBs. -/
def execIdentifySwitchDevice (h : CmdHdr) (s : State) : Host.Outcome State Fault Refusal :=
  plain (fun s => s.cmdIdentifySwitch (.identifySwitchDevice h) h) s

/-- GET_PHYSICAL_PORT_STATE (R369): The command reports port state from PORT_STATUS. -/
def execGetPhysicalPortState (h : CmdHdr) (ports : List PortId) (s : State) : Host.Outcome State Fault Refusal :=
  plain (fun s => s.cmdPortState (.getPhysicalPortState h ports) h ports) s

/-- PHYSICAL_PORT_CONTROL (R369): The command performs a PPB reset of BOUND and UNBOUND ports and refuses PERST
control. -/
def execPhysicalPortControl (h : CmdHdr) (p : PortId) (c : PortControl) (s : State) : Host.Outcome State Fault
    Refusal :=
  act (fun s => s.cmdPortControl (.physicalPortControl h p c) h p.val c) s

/-- SEND_PPB_CXL_IO_CONFIGURATION_REQUEST (R369): The command sends a configuration request to a BOUND, UNBOUND or
POOL_MEMBER port. -/
def execSendPpbCxlIoConfigurationRequest (h : CmdHdr) (p : PortId) (reg : BitVec 12) (write : Bool) (data : U32)
    (answer : Option U32) (s : State) : Host.Outcome State Fault Refusal :=
  plain (fun s => s.cmdPpbConfig (.sendPpbCxlIoConfigurationRequest h p reg write data answer) h p.val reg write
    data answer) s

/-- GET_VIRTUAL_CXL_SWITCH_INFO (R369): The command returns VCS information. -/
def execGetVirtualCxlSwitchInfo (h : CmdHdr) (vcs : PortId) (s : State) : Host.Outcome State Fault Refusal :=
  plain (fun s => s.cmdVcsInfo (.getVirtualCxlSwitchInfo h vcs) h vcs.val) s

/-- BIND_VPPB (R239): The command binds a vPPB to an UNBOUND port or an LD, making the port BOUND and reporting a hot-
add. -/
def execBindVppb (h : CmdHdr) (vcs : PortId) (vppb : Fin 32) (p : PortId) (ld : Option (BitVec 4)) (s : State) :
    Host.Outcome State Fault Refusal :=
  act (fun s => s.cmdBind (.bindVppb h vcs vppb p ld) h vcs.val vppb.val p.val ld) s

/-- UNBIND_VPPB (R239): The command unbinds a vPPB by one of the three CXL options, and the port becomes UNBOUND when
its last binding ends. -/
def execUnbindVppb (h : CmdHdr) (vcs : PortId) (vppb : Fin 32) (o : UnbindOption) (s : State) : Host.Outcome State
    Fault Refusal :=
  act (fun s => s.cmdUnbind (.unbindVppb h vcs vppb o) h vcs.val vppb.val o) s

/-- TUNNEL_MANAGEMENT_COMMAND (R240): The command tunnels a command to the FM-owned LD of an MLD port. -/
def execTunnelManagementCommand (h : CmdHdr) (p : PortId) (request : List Byte) (answer : List Byte) (s : State) :
    Host.Outcome State Fault Refusal :=
  plain (fun s => s.mldCommand (.tunnelManagementCommand h p request answer) h 0x5300 p.val request answer true) s

/-- GET_LD_INFO (R369): The command returns LD information for MLD ports. -/
def execGetLdInfo (h : CmdHdr) (p : PortId) (answer : List Byte) (s : State) : Host.Outcome State Fault Refusal :=
  plain (fun s => s.mldCommand (.getLdInfo h p answer) h 0x5400 p.val [] answer false) s

/-- GET_LD_ALLOCATIONS (R369): The command returns the LD allocations. -/
def execGetLdAllocations (h : CmdHdr) (p : PortId) (answer : List Byte) (s : State) : Host.Outcome State Fault
    Refusal :=
  plain (fun s => s.mldCommand (.getLdAllocations h p answer) h 0x5401 p.val [] answer false) s

/-- SET_LD_ALLOCATIONS (R369): The command sets the LD allocations. -/
def execSetLdAllocations (h : CmdHdr) (p : PortId) (alloc : List Byte) (answer : List Byte) (s : State) :
    Host.Outcome State Fault Refusal :=
  plain (fun s => s.mldCommand (.setLdAllocations h p alloc answer) h 0x5402 p.val alloc answer true) s

/-- GET_DCD_INFO (R369): The command reports the pool view of a HOST port as a DCD. -/
def execGetDcdInfo (h : CmdHdr) (p : PortId) (s : State) : Host.Outcome State Fault Refusal :=
  plain (fun s => s.dcdCommand (.getDcdInfo h p) h 0x5600 p.val fun s => s.dcdInfo p.val) s

/-- GET_HOST_DC_REGION_CONFIGURATION (R369): The command reports the DC region configuration of a host's pool view. -/
def execGetHostDcRegionConfiguration (h : CmdHdr) (p : PortId) (s : State) : Host.Outcome State Fault Refusal :=
  plain (fun s => s.dcdCommand (.getHostDcRegionConfiguration h p) h 0x5601 p.val fun s => s.regionBytes p.val) s

/-- SET_DC_REGION_CONFIGURATION (R369): The command always returns Unsupported. -/
def execSetDcRegionConfiguration (h : CmdHdr) (s : State) : Host.Outcome State Fault Refusal :=
  plain (fun s => s.cmdUnsupported (.setDcRegionConfiguration h) h 0x5602) s

/-- GET_DC_REGION_EXTENT_LISTS (R369): The command returns the extent lists of a pool view. -/
def execGetDcRegionExtentLists (h : CmdHdr) (p : PortId) (first : Nat) (count : Nat) (s : State) : Host.Outcome
    State Fault Refusal :=
  plain (fun s => s.dcdCommand (.getDcRegionExtentLists h p first count) h 0x5603 p.val fun s => s.extentListBytes
    p.val first count) s

/-- INITIATE_DC_ADD (R369): The command returns Unsupported, because capacity is granted only by commit. -/
def execInitiateDcAdd (h : CmdHdr) (s : State) : Host.Outcome State Fault Refusal :=
  plain (fun s => s.cmdUnsupported (.initiateDcAdd h) h 0x5604) s

/-- INITIATE_DC_RELEASE (R369): The command returns Unsupported, because capacity is withdrawn only by commit. -/
def execInitiateDcRelease (h : CmdHdr) (s : State) : Host.Outcome State Fault Refusal :=
  plain (fun s => s.cmdUnsupported (.initiateDcRelease h) h 0x5605) s

end Sys2Proof.Machine
end

