-- ==== Sys2Proof/Machine/I3c.lean ====
section
/-! DEFINITION. The I3C target ports (R353, R412) and MCTP endpoints (R355). Encodings of the CCCs' answers are those of
I3C Basic 1.1.1 (PRESUMED, log entry 23). -/

namespace Sys2Proof.Machine

/-- I3C port k. -/
def State.i3c (s : State) (k : Fin 2) : I3c := if k = 0 then s.mgmt.i3c0 else s.mgmt.i3c1

/-- Change I3C port k. -/
def State.updI3c (s : State) (k : Fin 2) (f : I3c → I3c) : State :=
  if k = 0 then { s with mgmt.i3c0 := f s.mgmt.i3c0 } else { s with mgmt.i3c1 := f s.mgmt.i3c1 }

/-- The ports answer CCCs in every mode except RESET; all but ENTDAA and RSTDAA need a dynamic address, as there is no
static one. -/
def State.ccc (s : State) (k : Fin 2) (addressed : Bool) (run : State → State) : State :=
  if s.sys.mode = .reset ∨ (addressed ∧ (s.i3c k).dynAddr.isNone) then s else run s

/-- ENTDAA: the port without an address sends PID, BCR 0x06 and DCR 0x00 and takes the address. -/
def State.entdaa (s : State) (k : Fin 2) (a : BitVec 7) : State :=
  s.ccc k false fun s =>
    if (s.i3c k).dynAddr.isSome then s
    else State.emit (s.updI3c k fun i => { i with dynAddr := some a })
      (.i3c k.val (leBytes Config.provisionedId.toNat 6 ++ [0x06, 0x00]))

/-- RSTDAA: the dynamic address is lost. -/
def State.rstdaa (s : State) (k : Fin 2) : State := s.ccc k false fun s => s.updI3c k fun i => { i with dynAddr := none }

/-- A CCC that reads bytes. -/
def State.cccRead (s : State) (k : Fin 2) (bytes : State → List Byte) : State :=
  s.ccc k true fun s => s.emit (.i3c k.val (bytes s))

/-- GETPID. -/
def State.getpid (s : State) (k : Fin 2) : State := s.cccRead k fun _ => leBytes Config.provisionedId.toNat 6
/-- GETBCR. -/
def State.getbcr (s : State) (k : Fin 2) : State := s.cccRead k fun _ => [0x06]
/-- GETDCR. -/
def State.getdcr (s : State) (k : Fin 2) : State := s.cccRead k fun _ => [0x00]

/-- The status word of GETSTATUS: PREPARE_STEP and SAFE_CAUSE in bits [15:8] (R412); bit 0 a pending alert. -/
def State.i3cStatus (s : State) (k : Fin 2) : Nat :=
  pack [(4, b2n (if k = 0 then s.obs.alert0 else s.obs.alert1).isSome), (4, 0), (4, s.sys.status.prepareStep.toNat),
    (4, s.sys.status.safeCause.toNat)]

/-- GETSTATUS. -/
def State.getstatus (s : State) (k : Fin 2) : State := s.cccRead k fun s => leBytes (s.i3cStatus k) 2

/-- ENEC: bit 0 of the event byte enables in-band interrupts. -/
def State.enec (s : State) (k : Fin 2) (e : Byte) : State :=
  s.ccc k true fun s => if e.toNat.testBit 0 then s.updI3c k fun i => { i with ibiEnabled := true } else s

/-- DISEC. -/
def State.disec (s : State) (k : Fin 2) (e : Byte) : State :=
  s.ccc k true fun s => if e.toNat.testBit 0 then s.updI3c k fun i => { i with ibiEnabled := false } else s

/-- A length within 69 B to 4,096 B is taken; any other is not (R353; log entry 23). -/
def lengthOk (n : U16) : Bool := decide (69 ≤ n.toNat) && decide (n.toNat ≤ 4096)

/-- SETMWL. -/
def State.setmwl (s : State) (k : Fin 2) (n : U16) : State :=
  s.ccc k true fun s => if lengthOk n then s.updI3c k fun i => { i with mwl := n } else s
/-- GETMWL. -/
def State.getmwl (s : State) (k : Fin 2) : State := s.cccRead k fun s => leBytes (s.i3c k).mwl.toNat 2
/-- SETMRL. -/
def State.setmrl (s : State) (k : Fin 2) (n : U16) : State :=
  s.ccc k true fun s => if lengthOk n then s.updI3c k fun i => { i with mrl := n } else s
/-- GETMRL: the length, and the size of an in-band interrupt's payload, 5 B (R430). -/
def State.getmrl (s : State) (k : Fin 2) : State := s.cccRead k fun s => leBytes (s.i3c k).mrl.toNat 2 ++ [5]

/-- MCTP Set Endpoint ID: each transport has its own, and none is static (R355). EIDs 0 to 7 and 0xFF are not assignable. -/
def State.setEid (s : State) (src : CmdSrc) (eid : Byte) : State :=
  if s.sys.mode = .reset ∨ s.sys.mode = .prepare ∨ ¬ s.executorFree then s
  else
    let okay := decide (8 ≤ eid.toNat) && eid != 0xFF
    let s := if okay then { s with mgmt.eids := s.mgmt.eids.set (srcNo src) eid } else s
    s.emit (.answer src 0 0 (if okay then rcSuccess else rcInvalid) [eid])

end Sys2Proof.Machine
end

