-- ==== Sys2Proof/Machine/ExecI3c.lean ====
section
/-! DEFINITION. The meanings of the I3C common command codes and of MCTP Set Endpoint ID (R353, R355). -/

namespace Sys2Proof.Machine

/-- SET_ENDPOINT_ID (R355): MCTP Set Endpoint ID assigns an EID on one transport. -/
def execSetEndpointId (s0 : CmdSrc) (eid : Byte) (s : State) : Host.Outcome State Fault Refusal :=
  plain (fun s => s.setEid s0 eid) s

/-- ENTDAA (R353): The I3C CCC assigns a dynamic address to the port. -/
def execEntdaa (k : Fin 2) (addr : BitVec 7) (s : State) : Host.Outcome State Fault Refusal :=
  plain (fun s => s.entdaa k addr) s

/-- RSTDAA (R353): The I3C CCC resets the dynamic address. -/
def execRstdaa (k : Fin 2) (s : State) : Host.Outcome State Fault Refusal :=
  plain (fun s => s.rstdaa k) s

/-- GETPID (R353): The I3C CCC returns the provisioned ID. -/
def execGetpid (k : Fin 2) (s : State) : Host.Outcome State Fault Refusal :=
  plain (fun s => s.getpid k) s

/-- GETBCR (R353): The I3C CCC returns BCR 0x06. -/
def execGetbcr (k : Fin 2) (s : State) : Host.Outcome State Fault Refusal :=
  plain (fun s => s.getbcr k) s

/-- GETDCR (R353): The I3C CCC returns DCR 0x00. -/
def execGetdcr (k : Fin 2) (s : State) : Host.Outcome State Fault Refusal :=
  plain (fun s => s.getdcr k) s

/-- GETSTATUS (R412): The I3C CCC returns the status with PREPARE_STEP and SAFE_CAUSE. -/
def execGetstatus (k : Fin 2) (s : State) : Host.Outcome State Fault Refusal :=
  plain (fun s => s.getstatus k) s

/-- ENEC (R353): The I3C CCC enables events such as IBI. -/
def execEnec (k : Fin 2) (events : Byte) (s : State) : Host.Outcome State Fault Refusal :=
  plain (fun s => s.enec k events) s

/-- DISEC (R353): The I3C CCC disables events. -/
def execDisec (k : Fin 2) (events : Byte) (s : State) : Host.Outcome State Fault Refusal :=
  plain (fun s => s.disec k events) s

/-- SETMWL (R353): The I3C CCC sets the maximum write length. -/
def execSetmwl (k : Fin 2) (len : U16) (s : State) : Host.Outcome State Fault Refusal :=
  plain (fun s => s.setmwl k len) s

/-- GETMWL (R353): The I3C CCC returns the maximum write length. -/
def execGetmwl (k : Fin 2) (s : State) : Host.Outcome State Fault Refusal :=
  plain (fun s => s.getmwl k) s

/-- SETMRL (R353): The I3C CCC sets the maximum read length. -/
def execSetmrl (k : Fin 2) (len : U16) (s : State) : Host.Outcome State Fault Refusal :=
  plain (fun s => s.setmrl k len) s

/-- GETMRL (R353): The I3C CCC returns the maximum read length. -/
def execGetmrl (k : Fin 2) (s : State) : Host.Outcome State Fault Refusal :=
  plain (fun s => s.getmrl k) s

end Sys2Proof.Machine
end

