-- ==== Sys2Proof/Machine/ExecMessage.lean ====
section
/-! DEFINITION. The meanings of the messages that arrive on links, and of the transaction deadlines (spec/03 to
spec/05). -/

namespace Sys2Proof.Machine

/-- MREQ (R52): A CXL.mem request without data is classified, takes a transaction entry and runs its recipe. -/
def execMreq (o : Origin) (m : Msg) (s : State) : Host.Outcome State Fault Refusal :=
  act (fun s => s.accept (originNo o) 0 m) s

/-- MWR (R52): A CXL.mem write with data is classified and runs its recipe, and writebacks are indexed. -/
def execMwr (o : Origin) (m : Msg) (s : State) : Host.Outcome State Fault Refusal :=
  act (fun s => s.accept (originNo o) 1 m) s

/-- SNP (R46): A BIRsp from a host, or a BISnp over a trunk for a local host, is matched to a waiting transaction or
starts a recipe. -/
def execSnp (o : Origin) (m : Msg) (s : State) : Host.Outcome State Fault Refusal :=
  act (fun s => s.accept (originNo o) 2 m) s

/-- BICONF (R110): A BIConflict from a host runs its recipe, and the CONFLICT step acknowledges it now or defers the
acknowledgement. -/
def execBiconf (o : Origin) (m : Msg) (s : State) : Host.Outcome State Fault Refusal :=
  act (fun s => s.accept (originNo o) 3 m) s

/-- RSP (R46): A response is delivered to its waiting transaction, or counted as a stray. -/
def execRsp (o : Origin) (m : Msg) (s : State) : Host.Outcome State Fault Refusal :=
  act (fun s => s.accept (originNo o) 4 m) s

/-- ATTACHED_WRITEBACK (R108): An attached writeback from a relay is attached to the home transaction by its tag, or
discarded. -/
def execAttachedWriteback (t : TrunkId) (m : Msg) (s : State) : Host.Outcome State Fault Refusal :=
  act (fun s => s.accept (64 + t.val) 1 { m with attached := true }) s

/-- CACHE (R55): A CXL.cache message is forwarded within the virtual hierarchy, or counted as stray. -/
def execCache (o : Origin) (m : Msg) (s : State) : Host.Outcome State Fault Refusal :=
  act (fun s => s.accept (originNo o) 5 m) s

/-- IO (R55): A CXL.io TLP is forwarded within the virtual hierarchy, or taken as MCTP for the management function. -/
def execIo (o : Origin) (m : Msg) (s : State) : Host.Outcome State Fault Refusal :=
  act (fun s => s.accept (originNo o) 6 m) s

/-- WAITING_MESSAGE_START (R80): A transaction entry frees and a message waiting in its cell starts its transaction.
-/
def execWaitingMessageStart (x : Fin 77) (cls : MsgClass) (s : State) : Host.Outcome State Fault Refusal :=
  act (fun s => s.startWaiting x.val (clsNo cls)) s

/-- LIFETIME_DEADLINE (R82): A transaction's lifetime deadline passes, and it times out, ends as an error, or is
voided. -/
def execLifetimeDeadline (idx : BitVec 17) (s : State) : Host.Outcome State Fault Refusal :=
  act (fun s => s.lifetime idx.toNat) s

/-- SNOOP_DEADLINE (R112): A BIRSP wait's snoop deadline passes, so silent slots are flagged and the line is poisoned.
-/
def execSnoopDeadline (idx : BitVec 17) (s : State) : Host.Outcome State Fault Refusal :=
  act (fun s => s.snoopLate idx.toNat) s

end Sys2Proof.Machine
end

