-- ==== Sys2Proof/Machine/ExecObserve.lean ====
section
/-! DEFINITION. The meanings of the observability events (spec/19). -/

namespace Sys2Proof.Machine

/-- MASKABLE_FREEZE (R427): POST_ENTRIES after a maskable cause, the FREEZE entry is written and the log freezes. -/
def execMaskableFreeze (s : State) : Host.Outcome State Fault Refusal :=
  quiet (fun s => s.maskableFreeze) s

/-- ARCHIVE_DONE (R429): The archive copy of a frozen log ends, ARCHIVE_NEXT advances and the log resumes unless it
froze for SAFE. -/
def execArchiveDone (s : State) : Host.Outcome State Fault Refusal :=
  quiet (fun s => s.archiveDone) s

/-- SNAPSHOT_PERIOD (R421): A snapshot period expires and a counter snapshot slot is written. -/
def execSnapshotPeriod (s : State) : Host.Outcome State Fault Refusal :=
  quiet (fun s => s.snapshotPeriod) s

/-- BANDWIDTH_WINDOW (R422): A bandwidth window ends and its record replaces the last one. -/
def execBandwidthWindow (x : PointId) (s : State) : Host.Outcome State Fault Refusal :=
  act (fun s => s.bandwidthWindow x.val) s

/-- TELEM_PERIOD (R425): The telemetry period expires and records are written to the host ring. -/
def execTelemPeriod (s : State) : Host.Outcome State Fault Refusal :=
  act (fun s => s.telemPeriod) s

/-- ALERT_IBI (R430): While new alert entries exist, each I3C port with IBI enabled sends at most one IBI per 1 ms,
carrying the latest alert's SEQ. -/
def execAlertIbi (k : Fin 2) (s : State) : Host.Outcome State Fault Refusal :=
  quiet (fun s => s.alertIbi k.val) s

end Sys2Proof.Machine
end

