-- ==== Sys2Proof/Machine/ExecPairs.lean ====
section
/-! DEFINITION. The meanings of the events of the management pairs and of the registers that have commands of their
own (spec/15). -/

namespace Sys2Proof.Machine

/-- PAIR_BOOT (R338): A management pair finishes verification and starts Bolroth, going to SYNCING or ACTIVE, or it is
retired if verification fails. -/
def execPairBoot (p : Pair) (s : State) : Host.Outcome State Fault Refusal :=
  act (fun s => s.pairBoot p) s

/-- JOURNAL_APPLY (R341): The standby pair applies journal records, becomes STANDBY_READY at the tail, or falls back
to SYNCING and a full resynchronisation. -/
def execJournalApply (p : Pair) (records : Nat) (unreadable : Bool) (s : State) : Host.Outcome State Fault Refusal :=
  act (fun s => s.journalApply p records unreadable) s

/-- STANDBY_STALLED (R339): A standby that stays in SYNCING for more than 10 s is retired by the active pair, which
logs the event. -/
def execStandbyStalled (s : State) : Host.Outcome State Fault Refusal :=
  act (fun s => s.standbyStalled) s

/-- LOCKSTEP_MISMATCH (R337): The comparator finds a mismatch, an uncorrectable SRAM parity failure occurs, or the
watchdog expires; the pair's outputs are blocked, it becomes FENCED and then RETIRED, and a handover starts if it was
ACTIVE. -/
def execLockstepMismatch (p : Pair) (c : MismatchCause) (s : State) : Host.Outcome State Fault Refusal :=
  act (fun s => s.lockstepMismatch p c) s

/-- WATCHDOG_EXPIRY (R339): The active pair's watchdog is not kicked within WDT_PERIOD_MS, which is treated as a
lockstep mismatch. -/
def execWatchdogExpiry (s : State) : Host.Outcome State Fault Refusal :=
  act (fun s => s.watchdogExpiry) s

/-- HANDOVER_COMPLETE (R343): The standby has applied the journal, finished INTENT records that have no END record and
re-armed its timers, and the mode controller makes it ACTIVE. -/
def execHandoverComplete (s : State) : Host.Outcome State Fault Refusal :=
  act (fun s => s.handoverComplete) s

/-- WDT_KICK (R339): A write of WDT_KICK = 1 to PAIR_CTRL restarts the watchdog. -/
def execWdtKick (p : Pair) (s : State) : Host.Outcome State Fault Refusal :=
  plain (fun s => s.wdtKick p) s

/-- BOOT_CONFIRMED (R399): The active pair sets BOOT_CONFIRMED after the first SERVICE entry, which may burn FUSE_SVN
and the revoke bits. -/
def execBootConfirmed (s : State) : Host.Outcome State Fault Refusal :=
  plain (fun s => s.bootConfirm) s

/-- FAULT_CAPTURE_CLEAR (R151): Writing 1 to VALID of a checker's FAULT_CAPTURE clears the register and re-arms the
capture. -/
def execFaultCaptureClear (k : Fin 77) (s : State) : Host.Outcome State Fault Refusal :=
  plain (fun s => s.clearCapture k.val) s

/-- PEAK_CLR (R458): A write of PEAK_CLR sets TJ_PEAK to TJ_NOW. -/
def execPeakClr (s : State) : Host.Outcome State Fault Refusal :=
  plain (fun s => s.peakClr) s

/-- REGISTER_WRITE (R6): A write to a register that has no row of its own acts by the field access codes, and ignored
or refused writes are counted. -/
def execRegisterWrite (t : RegTarget) (off : BitVec 48) (bytes : Nat) (data : U64) (s : State) : Host.Outcome State
    Fault Refusal :=
  act (fun s => s.registerWrite t off.toNat bytes data.toNat) s

/-- CROSSBAR_ACCESS (R351): A crossbar master's access is arbitrated, checked, and then completed or refused with an
error status. -/
def execCrossbarAccess (m : Master) (sp : Space) (addr : BitVec 51) (write : Bool) (bytes : Nat) (data : Line) (hold
    : Bool) (s : State) : Host.Outcome State Fault Refusal :=
  act (fun s => s.crossbarCommand m sp addr write bytes data hold) s

end Sys2Proof.Machine
end

