-- ==== Sys2Proof/Machine/ExecPool.lean ====
section
/-! DEFINITION. The meanings of the pool view's commands and of the add timeout (R20, R32, R237). -/

namespace Sys2Proof.Machine

/-- IDENTIFY_MEMORY_DEVICE (R237): The pool view's command reports zero static capacity. -/
def execIdentifyMemoryDevice (h : PoolHdr) (s : State) : Host.Outcome State Fault Refusal :=
  plain (fun s => s.poolIdentify h) s

/-- GET_DYNAMIC_CAPACITY_CONFIGURATION (R237): The pool view's command reports DC region 0. -/
def execGetDynamicCapacityConfiguration (h : PoolHdr) (s : State) : Host.Outcome State Fault Refusal :=
  plain (fun s => s.poolConfiguration h) s

/-- GET_DYNAMIC_CAPACITY_EXTENT_LIST (R237): The pool view's command lists the extents of OFFERED and ACTIVE
translation entries. -/
def execGetDynamicCapacityExtentList (h : PoolHdr) (first : Nat) (count : Nat) (s : State) : Host.Outcome State
    Fault Refusal :=
  plain (fun s => s.poolExtentList h first count) s

/-- ADD_DYNAMIC_CAPACITY_RESPONSE (R237): The host answers the oldest Add Capacity event, and each accepted extent's
entries go from OFFERED to ACTIVE while each omitted one goes to EMPTY. -/
def execAddDynamicCapacityResponse (h : PoolHdr) (extents : List (U64 × U64)) (s : State) : Host.Outcome State Fault
    Refusal :=
  act (fun s => s.addResponse h extents) s

/-- RELEASE_DYNAMIC_CAPACITY (R32): The host releases an extent, and its ACTIVE entries go to RELEASING. -/
def execReleaseDynamicCapacity (h : PoolHdr) (extents : List (U64 × U64)) (s : State) : Host.Outcome State Fault
    Refusal :=
  act (fun s => s.releaseCapacity h extents) s

/-- ADD_TIMEOUT (R32): The host does not answer an Add Capacity event within the add timeout, and its OFFERED entries
go to EMPTY. -/
def execAddTimeout (p : PortId) (s : State) : Host.Outcome State Fault Refusal :=
  act (fun s => s.addTimeout p.val) s

end Sys2Proof.Machine
end

