-- ==== Sys2Proof/Machine/ExecSecurity.lean ====
section
/-! DEFINITION. The meanings of the security commands, the TAP instructions and the SPDM requests (spec/20). -/

namespace Sys2Proof.Machine

/-- DEBUG_ENABLE (R446): The key store checks a signed token and, if it is accepted, enables debug until the expiry
and replaces the challenge. -/
def execDebugEnable (h : CmdHdr) (secured : Bool) (tok : Token) (s : State) : Host.Outcome State Fault Refusal :=
  act (fun s => s.cmdDebugEnable (.debugEnable h secured tok) h secured tok) s

/-- DEBUG_DISABLE (R371): The gateway decodes the command in hardware and ends debug within 1 µs. -/
def execDebugDisable (h : CmdHdr) (s : State) : Host.Outcome State Fault Refusal :=
  act (fun s => s.cmdDebugDisable (.debugDisable h) h) s

/-- IDE_KEY_REFRESH (R443): Bolroth refreshes the IDE keys of a non-HOST port. -/
def execIdeKeyRefresh (h : CmdHdr) (p : PortId) (s : State) : Host.Outcome State Fault Refusal :=
  act (fun s => s.cmdIdeKeyRefresh (.ideKeyRefresh h p) h p.val) s

/-- DEBUG_EXPIRY (R447): Fabric time reaches the debug expiry and debug ends. -/
def execDebugExpiry (s : State) : Host.Outcome State Fault Refusal :=
  act (fun s => s.debugExpiry) s

/-- DBG_ACCESS (R448): A TAP shift through DBG_ACCESS starts one debug bridge access and collects its status. -/
def execDbgAccess (write : Bool) (space : BitVec 3) (hold : Bool) (addr : BitVec 51) (data : U64) (s : State) :
    Host.Outcome State Fault Refusal :=
  act (fun s => s.dbgAccess write space hold addr data) s

/-- BYPASS (R449): The BYPASS instruction is loaded. -/
def execBypass (s : State) : Host.Outcome State Fault Refusal :=
  plain (fun s => s.tapLoad .bypass) s

/-- IDCODE (R449): The IDCODE instruction returns 0xB064_0A6B. -/
def execIdcode (s : State) : Host.Outcome State Fault Refusal :=
  plain (fun s => s.tapIdcode) s

/-- SAMPLE_PRELOAD (R449): SAMPLE/PRELOAD observes the pins. -/
def execSamplePreload (s : State) : Host.Outcome State Fault Refusal :=
  plain (fun s => s.tapLoad .samplePreload) s

/-- EXTEST (R449): EXTEST drives the pins, sets BSCAN_USED, clears the key store and stops PREPARE. -/
def execExtest (s : State) : Host.Outcome State Fault Refusal :=
  plain (fun s => s.tapScan .extest) s

/-- CLAMP (R449): CLAMP acts as EXTEST does on start-up. -/
def execClamp (s : State) : Host.Outcome State Fault Refusal :=
  plain (fun s => s.tapScan .clamp) s

/-- HIGHZ (R449): HIGHZ acts as EXTEST does on start-up. -/
def execHighz (s : State) : Host.Outcome State Fault Refusal :=
  plain (fun s => s.tapScan .highz) s

/-- EXTEST_PULSE (R449): The IEEE 1149.6 EXTEST_PULSE instruction acts as EXTEST does on start-up. -/
def execExtestPulse (s : State) : Host.Outcome State Fault Refusal :=
  plain (fun s => s.tapScan .extestPulse) s

/-- EXTEST_TRAIN (R449): The IEEE 1149.6 EXTEST_TRAIN instruction acts as EXTEST does on start-up. -/
def execExtestTrain (s : State) : Host.Outcome State Fault Refusal :=
  plain (fun s => s.tapScan .extestTrain) s

/-- FUSE_PROG (R449): FUSE_PROG burns DEBUG_KEY_HASH[1] while that field is blank. -/
def execFuseProg (hash : BitVec 384) (s : State) : Host.Outcome State Fault Refusal :=
  plain (fun s => s.tapFuse hash) s

/-- GET_VERSION (R440): The SPDM request is answered. -/
def execGetVersion (s0 : SpdmSrc) (s : State) : Host.Outcome State Fault Refusal :=
  plain (fun s => s.spdmVersion s0) s

/-- GET_CAPABILITIES (R440): The SPDM request is answered. -/
def execGetCapabilities (s0 : SpdmSrc) (s : State) : Host.Outcome State Fault Refusal :=
  plain (fun s => s.spdmCaps s0) s

/-- NEGOTIATE_ALGORITHMS (R440): The SPDM request negotiates the single supported suite. -/
def execNegotiateAlgorithms (s0 : SpdmSrc) (s : State) : Host.Outcome State Fault Refusal :=
  plain (fun s => s.spdmAlgs s0) s

/-- GET_DIGESTS (R440): The SPDM request returns the certificate chain digests. -/
def execGetDigests (s0 : SpdmSrc) (s : State) : Host.Outcome State Fault Refusal :=
  plain (fun s => s.spdmDigests s0) s

/-- GET_CERTIFICATE (R441): The SPDM request returns a certificate chain. -/
def execGetCertificate (s0 : SpdmSrc) (slot : Fin 8) (off : Nat) (len : Nat) (s : State) : Host.Outcome State Fault
    Refusal :=
  plain (fun s => s.spdmCertificate s0 slot.val off len) s

/-- CHALLENGE (R440): The SPDM request is answered with a signature by DEVICE_KEY. -/
def execChallenge (s0 : SpdmSrc) (slot : Fin 8) (nonce : BitVec 256) (s : State) : Host.Outcome State Fault Refusal :=
  plain (fun s => s.spdmChallenge s0 slot.val nonce) s

/-- GET_MEASUREMENTS (R442): The SPDM request returns the measurement indexes, signed on request. -/
def execGetMeasurements (s0 : SpdmSrc) (index : Byte) (signed : Bool) (s : State) : Host.Outcome State Fault Refusal
    :=
  plain (fun s => s.spdmMeasurements s0 index.toNat signed) s

/-- KEY_EXCHANGE (R440): The SPDM request opens a session, or is answered Busy beyond 16 sessions. -/
def execKeyExchange (s0 : SpdmSrc) (s : State) : Host.Outcome State Fault Refusal :=
  plain (fun s => s.spdmKeyExchange s0) s

/-- FINISH (R440): The SPDM request completes session establishment. -/
def execFinish (s0 : SpdmSrc) (session : Fin 16) (s : State) : Host.Outcome State Fault Refusal :=
  plain (fun s => s.spdmFinish s0 session.val) s

/-- END_SESSION (R435): The SPDM request ends a session and clears its SESSION slot. -/
def execEndSession (s0 : SpdmSrc) (session : Fin 16) (s : State) : Host.Outcome State Fault Refusal :=
  plain (fun s => s.spdmEnd s0 session.val) s

/-- HEARTBEAT (R440): The SPDM session heartbeat is answered. -/
def execHeartbeat (s0 : SpdmSrc) (session : Fin 16) (s : State) : Host.Outcome State Fault Refusal :=
  plain (fun s => s.spdmHeartbeat s0 session.val) s

/-- KEY_UPDATE (R440): The SPDM request updates the session keys. -/
def execKeyUpdate (s0 : SpdmSrc) (session : Fin 16) (s : State) : Host.Outcome State Fault Refusal :=
  plain (fun s => s.spdmKeyUpdate s0 session.val) s

/-- SET_CERTIFICATE (R441): The SPDM request writes the owner chain into slot 1, in PROVISION and over I3C only. -/
def execSetCertificate (s0 : SpdmSrc) (slot : Fin 8) (chain : List Byte) (s : State) : Host.Outcome State Fault
    Refusal :=
  plain (fun s => s.spdmSetCertificate s0 slot.val chain) s

/-- VENDOR_DEFINED_REQUEST (R443): An IDE_KM message in a session programs IDE keys through the key store. -/
def execVendorDefinedRequest (s0 : SpdmSrc) (session : Fin 16) (m : IdeKm) (s : State) : Host.Outcome State Fault
    Refusal :=
  act (fun s => s.spdmIdeKm s0 session.val m) s

/-- IDE_REFRESH (R443): Every IDE_REFRESH_S, Bolroth refreshes the IDE keys of every non-HOST port that runs IDE. -/
def execIdeRefresh (s : State) : Host.Outcome State Fault Refusal :=
  act (fun s => s.ideRefresh) s

end Sys2Proof.Machine
end

