-- ==== Sys2Proof/Machine/ExecSlot.lean ====
section
/-! DEFINITION. The meanings of the slot-power events (spec/14). -/

namespace Sys2Proof.Machine

/-- PRSNT_N_LOW (R318): PRSNT_N of an IDLE channel goes low and the channel enters SEATING. -/
def execPrsntNLow (ch : PortId) (s : State) : Host.Outcome State Fault Refusal :=
  act (fun s => s.prsntLow ch.val) s

/-- SEAT_DEBOUNCE (R316): PRSNT_N is stable low for SEAT_DEBOUNCE_MS, so PRESENT is set and the ramp may start. -/
def execSeatDebounce (ch : PortId) (s : State) : Host.Outcome State Fault Refusal :=
  act (fun s => s.seatDebounce ch.val) s

/-- REMOVED (R328): PRSNT_N is high for REMOVE_FILTER_NS, so the gate discharges fast and SLOT_REMOVED is reported. -/
def execRemoved (ch : PortId) (m : SlotSample) (s : State) : Host.Outcome State Fault Refusal :=
  act (fun s => s.slotRemoved ch.val m) s

/-- PG_ASSERT (R327): The power-good conditions hold for PG_FILTER_US, PG asserts and the channel goes ON. -/
def execPgAssert (ch : PortId) (m : SlotSample) (s : State) : Host.Outcome State Fault Refusal :=
  act (fun s => s.pgAssert ch.val m) s

/-- PG_DEASSERT (R327): VOUT stays below 90 % of VIN, or GATE_OK stays clear, for 2 ticks, and PG deasserts. -/
def execPgDeassert (ch : PortId) (m : SlotSample) (s : State) : Host.Outcome State Fault Refusal :=
  act (fun s => s.pgDeassert ch.val m) s

/-- SHORT_IN_RAMP (R321): The fault timer reaches RAMP_FAULT_US in RAMP and the channel trips. -/
def execShortInRamp (ch : PortId) (m : SlotSample) (s : State) : Host.Outcome State Fault Refusal :=
  act (fun s => s.slotShort ch.val m) s

/-- CURRENT_LIMIT (R321): The fault timer reaches ON_FAULT_US in ON and the channel trips. -/
def execCurrentLimit (ch : PortId) (m : SlotSample) (s : State) : Host.Outcome State Fault Refusal :=
  act (fun s => s.slotLimit ch.val m) s

/-- RAMP_TIMEOUT (R321): RAMP does not reach PG within RAMP_TIMEOUT_MS and the channel trips. -/
def execRampTimeout (ch : PortId) (m : SlotSample) (s : State) : Host.Outcome State Fault Refusal :=
  act (fun s => s.slotRampTimeout ch.val m) s

/-- BREAKER (R323): A breaker point's counter reaches its limit and the channel trips. -/
def execBreaker (ch : PortId) (point : Fin 8) (m : SlotSample) (s : State) : Host.Outcome State Fault Refusal :=
  act (fun s => s.slotBreaker ch.val point.val m) s

/-- FAST_TRIP (R323): The shunt current crosses FAST_TRIP_MA and the gate is pulled off within 300 ns. -/
def execFastTrip (ch : PortId) (m : SlotSample) (s : State) : Host.Outcome State Fault Refusal :=
  act (fun s => s.slotFast ch.val m) s

/-- UNDERVOLTAGE (R324): VIN stays below VIN_UV_MV for 50 ticks and the channel trips. -/
def execUndervoltage (ch : PortId) (m : SlotSample) (s : State) : Host.Outcome State Fault Refusal :=
  act (fun s => s.slotUnder ch.val m) s

/-- OVERVOLTAGE (R324): VIN stays above VIN_OV_MV for 2 ticks and the channel trips. -/
def execOvervoltage (ch : PortId) (m : SlotSample) (s : State) : Host.Outcome State Fault Refusal :=
  act (fun s => s.slotOver ch.val m) s

/-- CHANNEL_FAULT (R324): An ADC code is out of range, or GATE_OK disagrees with the drive, and the channel trips. -/
def execChannelFault (ch : PortId) (m : SlotSample) (s : State) : Host.Outcome State Fault Refusal :=
  act (fun s => s.slotChannelFault ch.val m) s

/-- COOLDOWN_END (R326): The cool-down ends and the channel ramps again or returns to SEATED. -/
def execCooldownEnd (ch : PortId) (m : SlotSample) (s : State) : Host.Outcome State Fault Refusal :=
  act (fun s => s.cooldownEnd ch.val m) s

/-- PERST_LEAD (R318): PERST_LEAD_US after a power-off the gate turns off and the channel is SEATED. -/
def execPerstLead (ch : PortId) (s : State) : Host.Outcome State Fault Refusal :=
  act (fun s => s.perstLead ch.val) s

/-- RETRY_COUNT_RESET (R326): PG holds for 1 s and RETRY_COUNT returns to 0. -/
def execRetryCountReset (ch : PortId) (s : State) : Host.Outcome State Fault Refusal :=
  act (fun s => s.retryReset ch.val) s

/-- VIN_WITHIN_WINDOW (R318): A SEATED channel with REQ = 1 starts its ramp when its 12 V input returns into
[VIN_UV_MV, VIN_OV_MV]. -/
def execVinWithinWindow (ch : PortId) (m : SlotSample) (s : State) : Host.Outcome State Fault Refusal :=
  act (fun s => (s.sampleSlot ch.val m).settleSlot ch.val) s

end Sys2Proof.Machine
end

