-- ==== Sys2Proof/Machine/ExecStore.lean ====
section
/-! DEFINITION. The meanings of the directory store and integrity events (spec/06). -/

namespace Sys2Proof.Machine

/-- LIVE_LOG_DRAIN (R403): Bolroth drains live-log records into the live fields of the current image. -/
def execLiveLogDrain (records : Nat) (s : State) : Host.Outcome State Fault Refusal :=
  act (fun s => s.drainLive records) s

/-- CHANNEL_RETIRED (R132): A GDDR6 channel is retired after a fourth write failure, a failed retrain or the
correction limit, and its pair serves from the survivor. -/
def execChannelRetired (c : ChannelId) (cause : RetireCause) (s : State) : Host.Outcome State Fault Refusal :=
  act (fun s => s.retireFor c.val cause) s

/-- RELOCATION_DONE (R133): Relocation of a pair to the reserve finishes copying and is logged. -/
def execRelocationDone (s : State) : Host.Outcome State Fault Refusal :=
  act (fun s => s.relocationDone) s

/-- PATROL (R130): The patrol period expires and a scrub pass over the whole directory starts. -/
def execPatrol (s : State) : Host.Outcome State Fault Refusal :=
  act (fun s => s.patrol) s

/-- CANDIDATE_SWEEP (R127): A sweep starts rebuilds for the candidate lines of an unknown-TAG way. -/
def execCandidateSweep (set : BitVec 26) (way : Fin 16) (s : State) : Host.Outcome State Fault Refusal :=
  act (fun s => s.startSweep set.toNat way.val) s

/-- SWEEP_DONE (R128): Once the sweep's rebuilds end, the way is written INVALID and SWEEP_DONE is logged. -/
def execSweepDone (set : BitVec 26) (way : Fin 16) (s : State) : Host.Outcome State Fault Refusal :=
  act (fun s => s.sweepDone set.toNat way.val) s

/-- PARITY_FAILURE (R135): An on-die SRAM parity failure is handled per memory and counted. -/
def execParityFailure (m : ParityMem) (s : State) : Host.Outcome State Fault Refusal :=
  act (fun s => s.parityFailure m) s

/-- PARITY_REPAIR (R135): Within 10 ms Bolroth rewrites a damaged table entry from the current image. -/
def execParityRepair (m : ParityMem) (s : State) : Host.Outcome State Fault Refusal :=
  act (fun s => s.parityRepair m) s

end Sys2Proof.Machine
end

