-- ==== Sys2Proof/Machine/ExecSystem.lean ====
section
/-! DEFINITION. The meanings of the resets, modes, pins and time events (spec/18, spec/21). -/

namespace Sys2Proof.Machine

/-- POWER_ON (R393): The core and auxiliary rails rise and the CY640 enters RESET with reset kind POWER_ON. -/
def execPowerOn (s : State) : Host.Outcome State Fault Refusal :=
  act (fun s => s.powerOn) s

/-- COLD_PIN (R393): COLD_RESET_N is held low for at least 10 µs, which causes a cold reset. -/
def execColdPin (s : State) : Host.Outcome State Fault Refusal :=
  act (fun s => s.coldPin) s

/-- WARM_PIN (R393): WARM_RESET_N is held low for at least 1 µs while COLD_RESET_N is high, which causes a warm reset
and freezes the Brittle log. -/
def execWarmPin (s : State) : Host.Outcome State Fault Refusal :=
  act (fun s => s.warmPin) s

/-- RAIL_FAULT (R396): A rail stays below its power-good threshold for 2 µs, which causes a cold reset and sets
LAST_FAULT. -/
def execRailFault (r : Rail) (s : State) : Host.Outcome State Fault Refusal :=
  act (fun s => s.railFault r) s

/-- RESET_RELEASE (R394): 1 ms after the pins are high, the rails are good and the cause has cleared, the CY640 leaves
RESET and starts PREPARE. -/
def execResetRelease (r : PrepareReport) (s : State) : Host.Outcome State Fault Refusal :=
  act (fun s => s.release r) s

/-- RELEASED (R397): Once steps 2 to 7 are done, step 8 writes the lock table and loads the keys, and step 9 releases
both pairs to BOOTING and enables the checkers. -/
def execReleased (s : State) : Host.Outcome State Fault Refusal :=
  act (fun s => s.releasePairs) s

/-- CONTROL_PARITY (R411): A parity failure in state that has no per-entry recovery sends the CY640 to SAFE, which
refuses requests, ends transactions, freezes the log and asserts SAFE_N. -/
def execControlParity (s : State) : Host.Outcome State Fault Refusal :=
  act (fun s => s.controlParity) s

/-- THERMAL (R410): Tj stays at or above 110 °C for 1 ms, and the CY640 enters SAFE with cause THERMAL. -/
def execThermal (tj : Byte) (sensor : Fin 28) (s : State) : Host.Outcome State Fault Refusal :=
  act (fun s => s.thermal tj sensor) s

/-- THERMTRIP (R456): Tj stays at or above 125 °C for 10 µs, so THERMTRIP latches, THERMTRIP_N is asserted and the
CY640 is held in RESET. -/
def execThermtrip (tj : Byte) (sensor : Fin 28) (s : State) : Host.Outcome State Fault Refusal :=
  act (fun s => s.thermtrip tj sensor) s

/-- THERM_WARN (R456): Tj crosses 100 °C upward or 98 °C downward, which asserts or releases THERM_WARN_N. -/
def execThermWarn (tj : Byte) (sensor : Fin 28) (s : State) : Host.Outcome State Fault Refusal :=
  act (fun s => s.thermWarn tj sensor) s

/-- DEBUG_DISABLE_N (R352): A low pulse of at least 1 µs on DEBUG_DISABLE_N ends debug and withdraws the request line
of the debug bridge. -/
def execDebugDisableN (s : State) : Host.Outcome State Fault Refusal :=
  quiet (fun s => s.endDebug) s

/-- TIME_IN_EDGE (R463): A rising edge of the 1 PPS input is timestamped and sets presence, aligns fabric time, steers
it or sets lock. -/
def execTimeInEdge (s : State) : Host.Outcome State Fault Refusal :=
  act (fun s => s.timeInEdge) s

/-- TIME_IN_LOST (R463): No TIME_IN edge arrives for 2 s, so PPS_PRESENT and PPS_LOCKED clear. -/
def execTimeInLost (s : State) : Host.Outcome State Fault Refusal :=
  act (fun s => s.timeInLost) s

/-- DIE_LINK_FAILURE (R406): A die-to-die link fails beyond repair and the die's unit is retired. -/
def execDieLinkFailure (link : Fin 6) (s : State) : Host.Outcome State Fault Refusal :=
  act (fun s => s.dieLinkFailure link.val) s

/-- D2D_LANE_REPAIR (R465): A die-to-die lane over its error threshold is repaired by a module retrain. -/
def execD2dLaneRepair (link : Fin 6) (spareLeft : Bool) (s : State) : Host.Outcome State Fault Refusal :=
  quiet (fun s => s.d2dLaneRepair link.val spareLeft) s

/-- PPS_OUT (R463): Each time fabric time crosses a multiple of 10^9 ns, a 1 µs high pulse is sent on PPS_OUT. -/
def execPpsOut (s : State) : Host.Outcome State Fault Refusal :=
  quiet (fun s => s.ppsOut) s

/-- PPS_MISSED (R463): An expected TIME_IN edge does not arrive, and PPS_MISSED is incremented. -/
def execPpsMissed (s : State) : Host.Outcome State Fault Refusal :=
  plain (fun s => s.ppsMissed) s

end Sys2Proof.Machine
end

