-- ==== Sys2Proof/Machine/ExecTrunk.lean ====
section
/-! DEFINITION. The meanings of the trunk events: bring-up (spec/12) and the link layer (spec/13). -/

namespace Sys2Proof.Machine

/-- LANE_LOCKED (R257): A receive lane sees 4,096 consecutive error-free PRBS31 bits and locks, and MEASURE starts
when all nine are locked. -/
def execLaneLocked (t : TrunkId) (lane : Fin 9) (s : State) : Host.Outcome State Fault Refusal :=
  act (fun s => s.laneLocked t.val lane.val) s

/-- LOCK_TIMEOUT (R257): LOCK_TIMEOUT expires, and the trunk goes to MEASURE or fails the attempt with NO_LOCK. -/
def execLockTimeout (t : TrunkId) (s : State) : Host.Outcome State Fault Refusal :=
  act (fun s => s.lockTimeout t.val) s

/-- MEAS_WINDOW (R258): The measurement window ends, and the receiver sets its SKIP or fails the attempt with
LANES_SHORT. -/
def execMeasWindow (t : TrunkId) (errors : List Nat) (kbits : U32) (s : State) : Host.Outcome State Fault Refusal :=
  act (fun s => s.measWindow t.val errors kbits) s

/-- LANE_ANN (R260): A group of LANE_ANN blocks is accepted, and the end re-measures, fails the attempt with
RATE_MODE, or steers and sends START. -/
def execLaneAnn (t : TrunkId) (b : LaneAnnBlock) (s : State) : Host.Outcome State Fault Refusal :=
  act (fun s => s.laneAnnIn t.val b) s

/-- INIT (R262): A received INIT flit is checked, may hold the trunk, sets ACKED, or brings the trunk to ACTIVE and
moves its traffic back. -/
def execInit (t : TrunkId) (f : InitFields) (s : State) : Host.Outcome State Fault Refusal :=
  act (fun s => s.initFlit t.val f) s

/-- INIT_TIMEOUT (R262): The trunk does not reach ACTIVE within INIT_TIMEOUT, and the attempt fails. -/
def execInitTimeout (t : TrunkId) (s : State) : Host.Outcome State Fault Refusal :=
  act (fun s => s.initTimeout t.val) s

/-- RETRY_DELAY (R257): RETRY_DELAY expires after a failed attempt or a hold, and bring-up starts again from LOCK. -/
def execRetryDelay (t : TrunkId) (s : State) : Host.Outcome State Fault Refusal :=
  act (fun s => s.retryDelay t.val) s

/-- GOOD_CRC_TIMEOUT (R263): No flit with a good CRC arrives for 1 µs, so the trunk leaves ACTIVE and fails over. -/
def execGoodCrcTimeout (t : TrunkId) (s : State) : Host.Outcome State Fault Refusal :=
  act (fun s => s.trunkSilent t.val) s

/-- SYNC_PATTERN_SEEN (R263): A SYNC pattern or PRBS31 is seen on at least 5 lanes, and the trunk leaves ACTIVE. -/
def execSyncPatternSeen (t : TrunkId) (s : State) : Host.Outcome State Fault Refusal :=
  act (fun s => s.leaveActive t.val 0x11) s

/-- FAILOVER_WAIT (R296): No FAILOVER report arrives within FAILOVER_WAIT, so the replay buffer is discarded and the
waiting transactions take ERROR. -/
def execFailoverWait (t : TrunkId) (s : State) : Host.Outcome State Fault Refusal :=
  act (fun s => s.failoverWait t.val) s

/-- FILLER (R255): A FILLER flit arrives and is discarded or kept by the elastic buffer. -/
def execFiller (_t : TrunkId) (s : State) : Host.Outcome State Fault Refusal :=
  plain (fun s => s) s

/-- IDLE (R273): An IDLE flit arrives and its acknowledgement, NAK and credit fields are applied. -/
def execIdle (t : TrunkId) (hd : FlitHdr) (s : State) : Host.Outcome State Fault Refusal :=
  act (fun s => s.flitIn t.val hd true false id) s

/-- PAYLOAD (R281): A sequenced PAYLOAD flit is accepted with a credit check and its messages are written, or it is
dropped as a duplicate, or it is discarded with a NAK. -/
def execPayload (t : TrunkId) (hd : FlitHdr) (msgs : List (MsgClass × Msg)) (s : State) : Host.Outcome State Fault
    Refusal :=
  act (fun s => s.flitIn t.val hd true true fun s => s.payloadBody t.val msgs) s

/-- LANE_CTL (R269): A received SWITCH_READY makes the far transmitter steer to the new SKIP. -/
def execLaneCtl (t : TrunkId) (hd : FlitHdr) (newSkip : BitVec 4) (s : State) : Host.Outcome State Fault Refusal :=
  act (fun s => s.flitIn t.val hd true true fun s => s.laneCtlBody t.val newSkip.toNat) s

/-- TIME (R302): A TIME request is answered, or a response yields θ and the delay and steers fabric time. -/
def execTime (t : TrunkId) (hd : FlitHdr) (f : TimeFields) (s : State) : Host.Outcome State Fault Refusal :=
  act (fun s => s.flitIn t.val hd true false fun s => s.timeBody t.val f) s

/-- AUDIT (R291): A received LINK_CTL AUDIT is used to compute the credit mismatches, leaks and resynchronisation
needs. -/
def execAudit (t : TrunkId) (hd : FlitHdr) (used : List U16) (s : State) : Host.Outcome State Fault Refusal :=
  act (fun s => s.flitIn t.val hd true true fun s => s.auditBody t.val used) s

/-- FAILOVER (R295): A received FAILOVER report makes the sender resend the messages of X's replay buffer that follow
LAST_SEQ on Y. -/
def execFailover (t : TrunkId) (hd : FlitHdr) (lastSeq : BitVec 12) (any : Bool) (s : State) : Host.Outcome State
    Fault Refusal :=
  act (fun s => s.flitIn t.val hd true true fun s => s.failoverBody t.val lastSeq any) s

/-- RESYNC_REQ (R293): A received RESYNC_REQ moves the trunk's traffic to the partner for a link-layer
resynchronisation. -/
def execResyncReq (t : TrunkId) (hd : FlitHdr) (_reason : Byte) (s : State) : Host.Outcome State Fault Refusal :=
  act (fun s => s.flitIn t.val hd true true fun s => s.resyncBody t.val) s

/-- LL_TYPE_RESERVED (R273): A flit of a reserved type is discarded and counted. -/
def execLlTypeReserved (t : TrunkId) (s : State) : Host.Outcome State Fault Refusal :=
  plain (fun s => s.reservedFlit t.val) s

/-- ACK_TIMER (R282): The ACK_TIMER expires and an acknowledgement becomes due. -/
def execAckTimer (t : TrunkId) (s : State) : Host.Outcome State Fault Refusal :=
  act (fun s => s.ackTimer t.val) s

/-- REPLAY_TIMER (R284): The REPLAY_TIMER expires, and the sender starts a replay pass or fails the trunk at
REPLAY_LIMIT. -/
def execReplayTimer (t : TrunkId) (s : State) : Host.Outcome State Fault Refusal :=
  act (fun s => s.replayTimer t.val) s

/-- AUDIT_PERIOD (R291): Every 1 ms each end sends a LINK_CTL AUDIT with its USED values. -/
def execAuditPeriod (s : State) : Host.Outcome State Fault Refusal :=
  act (fun s => s.auditPeriod) s

/-- TIME_PERIOD (R302): Every TIME_PERIOD each end sends a TIME REQUEST on each ACTIVE trunk. -/
def execTimePeriod (t : TrunkId) (s : State) : Host.Outcome State Fault Refusal :=
  act (fun s => s.timePeriod t.val) s

/-- QUALITY_INTERVAL (R268): A quality interval ends, the lane blocks are updated and a lane may become due for
sparing. -/
def execQualityInterval (t : TrunkId) (corrected : List Nat) (joined : Option (Fin 9 × U32)) (kbits : U32) (s : State) :
    Host.Outcome State Fault Refusal :=
  act (fun s => s.qualityInterval t.val corrected joined kbits) s

/-- LANE_LOCK_LOSS (R268): A receive lane loses lock and is spared at once, or a second lane lost brings the trunk
down. -/
def execLaneLockLoss (t : TrunkId) (lane : Fin 9) (s : State) : Host.Outcome State Fault Refusal :=
  act (fun s => s.laneLost t.val lane.val) s

end Sys2Proof.Machine
end

