-- ==== Sys2Proof/Machine/ExecVendor.lean ====
section
/-! DEFINITION. The meanings of the vendor commands of R370. -/

namespace Sys2Proof.Machine

/-- TENANT_GET (R370): The command returns a tenant entry and a page of its queue pairs. -/
def execTenantGet (h : CmdHdr) (tenant : U16) (first : U16) (s : State) : Host.Outcome State Fault Refusal :=
  plain (fun s => s.cmdTenantGet (.tenantGet h tenant first) h tenant first) s

/-- QUEUE_ENABLE (R183): The command enables a DISABLED queue pair: it increments QP_GEN, clears HEAD and CQ_NEXT, and
writes the head word. -/
def execQueueEnable (h : CmdHdr) (q : QueueSetup) (s : State) : Host.Outcome State Fault Refusal :=
  act (fun s => s.cmdQueueEnable (.queueEnable h q) h q) s

/-- QUEUE_RESET (R196): The command stops a queue, aborts its jobs, writes its completions and re-enables it with a
new QP_GEN. -/
def execQueueReset (h : CmdHdr) (qp : U16) (tail : HostRead U32) (s : State) : Host.Outcome State Fault Refusal :=
  act (fun s => s.cmdQueueReset (.queueReset h qp tail) h qp tail) s

/-- QUEUE_SHUTDOWN (R197): The command stops a queue as a reset does and leaves it DISABLED. -/
def execQueueShutdown (h : CmdHdr) (qp : U16) (tail : HostRead U32) (s : State) : Host.Outcome State Fault Refusal :=
  act (fun s => s.cmdQueueShutdown (.queueShutdown h qp tail) h qp tail) s

/-- QUEUE_STATUS (R370): The command returns the 64 B queue pair context. -/
def execQueueStatus (h : CmdHdr) (qp : U16) (s : State) : Host.Outcome State Fault Refusal :=
  plain (fun s => s.cmdQueueStatus (.queueStatus h qp) h qp) s

/-- TENANT_QUIESCE (R197): The command shuts down every queue pair of a tenant. -/
def execTenantQuiesce (h : CmdHdr) (tenant : U16) (tails : List (U16 × U32)) (s : State) : Host.Outcome State Fault
    Refusal :=
  act (fun s => s.cmdTenantQuiesce (.tenantQuiesce h tenant tails) h tenant tails) s

/-- TILE_ENTRY_GET (R370): The command returns a home tile map entry, with its migration slot entry if it is
MIGRATING. -/
def execTileEntryGet (h : CmdHdr) (tile : U32) (s : State) : Host.Outcome State Fault Refusal :=
  plain (fun s => s.cmdTileEntryGet (.tileEntryGet h tile) h tile) s

/-- MIG_SLOT_GET (R370): The command returns a migration slot entry. -/
def execMigSlotGet (h : CmdHdr) (slot : U16) (s : State) : Host.Outcome State Fault Refusal :=
  plain (fun s => s.cmdMigSlotGet (.migSlotGet h slot) h slot) s

/-- TILE_MOVED_RELEASE (R217): The command releases a cross-home MOVED entry, which goes to ZEROING and then FREE, or
to LOST. -/
def execTileMovedRelease (h : CmdHdr) (tile : U32) (s : State) : Host.Outcome State Fault Refusal :=
  act (fun s => s.cmdTileMovedRelease (.tileMovedRelease h tile) h tile) s

/-- SLOT_POWER_ON (R329): The command sets FM_ON of a slot channel. -/
def execSlotPowerOn (h : CmdHdr) (ch : PortId) (s : State) : Host.Outcome State Fault Refusal :=
  act (fun s => s.cmdSlotPowerOn (.slotPowerOn h ch) h ch.val) s

/-- SLOT_POWER_OFF (R329): The command clears FM_ON, with or without FORCE, subject to R243. -/
def execSlotPowerOff (h : CmdHdr) (ch : PortId) (force : Bool) (s : State) : Host.Outcome State Fault Refusal :=
  act (fun s => s.cmdSlotPowerOff (.slotPowerOff h ch force) h ch.val force) s

/-- SLOT_CLEAR_FAULT (R329): The command moves a LATCHED channel to SEATED and clears RETRY_COUNT. -/
def execSlotClearFault (h : CmdHdr) (ch : PortId) (s : State) : Host.Outcome State Fault Refusal :=
  act (fun s => s.cmdSlotClearFault (.slotClearFault h ch) h ch.val) s

/-- SLOT_GET_STATUS (R329): The command returns a channel's status, measurement, energy and fault registers. -/
def execSlotGetStatus (h : CmdHdr) (ch : PortId) (s : State) : Host.Outcome State Fault Refusal :=
  plain (fun s => s.cmdSlotGetStatus (.slotGetStatus h ch) h ch.val) s

/-- COUNTER_READ (R420): The command returns a counter block, bandwidth record, focus record, meter state or snapshot
piece. -/
def execCounterRead (h : CmdHdr) (kind : Byte) (block : U16) (s : State) : Host.Outcome State Fault Refusal :=
  plain (fun s => s.cmdCounterRead (.counterRead h kind block) h kind block) s

/-- SCRUB_DIR (R130): The command runs a scrub pass over a range of directory entries and returns its summary. -/
def execScrubDir (h : CmdHdr) (first : U32) (count : U32) (s : State) : Host.Outcome State Fault Refusal :=
  act (fun s => s.cmdScrubDir (.scrubDir h first count) h first count) s

/-- CHANNEL_RETIRE (R132): The fabric manager orders a GDDR6 channel retired. -/
def execChannelRetire (h : CmdHdr) (c : ChannelId) (s : State) : Host.Outcome State Fault Refusal :=
  act (fun s => s.cmdChannelRetire (.channelRetire h c) h c.val) s

/-- LOG_READ (R426): The command returns Brittle log entries by ring index. -/
def execLogRead (h : CmdHdr) (first : U32) (count : Byte) (s : State) : Host.Outcome State Fault Refusal :=
  plain (fun s => s.cmdLogRead (.logRead h first count) h first count) s

/-- LOG_FREEZE (R427): The command freezes the Brittle log at once and archives it. -/
def execLogFreeze (h : CmdHdr) (s : State) : Host.Outcome State Fault Refusal :=
  act (fun s => s.cmdLogFreeze (.logFreeze h) h) s

/-- ARCHIVE_READ (R370): The command returns bytes of an archive slot. -/
def execArchiveRead (h : CmdHdr) (slot : Byte) (off : U32) (len : U16) (s : State) : Host.Outcome State Fault
    Refusal :=
  plain (fun s => s.cmdArchiveRead (.archiveRead h slot off len) h slot off len) s

/-- MODE_GET (R370): The command returns MGMT_STATUS. -/
def execModeGet (h : CmdHdr) (s : State) : Host.Outcome State Fault Refusal :=
  plain (fun s => s.cmdModeGet (.modeGet h) h) s

/-- SERVICE_START (R401): The mode becomes SERVICE or DEGRADED, trunks start bring-up and pool members start training.
-/
def execServiceStart (h : CmdHdr) (s : State) : Host.Outcome State Fault Refusal :=
  act (fun s => s.cmdServiceStart (.serviceStart h) h) s

/-- HANDOVER (R343): The command starts a planned handover to a STANDBY_READY pair. -/
def execHandover (h : CmdHdr) (s : State) : Host.Outcome State Fault Refusal :=
  act (fun s => s.cmdHandover (.handover h) h) s

/-- PAIR_RESET (R345): The command resets a non-active pair to boot from a named slot; the gateway serves it in
hardware while no pair is ACTIVE. -/
def execPairReset (h : CmdHdr) (p : Pair) (slot : Bool) (s : State) : Host.Outcome State Fault Refusal :=
  act (fun s => s.cmdPairReset (.pairReset h p slot) h p slot) s

end Sys2Proof.Machine
end

