-- ==== Sys2Proof/Machine/ExecWork.lean ====
section
/-! DEFINITION. The meanings of the work-queue, job and migration events (spec/09, spec/10). -/

namespace Sys2Proof.Machine

/-- SQ_DOORBELL (R185): A write to SQ_DOORBELL sets DB_PENDING, or is counted in DB_IGNORED if the queue is not
ENABLED. -/
def execSqDoorbell (p : PortId) (page : BitVec 12) (s : State) : Host.Outcome State Fault Refusal :=
  act (fun s => s.sqDoorbell p.val page.toNat) s

/-- CQ_DOORBELL (R185): A write to CQ_DOORBELL makes a stalled engine re-read OWN. -/
def execCqDoorbell (p : PortId) (page : BitVec 12) (_value : U32) (s : State) : Host.Outcome State Fault Refusal :=
  act (fun s => s.cqDoorbell p.val page.toNat) s

/-- DESCRIPTOR_FETCH (R187): The engine reads the tail word and fetches and checks descriptors for an ENABLED queue
with DB_PENDING = 1. -/
def execDescriptorFetch (qp : BitVec 12) (tail : HostRead U32) (descs : HostRead (List (BitVec 512))) (s : State) :
    Host.Outcome State Fault Refusal :=
  act (fun s => s.descriptorFetch qp.toNat tail descs) s

/-- COMPLETION_WRITE (R192): The engine writes a completion entry once OWN reads 0, then increments CQ_NEXT and may
send MSI-X. -/
def execCompletionWrite (qp : BitVec 12) (own : HostRead (List Bool)) (writeOk : Bool) (s : State) : Host.Outcome
    State Fault Refusal :=
  act (fun s => s.completionWrite qp.toNat own writeOk) s

/-- OWN_REREAD (R192): Every 8 µs a stalled engine re-reads OWN. -/
def execOwnReread (qp : BitVec 12) (late : U32) (s : State) : Host.Outcome State Fault Refusal :=
  act (fun s => s.ownTimer qp.toNat late.toNat) s

/-- NOP (R190): A NOP descriptor starts and completes with SUCCESS. -/
def execNop (qp : BitVec 12) (s : State) : Host.Outcome State Fault Refusal :=
  act (fun s => s.startJob qp.toNat 0) s

/-- COPY_TILE (R212): A copy job starts: it checks its entries, sets the subject MIGRATING and runs pass 1. -/
def execCopyTile (qp : BitVec 12) (s : State) : Host.Outcome State Fault Refusal :=
  act (fun s => s.startJob qp.toNat 1) s

/-- ZERO_TILE (R209): A zero job writes every line of a FREE or LOST tile and then sets it FREE, or ACTIVE with
poison. -/
def execZeroTile (qp : BitVec 12) (s : State) : Host.Outcome State Fault Refusal :=
  act (fun s => s.startJob qp.toNat 2) s

/-- MIRROR_ATTACH (R219): A job copies the primary to a donor and switches over to set the mirror, if the mirrored-
tile set is in force. -/
def execMirrorAttach (qp : BitVec 12) (s : State) : Host.Outcome State Fault Refusal :=
  act (fun s => s.startJob qp.toNat 3) s

/-- MIRROR_SPLIT (R209): A job drops one copy of a mirrored tile in one atomic write of each entry. -/
def execMirrorSplit (qp : BitVec 12) (s : State) : Host.Outcome State Fault Refusal :=
  act (fun s => s.startJob qp.toNat 4) s

/-- VERIFY_TILE (R220): A job checks a tile's lines over several passes and may repair the mirror. -/
def execVerifyTile (qp : BitVec 12) (s : State) : Host.Outcome State Fault Refusal :=
  act (fun s => s.startJob qp.toNat 5) s

/-- SCRUB_DIR_JOB (R203): A SCRUB_DIR descriptor runs a scrub pass on the scrub sequencer. -/
def execScrubDirJob (qp : BitVec 12) (s : State) : Host.Outcome State Fault Refusal :=
  act (fun s => s.scrubJob qp.toNat) s

/-- SWEEP_AND_COPY (R212): A pass ends: the bitmap is swept, the old phase drained and the marked lines copied,
leading to the next pass, switchover or NOT_CONVERGED. -/
def execSweepAndCopy (slot : BitVec 10) (s : State) : Host.Outcome State Fault Refusal :=
  act (fun s => s.sweepAndCopy slot.toNat) s

/-- SWITCHOVER (R214): The switchover holds writes, makes a final sweep, flips the entries and queues the completion.
-/
def execSwitchover (slot : BitVec 10) (s : State) : Host.Outcome State Fault Refusal :=
  act (fun s => s.switchover slot.toNat) s

/-- HOLD_EXPIRY (R214): The switchover hold reaches 20 µs, ends without a flip and counts as a pass. -/
def execHoldExpiry (slot : BitVec 10) (s : State) : Host.Outcome State Fault Refusal :=
  act (fun s => s.holdExpiry slot.toNat) s

/-- NO_CACHE (R216): After the VICTIM_EVICTs of a cross-home shared tile end, the tile has no directory entry and the
passes resume. -/
def execNoCache (slot : BitVec 10) (s : State) : Host.Outcome State Fault Refusal :=
  act (fun s => s.noCacheEnd slot.toNat) s

/-- ZEROING_DONE (R209): Zeroing of a released place ends and its entry becomes FREE. -/
def execZeroingDone (tile : BitVec 19) (s : State) : Host.Outcome State Fault Refusal :=
  act (fun s => s.zeroingDone tile.toNat) s

/-- CXL_IO_COMPLETION_TIMEOUT (R195): A work-queue engine's CXL.io read of a tail word, descriptor or OWN bit reaches
its completion timeout, and the queue halts with HOST_ACCESS_ERROR. -/
def execCxlIoCompletionTimeout (qp : BitVec 12) (what : WqRead) (s : State) : Host.Outcome State Fault Refusal :=
  act (fun s => s.wqTimeout qp.toNat what) s

end Sys2Proof.Machine
end

