-- ==== Sys2Proof/Machine/Dispatch.lean ====
section
/-! DEFINITION. One arm for each command of the table. -/

namespace Sys2Proof.Machine

/-- The effect of a command on everything but the queue. -/
def exec (i : Instr) (s : State) : Host.Outcome State Fault Refusal :=
  match i with
  | .powerOn => Sys2Proof.Machine.execPowerOn s
  | .coldPin => Sys2Proof.Machine.execColdPin s
  | .warmPin => Sys2Proof.Machine.execWarmPin s
  | .railFault r => Sys2Proof.Machine.execRailFault r s
  | .resetRelease r => Sys2Proof.Machine.execResetRelease r s
  | .released => Sys2Proof.Machine.execReleased s
  | .controlParity => Sys2Proof.Machine.execControlParity s
  | .thermal tj sensor => Sys2Proof.Machine.execThermal tj sensor s
  | .thermtrip tj sensor => Sys2Proof.Machine.execThermtrip tj sensor s
  | .thermWarn tj sensor => Sys2Proof.Machine.execThermWarn tj sensor s
  | .debugDisableN => Sys2Proof.Machine.execDebugDisableN s
  | .timeInEdge => Sys2Proof.Machine.execTimeInEdge s
  | .timeInLost => Sys2Proof.Machine.execTimeInLost s
  | .pairBoot p => Sys2Proof.Machine.execPairBoot p s
  | .journalApply p records unreadable => Sys2Proof.Machine.execJournalApply p records unreadable s
  | .standbyStalled => Sys2Proof.Machine.execStandbyStalled s
  | .lockstepMismatch p c => Sys2Proof.Machine.execLockstepMismatch p c s
  | .watchdogExpiry => Sys2Proof.Machine.execWatchdogExpiry s
  | .handoverComplete => Sys2Proof.Machine.execHandoverComplete s
  | .wdtKick p => Sys2Proof.Machine.execWdtKick p s
  | .bootConfirmed => Sys2Proof.Machine.execBootConfirmed s
  | .faultCaptureClear k => Sys2Proof.Machine.execFaultCaptureClear k s
  | .peakClr => Sys2Proof.Machine.execPeakClr s
  | .registerWrite t off bytes data => Sys2Proof.Machine.execRegisterWrite t off bytes data s
  | .crossbarAccess m sp addr write bytes data hold => Sys2Proof.Machine.execCrossbarAccess m sp addr write bytes data hold s
  | .identify h => Sys2Proof.Machine.execIdentify h s
  | .getResponseMessageLimit h => Sys2Proof.Machine.execGetResponseMessageLimit h s
  | .setResponseMessageLimit h limit => Sys2Proof.Machine.execSetResponseMessageLimit h limit s
  | .getEventRecords t log => Sys2Proof.Machine.execGetEventRecords t log s
  | .clearEventRecords t log all count => Sys2Proof.Machine.execClearEventRecords t log all count s
  | .getEventInterruptPolicy t => Sys2Proof.Machine.execGetEventInterruptPolicy t s
  | .setEventInterruptPolicy t policy => Sys2Proof.Machine.execSetEventInterruptPolicy t policy s
  | .getFwInfo h => Sys2Proof.Machine.execGetFwInfo h s
  | .transferFw h slot off bytes => Sys2Proof.Machine.execTransferFw h slot off bytes s
  | .activateFw h => Sys2Proof.Machine.execActivateFw h s
  | .getTimestamp h => Sys2Proof.Machine.execGetTimestamp h s
  | .setTimestamp h t => Sys2Proof.Machine.execSetTimestamp h t s
  | .getSupportedLogs t => Sys2Proof.Machine.execGetSupportedLogs t s
  | .getLog t off len => Sys2Proof.Machine.execGetLog t off len s
  | .identifySwitchDevice h => Sys2Proof.Machine.execIdentifySwitchDevice h s
  | .getPhysicalPortState h ports => Sys2Proof.Machine.execGetPhysicalPortState h ports s
  | .physicalPortControl h p c => Sys2Proof.Machine.execPhysicalPortControl h p c s
  | .sendPpbCxlIoConfigurationRequest h p reg write data answer => Sys2Proof.Machine.execSendPpbCxlIoConfigurationRequest h p reg write data answer s
  | .getVirtualCxlSwitchInfo h vcs => Sys2Proof.Machine.execGetVirtualCxlSwitchInfo h vcs s
  | .bindVppb h vcs vppb p ld => Sys2Proof.Machine.execBindVppb h vcs vppb p ld s
  | .unbindVppb h vcs vppb o => Sys2Proof.Machine.execUnbindVppb h vcs vppb o s
  | .tunnelManagementCommand h p request answer => Sys2Proof.Machine.execTunnelManagementCommand h p request answer s
  | .getLdInfo h p answer => Sys2Proof.Machine.execGetLdInfo h p answer s
  | .getLdAllocations h p answer => Sys2Proof.Machine.execGetLdAllocations h p answer s
  | .setLdAllocations h p alloc answer => Sys2Proof.Machine.execSetLdAllocations h p alloc answer s
  | .getDcdInfo h p => Sys2Proof.Machine.execGetDcdInfo h p s
  | .getHostDcRegionConfiguration h p => Sys2Proof.Machine.execGetHostDcRegionConfiguration h p s
  | .setDcRegionConfiguration h => Sys2Proof.Machine.execSetDcRegionConfiguration h s
  | .getDcRegionExtentLists h p first count => Sys2Proof.Machine.execGetDcRegionExtentLists h p first count s
  | .initiateDcAdd h => Sys2Proof.Machine.execInitiateDcAdd h s
  | .initiateDcRelease h => Sys2Proof.Machine.execInitiateDcRelease h s
  | .identifyMemoryDevice h => Sys2Proof.Machine.execIdentifyMemoryDevice h s
  | .getDynamicCapacityConfiguration h => Sys2Proof.Machine.execGetDynamicCapacityConfiguration h s
  | .getDynamicCapacityExtentList h first count => Sys2Proof.Machine.execGetDynamicCapacityExtentList h first count s
  | .addDynamicCapacityResponse h extents => Sys2Proof.Machine.execAddDynamicCapacityResponse h extents s
  | .releaseDynamicCapacity h extents => Sys2Proof.Machine.execReleaseDynamicCapacity h extents s
  | .configStageWrite h off len bytes => Sys2Proof.Machine.execConfigStageWrite h off len bytes s
  | .configCommit h baseEpoch digest => Sys2Proof.Machine.execConfigCommit h baseEpoch digest s
  | .configConfirm h epoch => Sys2Proof.Machine.execConfigConfirm h epoch s
  | .configRollback h epoch => Sys2Proof.Machine.execConfigRollback h epoch s
  | .configGetState h => Sys2Proof.Machine.execConfigGetState h s
  | .configRead h version off len => Sys2Proof.Machine.execConfigRead h version off len s
  | .gossipGet h => Sys2Proof.Machine.execGossipGet h s
  | .tenantGet h tenant first => Sys2Proof.Machine.execTenantGet h tenant first s
  | .tenantUnbind h tenant baseEpoch => Sys2Proof.Machine.execTenantUnbind h tenant baseEpoch s
  | .tenantRemove h tenant baseEpoch => Sys2Proof.Machine.execTenantRemove h tenant baseEpoch s
  | .queueEnable h q => Sys2Proof.Machine.execQueueEnable h q s
  | .queueReset h qp tail => Sys2Proof.Machine.execQueueReset h qp tail s
  | .queueShutdown h qp tail => Sys2Proof.Machine.execQueueShutdown h qp tail s
  | .queueStatus h qp => Sys2Proof.Machine.execQueueStatus h qp s
  | .tenantQuiesce h tenant tails => Sys2Proof.Machine.execTenantQuiesce h tenant tails s
  | .tileEntryGet h tile => Sys2Proof.Machine.execTileEntryGet h tile s
  | .migSlotGet h slot => Sys2Proof.Machine.execMigSlotGet h slot s
  | .tileMovedRelease h tile => Sys2Proof.Machine.execTileMovedRelease h tile s
  | .slotPowerOn h ch => Sys2Proof.Machine.execSlotPowerOn h ch s
  | .slotPowerOff h ch force => Sys2Proof.Machine.execSlotPowerOff h ch force s
  | .slotClearFault h ch => Sys2Proof.Machine.execSlotClearFault h ch s
  | .slotGetStatus h ch => Sys2Proof.Machine.execSlotGetStatus h ch s
  | .trunkGetStatus h t => Sys2Proof.Machine.execTrunkGetStatus h t s
  | .fabricDiscover h => Sys2Proof.Machine.execFabricDiscover h s
  | .counterRead h kind block => Sys2Proof.Machine.execCounterRead h kind block s
  | .scrubDir h first count => Sys2Proof.Machine.execScrubDir h first count s
  | .channelRetire h c => Sys2Proof.Machine.execChannelRetire h c s
  | .portRetrain h p l => Sys2Proof.Machine.execPortRetrain h p l s
  | .txnRead h idx => Sys2Proof.Machine.execTxnRead h idx s
  | .unresponsiveGet h => Sys2Proof.Machine.execUnresponsiveGet h s
  | .unresponsiveClear h slots ports => Sys2Proof.Machine.execUnresponsiveClear h slots ports s
  | .logRead h first count => Sys2Proof.Machine.execLogRead h first count s
  | .logFreeze h => Sys2Proof.Machine.execLogFreeze h s
  | .archiveRead h slot off len => Sys2Proof.Machine.execArchiveRead h slot off len s
  | .debugEnable h secured tok => Sys2Proof.Machine.execDebugEnable h secured tok s
  | .debugDisable h => Sys2Proof.Machine.execDebugDisable h s
  | .ideKeyRefresh h p => Sys2Proof.Machine.execIdeKeyRefresh h p s
  | .modeGet h => Sys2Proof.Machine.execModeGet h s
  | .serviceStart h => Sys2Proof.Machine.execServiceStart h s
  | .handover h => Sys2Proof.Machine.execHandover h s
  | .pairReset h p slot => Sys2Proof.Machine.execPairReset h p slot s
  | .drain h => Sys2Proof.Machine.execDrain h s
  | .drainCancel h => Sys2Proof.Machine.execDrainCancel h s
  | .getResult h ticket => Sys2Proof.Machine.execGetResult h ticket s
  | .epochFlip => Sys2Proof.Machine.execEpochFlip s
  | .confirmDeadline => Sys2Proof.Machine.execConfirmDeadline s
  | .rollbackFlip => Sys2Proof.Machine.execRollbackFlip s
  | .epochDrained => Sys2Proof.Machine.execEpochDrained s
  | .warmRestore => Sys2Proof.Machine.execWarmRestore s
  | .digest t hd entries => Sys2Proof.Machine.execDigest t hd entries s
  | .digestSend => Sys2Proof.Machine.execDigestSend s
  | .gossipEvaluate => Sys2Proof.Machine.execGossipEvaluate s
  | .laneLocked t lane => Sys2Proof.Machine.execLaneLocked t lane s
  | .lockTimeout t => Sys2Proof.Machine.execLockTimeout t s
  | .measWindow t errors kbits => Sys2Proof.Machine.execMeasWindow t errors kbits s
  | .laneAnn t b => Sys2Proof.Machine.execLaneAnn t b s
  | .init t f => Sys2Proof.Machine.execInit t f s
  | .initTimeout t => Sys2Proof.Machine.execInitTimeout t s
  | .retryDelay t => Sys2Proof.Machine.execRetryDelay t s
  | .goodCrcTimeout t => Sys2Proof.Machine.execGoodCrcTimeout t s
  | .syncPatternSeen t => Sys2Proof.Machine.execSyncPatternSeen t s
  | .failoverWait t => Sys2Proof.Machine.execFailoverWait t s
  | .filler t => Sys2Proof.Machine.execFiller t s
  | .idle t hd => Sys2Proof.Machine.execIdle t hd s
  | .payload t hd msgs => Sys2Proof.Machine.execPayload t hd msgs s
  | .laneCtl t hd newSkip => Sys2Proof.Machine.execLaneCtl t hd newSkip s
  | .time t hd f => Sys2Proof.Machine.execTime t hd f s
  | .audit t hd used => Sys2Proof.Machine.execAudit t hd used s
  | .failover t hd lastSeq any => Sys2Proof.Machine.execFailover t hd lastSeq any s
  | .resyncReq t hd reason => Sys2Proof.Machine.execResyncReq t hd reason s
  | .llTypeReserved t => Sys2Proof.Machine.execLlTypeReserved t s
  | .ackTimer t => Sys2Proof.Machine.execAckTimer t s
  | .replayTimer t => Sys2Proof.Machine.execReplayTimer t s
  | .auditPeriod => Sys2Proof.Machine.execAuditPeriod s
  | .timePeriod t => Sys2Proof.Machine.execTimePeriod t s
  | .qualityInterval t corrected joined kbits => Sys2Proof.Machine.execQualityInterval t corrected joined kbits s
  | .laneLockLoss t lane => Sys2Proof.Machine.execLaneLockLoss t lane s
  | .egressPick x credits fault => Sys2Proof.Machine.execEgressPick x credits fault s
  | .gateBoundary x => Sys2Proof.Machine.execGateBoundary x s
  | .meterRefresh => Sys2Proof.Machine.execMeterRefresh s
  | .hazelPass => Sys2Proof.Machine.execHazelPass s
  | .dlUp p l => Sys2Proof.Machine.execDlUp p l s
  | .linkDown p c => Sys2Proof.Machine.execLinkDown p c s
  | .laneFailure p lane => Sys2Proof.Machine.execLaneFailure p lane s
  | .l0pRequest p width => Sys2Proof.Machine.execL0pRequest p width s
  | .hotReset p => Sys2Proof.Machine.execHotReset p s
  | .perstDelay p => Sys2Proof.Machine.execPerstDelay p s
  | .linkUpTimeout p => Sys2Proof.Machine.execLinkUpTimeout p s
  | .memberSetup p m => Sys2Proof.Machine.execMemberSetup p m s
  | .hostPortStart => Sys2Proof.Machine.execHostPortStart s
  | .dpcTrigger p c => Sys2Proof.Machine.execDpcTrigger p c s
  | .dpcClear p => Sys2Proof.Machine.execDpcClear p s
  | .ideFail p pcie => Sys2Proof.Machine.execIdeFail p pcie s
  | .viral p => Sys2Proof.Machine.execViral p s
  | .slotControlWrite p powerOn pwrInd atnInd => Sys2Proof.Machine.execSlotControlWrite p powerOn pwrInd atnInd s
  | .sqDoorbell p page => Sys2Proof.Machine.execSqDoorbell p page s
  | .cqDoorbell p page value => Sys2Proof.Machine.execCqDoorbell p page value s
  | .descriptorFetch qp tail descs => Sys2Proof.Machine.execDescriptorFetch qp tail descs s
  | .completionWrite qp own writeOk => Sys2Proof.Machine.execCompletionWrite qp own writeOk s
  | .ownReread qp late => Sys2Proof.Machine.execOwnReread qp late s
  | .nop qp => Sys2Proof.Machine.execNop qp s
  | .copyTile qp => Sys2Proof.Machine.execCopyTile qp s
  | .zeroTile qp => Sys2Proof.Machine.execZeroTile qp s
  | .mirrorAttach qp => Sys2Proof.Machine.execMirrorAttach qp s
  | .mirrorSplit qp => Sys2Proof.Machine.execMirrorSplit qp s
  | .verifyTile qp => Sys2Proof.Machine.execVerifyTile qp s
  | .scrubDirJob qp => Sys2Proof.Machine.execScrubDirJob qp s
  | .sweepAndCopy slot => Sys2Proof.Machine.execSweepAndCopy slot s
  | .switchover slot => Sys2Proof.Machine.execSwitchover slot s
  | .holdExpiry slot => Sys2Proof.Machine.execHoldExpiry slot s
  | .noCache slot => Sys2Proof.Machine.execNoCache slot s
  | .zeroingDone tile => Sys2Proof.Machine.execZeroingDone tile s
  | .liveLogDrain records => Sys2Proof.Machine.execLiveLogDrain records s
  | .addTimeout p => Sys2Proof.Machine.execAddTimeout p s
  | .mreq o m => Sys2Proof.Machine.execMreq o m s
  | .mwr o m => Sys2Proof.Machine.execMwr o m s
  | .snp o m => Sys2Proof.Machine.execSnp o m s
  | .biconf o m => Sys2Proof.Machine.execBiconf o m s
  | .rsp o m => Sys2Proof.Machine.execRsp o m s
  | .attachedWriteback t m => Sys2Proof.Machine.execAttachedWriteback t m s
  | .cache o m => Sys2Proof.Machine.execCache o m s
  | .io o m => Sys2Proof.Machine.execIo o m s
  | .waitingMessageStart x cls => Sys2Proof.Machine.execWaitingMessageStart x cls s
  | .lifetimeDeadline idx => Sys2Proof.Machine.execLifetimeDeadline idx s
  | .snoopDeadline idx => Sys2Proof.Machine.execSnoopDeadline idx s
  | .channelRetired c cause => Sys2Proof.Machine.execChannelRetired c cause s
  | .relocationDone => Sys2Proof.Machine.execRelocationDone s
  | .patrol => Sys2Proof.Machine.execPatrol s
  | .candidateSweep set way => Sys2Proof.Machine.execCandidateSweep set way s
  | .sweepDone set way => Sys2Proof.Machine.execSweepDone set way s
  | .parityFailure m => Sys2Proof.Machine.execParityFailure m s
  | .parityRepair m => Sys2Proof.Machine.execParityRepair m s
  | .dieLinkFailure link => Sys2Proof.Machine.execDieLinkFailure link s
  | .d2dLaneRepair link spareLeft => Sys2Proof.Machine.execD2dLaneRepair link spareLeft s
  | .prsntNLow ch => Sys2Proof.Machine.execPrsntNLow ch s
  | .seatDebounce ch => Sys2Proof.Machine.execSeatDebounce ch s
  | .removed ch m => Sys2Proof.Machine.execRemoved ch m s
  | .pgAssert ch m => Sys2Proof.Machine.execPgAssert ch m s
  | .pgDeassert ch m => Sys2Proof.Machine.execPgDeassert ch m s
  | .shortInRamp ch m => Sys2Proof.Machine.execShortInRamp ch m s
  | .currentLimit ch m => Sys2Proof.Machine.execCurrentLimit ch m s
  | .rampTimeout ch m => Sys2Proof.Machine.execRampTimeout ch m s
  | .breaker ch point m => Sys2Proof.Machine.execBreaker ch point m s
  | .fastTrip ch m => Sys2Proof.Machine.execFastTrip ch m s
  | .undervoltage ch m => Sys2Proof.Machine.execUndervoltage ch m s
  | .overvoltage ch m => Sys2Proof.Machine.execOvervoltage ch m s
  | .channelFault ch m => Sys2Proof.Machine.execChannelFault ch m s
  | .cooldownEnd ch m => Sys2Proof.Machine.execCooldownEnd ch m s
  | .perstLead ch => Sys2Proof.Machine.execPerstLead ch s
  | .retryCountReset ch => Sys2Proof.Machine.execRetryCountReset ch s
  | .maskableFreeze => Sys2Proof.Machine.execMaskableFreeze s
  | .archiveDone => Sys2Proof.Machine.execArchiveDone s
  | .snapshotPeriod => Sys2Proof.Machine.execSnapshotPeriod s
  | .bandwidthWindow x => Sys2Proof.Machine.execBandwidthWindow x s
  | .telemPeriod => Sys2Proof.Machine.execTelemPeriod s
  | .debugExpiry => Sys2Proof.Machine.execDebugExpiry s
  | .dbgAccess write space hold addr data => Sys2Proof.Machine.execDbgAccess write space hold addr data s
  | .bypass => Sys2Proof.Machine.execBypass s
  | .idcode => Sys2Proof.Machine.execIdcode s
  | .samplePreload => Sys2Proof.Machine.execSamplePreload s
  | .extest => Sys2Proof.Machine.execExtest s
  | .clamp => Sys2Proof.Machine.execClamp s
  | .highz => Sys2Proof.Machine.execHighz s
  | .extestPulse => Sys2Proof.Machine.execExtestPulse s
  | .extestTrain => Sys2Proof.Machine.execExtestTrain s
  | .fuseProg hash => Sys2Proof.Machine.execFuseProg hash s
  | .getVersion s0 => Sys2Proof.Machine.execGetVersion s0 s
  | .getCapabilities s0 => Sys2Proof.Machine.execGetCapabilities s0 s
  | .negotiateAlgorithms s0 => Sys2Proof.Machine.execNegotiateAlgorithms s0 s
  | .getDigests s0 => Sys2Proof.Machine.execGetDigests s0 s
  | .getCertificate s0 slot off len => Sys2Proof.Machine.execGetCertificate s0 slot off len s
  | .challenge s0 slot nonce => Sys2Proof.Machine.execChallenge s0 slot nonce s
  | .getMeasurements s0 index signed => Sys2Proof.Machine.execGetMeasurements s0 index signed s
  | .keyExchange s0 => Sys2Proof.Machine.execKeyExchange s0 s
  | .finish s0 session => Sys2Proof.Machine.execFinish s0 session s
  | .endSession s0 session => Sys2Proof.Machine.execEndSession s0 session s
  | .heartbeat s0 session => Sys2Proof.Machine.execHeartbeat s0 session s
  | .keyUpdate s0 session => Sys2Proof.Machine.execKeyUpdate s0 session s
  | .setCertificate s0 slot chain => Sys2Proof.Machine.execSetCertificate s0 slot chain s
  | .vendorDefinedRequest s0 session m => Sys2Proof.Machine.execVendorDefinedRequest s0 session m s
  | .setEndpointId s0 eid => Sys2Proof.Machine.execSetEndpointId s0 eid s
  | .entdaa k addr => Sys2Proof.Machine.execEntdaa k addr s
  | .rstdaa k => Sys2Proof.Machine.execRstdaa k s
  | .getpid k => Sys2Proof.Machine.execGetpid k s
  | .getbcr k => Sys2Proof.Machine.execGetbcr k s
  | .getdcr k => Sys2Proof.Machine.execGetdcr k s
  | .getstatus k => Sys2Proof.Machine.execGetstatus k s
  | .enec k events => Sys2Proof.Machine.execEnec k events s
  | .disec k events => Sys2Proof.Machine.execDisec k events s
  | .setmwl k len => Sys2Proof.Machine.execSetmwl k len s
  | .getmwl k => Sys2Proof.Machine.execGetmwl k s
  | .setmrl k len => Sys2Proof.Machine.execSetmrl k len s
  | .getmrl k => Sys2Proof.Machine.execGetmrl k s
  | .vinWithinWindow ch m => Sys2Proof.Machine.execVinWithinWindow ch m s
  | .configurationRequestsAllowed p => Sys2Proof.Machine.execConfigurationRequestsAllowed p s
  | .alertIbi k => Sys2Proof.Machine.execAlertIbi k s
  | .ideRefresh => Sys2Proof.Machine.execIdeRefresh s
  | .ppsOut => Sys2Proof.Machine.execPpsOut s
  | .ppsMissed => Sys2Proof.Machine.execPpsMissed s
  | .cxlIoCompletionTimeout qp what => Sys2Proof.Machine.execCxlIoCompletionTimeout qp what s

end Sys2Proof.Machine
end

