-- ==== Sys2Proof/Machine/Tick.lean ====
section
/-! DEFINITION. What happens with the queue empty: Bolroth takes up a deferred command (R365), or the fabric time unit
counts one 250 MHz tick (R462; DESIGN CHOICE, log entry 11). -/

namespace Sys2Proof.Machine

/-- Bolroth takes up a command that waited: it is run again with its ticket. -/
def State.resume (s : State) (r : Running) : State :=
  { s with mgmt.running := s.mgmt.running.filter (·.ticket ≠ r.ticket), mgmt.resuming := some r }

/-- Units of 10⁻⁹ ns that a tick adds: 4 ns with the rate adjustment in ppb, and what earlier ticks left over. -/
def State.tickUnits (s : State) : Nat := (4000000000 + 4 * s.sys.ppb + (s.sys.frac : Int)).toNat

/-- One tick of the fabric time unit, which runs while VDD_CORE is good. -/
def State.idleTick (s : State) : State :=
  if s.sys.railPg.getLsbD 0 then
    let n := s.tickUnits
    let t : State := { s with obs.out := [], sys.frac := n % 1000000000 }
    t.pass (n / 1000000000)
  else { s with obs.out := [] }

end Sys2Proof.Machine
end

