-- ==== Sys2Proof/WellFormed.lean ====
section
/-! DEFINITION. Well-formed commands: the bounds that the spec's formats put on operands that Lean writes as numbers and
lists. -/

namespace Sys2Proof

/-- The header of a management command fits its mailbox or MCTP message: LENGTH has 21 bits (R360). -/
def CmdHdr.wf (h : CmdHdr) : Bool := decide (h.len < 2 ^ 21)

/-- A register access has 1 to 8 bytes (R5). -/
def accessBytesOk (n : Nat) : Bool := decide (1 ≤ n ∧ n ≤ 8)

/-- The header that a management command brings (R358, R360, R364); the events and operations of the block have none. -/
def Instr.hdr? : Instr → Option CmdHdr
  | .identify h | .getResponseMessageLimit h | .setResponseMessageLimit h _ | .getFwInfo h
  | .transferFw h _ _ _ | .activateFw h | .getTimestamp h | .setTimestamp h _ | .identifySwitchDevice h
  | .getPhysicalPortState h _ | .physicalPortControl h _ _ | .sendPpbCxlIoConfigurationRequest h _ _ _ _ _
  | .getVirtualCxlSwitchInfo h _ | .bindVppb h _ _ _ _ | .unbindVppb h _ _ _ | .tunnelManagementCommand h _ _ _
  | .getLdInfo h _ _ | .getLdAllocations h _ _ | .setLdAllocations h _ _ _ | .getDcdInfo h _
  | .getHostDcRegionConfiguration h _ | .setDcRegionConfiguration h | .getDcRegionExtentLists h _ _ _
  | .initiateDcAdd h | .initiateDcRelease h | .configStageWrite h _ _ _ | .configCommit h _ _
  | .configConfirm h _ | .configRollback h _ | .configGetState h | .configRead h _ _ _ | .gossipGet h
  | .tenantGet h _ _ | .tenantUnbind h _ _ | .tenantRemove h _ _ | .queueEnable h _ | .queueReset h _ _
  | .queueShutdown h _ _ | .queueStatus h _ | .tenantQuiesce h _ _ | .tileEntryGet h _ | .migSlotGet h _
  | .tileMovedRelease h _ | .slotPowerOn h _ | .slotPowerOff h _ _ | .slotClearFault h _ | .slotGetStatus h _
  | .trunkGetStatus h _ | .fabricDiscover h | .counterRead h _ _ | .scrubDir h _ _ | .channelRetire h _
  | .portRetrain h _ _ | .txnRead h _ | .unresponsiveGet h | .unresponsiveClear h _ _ | .logRead h _ _
  | .logFreeze h | .archiveRead h _ _ _ | .debugEnable h _ _ | .debugDisable h | .ideKeyRefresh h _
  | .modeGet h | .serviceStart h | .handover h | .pairReset h _ _ | .drain h | .drainCancel h | .getResult h _ => some h
  | .getEventRecords (.mgmt h) _ | .clearEventRecords (.mgmt h) _ _ _ | .getEventInterruptPolicy (.mgmt h)
  | .setEventInterruptPolicy (.mgmt h) _ | .getSupportedLogs (.mgmt h) | .getLog (.mgmt h) _ _ => some h
  | _ => none

/-- The bounds of a command's other operands. -/
def Instr.operandsOk : Instr → Bool
  | .registerWrite _ _ bytes _ => accessBytesOk bytes
  -- a line or a register (R351)
  | .crossbarAccess _ _ _ _ bytes _ _ => decide (1 ≤ bytes ∧ bytes ≤ 64)
  -- the input holds LEN bytes, or none where the command is refused for its length (R370)
  | .configStageWrite _ _ len bytes => bytes.length == len.toNat || bytes.isEmpty
  | .transferFw _ _ _ bytes => decide (bytes.length ≤ 2048)
  | .setResponseMessageLimit _ limit => decide (limit < 2 ^ 16)
  -- nine lanes (R253)
  | .measWindow _ errors _ => errors.length == 9
  | .qualityInterval _ corrected _ _ => corrected.length == 9
  | .laneAnn _ b => decide (b.lanesAgreeing ≤ 9)
  -- eight credit counters (R300)
  | .audit _ _ used => used.length == 8
  | .init _ f => f.credits.isEmpty || f.credits.length == 8
  -- fifteen unit slots, and every message has at least one unit (R275)
  | .payload _ _ msgs => decide (msgs.length ≤ 15)
  -- a DIGEST flit has five entries (R305)
  | .digest _ _ entries => decide (entries.length ≤ 5)
  | _ => true

/-- A well-formed command. -/
def Instr.wf (i : Instr) : Bool := i.operandsOk && i.hdr?.all CmdHdr.wf

end Sys2Proof
end

