-- ==== Sys2Proof/Laws/PerInstr.lean ====
section
/-! SUPPORT. Statements for all commands, one lemma per command. -/

/-- A well-formed command that brings a header has a LENGTH of 21 bits, and its other operands keep their bounds (R360). -/
def Sys2Proof.Laws.Bounds.Statement (i : Sys2Proof.Instr) : Prop :=
  i.wf = true → i.operandsOk = true ∧ ∀ h, i.hdr? = some h → h.len < 2 ^ 21

/-- The bounds that `wf` checks are the statement's, whatever the command. -/
theorem Sys2Proof.Laws.Bounds.of_wf (i : Sys2Proof.Instr) : Sys2Proof.Laws.Bounds.Statement i := by
  intro w
  simp only [Sys2Proof.Instr.wf, Bool.and_eq_true] at w
  refine ⟨w.1, fun h e => ?_⟩
  have := w.2
  rw [e] at this
  exact of_decide_eq_true this

namespace Sys2Proof.Laws

open Sys2Proof

theorem Bounds.powerOn : Bounds.Statement (.powerOn) := Bounds.of_wf _
theorem Bounds.coldPin : Bounds.Statement (.coldPin) := Bounds.of_wf _
theorem Bounds.warmPin : Bounds.Statement (.warmPin) := Bounds.of_wf _
theorem Bounds.railFault (r : Rail) : Bounds.Statement (.railFault r) := Bounds.of_wf _
theorem Bounds.resetRelease (r : PrepareReport) : Bounds.Statement (.resetRelease r) := Bounds.of_wf _
theorem Bounds.released : Bounds.Statement (.released) := Bounds.of_wf _
theorem Bounds.controlParity : Bounds.Statement (.controlParity) := Bounds.of_wf _
theorem Bounds.thermal (tj : Byte) (sensor : Fin 28) : Bounds.Statement (.thermal tj sensor) := Bounds.of_wf _
theorem Bounds.thermtrip (tj : Byte) (sensor : Fin 28) : Bounds.Statement (.thermtrip tj sensor) := Bounds.of_wf _
theorem Bounds.thermWarn (tj : Byte) (sensor : Fin 28) : Bounds.Statement (.thermWarn tj sensor) := Bounds.of_wf _
theorem Bounds.debugDisableN : Bounds.Statement (.debugDisableN) := Bounds.of_wf _
theorem Bounds.timeInEdge : Bounds.Statement (.timeInEdge) := Bounds.of_wf _
theorem Bounds.timeInLost : Bounds.Statement (.timeInLost) := Bounds.of_wf _
theorem Bounds.pairBoot (p : Pair) : Bounds.Statement (.pairBoot p) := Bounds.of_wf _
theorem Bounds.journalApply (p : Pair) (records : Nat) (unreadable : Bool) : Bounds.Statement (.journalApply p records unreadable) := Bounds.of_wf _
theorem Bounds.standbyStalled : Bounds.Statement (.standbyStalled) := Bounds.of_wf _
theorem Bounds.lockstepMismatch (p : Pair) (c : MismatchCause) : Bounds.Statement (.lockstepMismatch p c) := Bounds.of_wf _
theorem Bounds.watchdogExpiry : Bounds.Statement (.watchdogExpiry) := Bounds.of_wf _
theorem Bounds.handoverComplete : Bounds.Statement (.handoverComplete) := Bounds.of_wf _
theorem Bounds.wdtKick (p : Pair) : Bounds.Statement (.wdtKick p) := Bounds.of_wf _
theorem Bounds.bootConfirmed : Bounds.Statement (.bootConfirmed) := Bounds.of_wf _
theorem Bounds.faultCaptureClear (k : Fin 77) : Bounds.Statement (.faultCaptureClear k) := Bounds.of_wf _
theorem Bounds.peakClr : Bounds.Statement (.peakClr) := Bounds.of_wf _
theorem Bounds.registerWrite (t : RegTarget) (off : BitVec 48) (bytes : Nat) (data : U64) : Bounds.Statement (.registerWrite t off bytes data) := Bounds.of_wf _
theorem Bounds.crossbarAccess (m : Master) (sp : Space) (addr : BitVec 51) (write : Bool) (bytes : Nat) (data : Line) (hold : Bool) : Bounds.Statement (.crossbarAccess m sp addr write bytes data hold) := Bounds.of_wf _
theorem Bounds.identify (h : CmdHdr) : Bounds.Statement (.identify h) := Bounds.of_wf _
theorem Bounds.getResponseMessageLimit (h : CmdHdr) : Bounds.Statement (.getResponseMessageLimit h) := Bounds.of_wf _
theorem Bounds.setResponseMessageLimit (h : CmdHdr) (limit : Nat) : Bounds.Statement (.setResponseMessageLimit h limit) := Bounds.of_wf _
theorem Bounds.getEventRecords (t : EventTarget) (log : EventLog) : Bounds.Statement (.getEventRecords t log) := Bounds.of_wf _
theorem Bounds.clearEventRecords (t : EventTarget) (log : EventLog) (all : Bool) (count : Nat) : Bounds.Statement (.clearEventRecords t log all count) := Bounds.of_wf _
theorem Bounds.getEventInterruptPolicy (t : EventTarget) : Bounds.Statement (.getEventInterruptPolicy t) := Bounds.of_wf _
theorem Bounds.setEventInterruptPolicy (t : EventTarget) (policy : BitVec 40) : Bounds.Statement (.setEventInterruptPolicy t policy) := Bounds.of_wf _
theorem Bounds.getFwInfo (h : CmdHdr) : Bounds.Statement (.getFwInfo h) := Bounds.of_wf _
theorem Bounds.transferFw (h : CmdHdr) (slot : Nat) (off : Nat) (bytes : List Byte) : Bounds.Statement (.transferFw h slot off bytes) := Bounds.of_wf _
theorem Bounds.activateFw (h : CmdHdr) : Bounds.Statement (.activateFw h) := Bounds.of_wf _
theorem Bounds.getTimestamp (h : CmdHdr) : Bounds.Statement (.getTimestamp h) := Bounds.of_wf _
theorem Bounds.setTimestamp (h : CmdHdr) (t : U64) : Bounds.Statement (.setTimestamp h t) := Bounds.of_wf _
theorem Bounds.getSupportedLogs (t : EventTarget) : Bounds.Statement (.getSupportedLogs t) := Bounds.of_wf _
theorem Bounds.getLog (t : EventTarget) (off len : Nat) : Bounds.Statement (.getLog t off len) := Bounds.of_wf _
theorem Bounds.identifySwitchDevice (h : CmdHdr) : Bounds.Statement (.identifySwitchDevice h) := Bounds.of_wf _
theorem Bounds.getPhysicalPortState (h : CmdHdr) (ports : List PortId) : Bounds.Statement (.getPhysicalPortState h ports) := Bounds.of_wf _
theorem Bounds.physicalPortControl (h : CmdHdr) (p : PortId) (c : PortControl) : Bounds.Statement (.physicalPortControl h p c) := Bounds.of_wf _
theorem Bounds.sendPpbCxlIoConfigurationRequest (h : CmdHdr) (p : PortId) (reg : BitVec 12) (write : Bool) (data : U32) (answer : Option U32) : Bounds.Statement (.sendPpbCxlIoConfigurationRequest h p reg write data answer) := Bounds.of_wf _
theorem Bounds.getVirtualCxlSwitchInfo (h : CmdHdr) (vcs : PortId) : Bounds.Statement (.getVirtualCxlSwitchInfo h vcs) := Bounds.of_wf _
theorem Bounds.bindVppb (h : CmdHdr) (vcs : PortId) (vppb : Fin 32) (p : PortId) (ld : Option (BitVec 4)) : Bounds.Statement (.bindVppb h vcs vppb p ld) := Bounds.of_wf _
theorem Bounds.unbindVppb (h : CmdHdr) (vcs : PortId) (vppb : Fin 32) (o : UnbindOption) : Bounds.Statement (.unbindVppb h vcs vppb o) := Bounds.of_wf _
theorem Bounds.tunnelManagementCommand (h : CmdHdr) (p : PortId) (request : List Byte) (answer : List Byte) : Bounds.Statement (.tunnelManagementCommand h p request answer) := Bounds.of_wf _
theorem Bounds.getLdInfo (h : CmdHdr) (p : PortId) (answer : List Byte) : Bounds.Statement (.getLdInfo h p answer) := Bounds.of_wf _
theorem Bounds.getLdAllocations (h : CmdHdr) (p : PortId) (answer : List Byte) : Bounds.Statement (.getLdAllocations h p answer) := Bounds.of_wf _
theorem Bounds.setLdAllocations (h : CmdHdr) (p : PortId) (alloc : List Byte) (answer : List Byte) : Bounds.Statement (.setLdAllocations h p alloc answer) := Bounds.of_wf _
theorem Bounds.getDcdInfo (h : CmdHdr) (p : PortId) : Bounds.Statement (.getDcdInfo h p) := Bounds.of_wf _
theorem Bounds.getHostDcRegionConfiguration (h : CmdHdr) (p : PortId) : Bounds.Statement (.getHostDcRegionConfiguration h p) := Bounds.of_wf _
theorem Bounds.setDcRegionConfiguration (h : CmdHdr) : Bounds.Statement (.setDcRegionConfiguration h) := Bounds.of_wf _
theorem Bounds.getDcRegionExtentLists (h : CmdHdr) (p : PortId) (first count : Nat) : Bounds.Statement (.getDcRegionExtentLists h p first count) := Bounds.of_wf _
theorem Bounds.initiateDcAdd (h : CmdHdr) : Bounds.Statement (.initiateDcAdd h) := Bounds.of_wf _
theorem Bounds.initiateDcRelease (h : CmdHdr) : Bounds.Statement (.initiateDcRelease h) := Bounds.of_wf _
theorem Bounds.identifyMemoryDevice (h : PoolHdr) : Bounds.Statement (.identifyMemoryDevice h) := Bounds.of_wf _
theorem Bounds.getDynamicCapacityConfiguration (h : PoolHdr) : Bounds.Statement (.getDynamicCapacityConfiguration h) := Bounds.of_wf _
theorem Bounds.getDynamicCapacityExtentList (h : PoolHdr) (first count : Nat) : Bounds.Statement (.getDynamicCapacityExtentList h first count) := Bounds.of_wf _
theorem Bounds.addDynamicCapacityResponse (h : PoolHdr) (extents : List (U64 × U64)) : Bounds.Statement (.addDynamicCapacityResponse h extents) := Bounds.of_wf _
theorem Bounds.releaseDynamicCapacity (h : PoolHdr) (extents : List (U64 × U64)) : Bounds.Statement (.releaseDynamicCapacity h extents) := Bounds.of_wf _
theorem Bounds.configStageWrite (h : CmdHdr) (off len : U32) (bytes : List Byte) : Bounds.Statement (.configStageWrite h off len bytes) := Bounds.of_wf _
theorem Bounds.configCommit (h : CmdHdr) (baseEpoch : U32) (digest : BitVec 256) : Bounds.Statement (.configCommit h baseEpoch digest) := Bounds.of_wf _
theorem Bounds.configConfirm (h : CmdHdr) (epoch : U32) : Bounds.Statement (.configConfirm h epoch) := Bounds.of_wf _
theorem Bounds.configRollback (h : CmdHdr) (epoch : U32) : Bounds.Statement (.configRollback h epoch) := Bounds.of_wf _
theorem Bounds.configGetState (h : CmdHdr) : Bounds.Statement (.configGetState h) := Bounds.of_wf _
theorem Bounds.configRead (h : CmdHdr) (version : Byte) (off : U32) (len : U16) : Bounds.Statement (.configRead h version off len) := Bounds.of_wf _
theorem Bounds.gossipGet (h : CmdHdr) : Bounds.Statement (.gossipGet h) := Bounds.of_wf _
theorem Bounds.tenantGet (h : CmdHdr) (tenant first : U16) : Bounds.Statement (.tenantGet h tenant first) := Bounds.of_wf _
theorem Bounds.tenantUnbind (h : CmdHdr) (tenant : U16) (baseEpoch : U32) : Bounds.Statement (.tenantUnbind h tenant baseEpoch) := Bounds.of_wf _
theorem Bounds.tenantRemove (h : CmdHdr) (tenant : U16) (baseEpoch : U32) : Bounds.Statement (.tenantRemove h tenant baseEpoch) := Bounds.of_wf _
theorem Bounds.queueEnable (h : CmdHdr) (q : QueueSetup) : Bounds.Statement (.queueEnable h q) := Bounds.of_wf _
theorem Bounds.queueReset (h : CmdHdr) (qp : U16) (tail : HostRead U32) : Bounds.Statement (.queueReset h qp tail) := Bounds.of_wf _
theorem Bounds.queueShutdown (h : CmdHdr) (qp : U16) (tail : HostRead U32) : Bounds.Statement (.queueShutdown h qp tail) := Bounds.of_wf _
theorem Bounds.queueStatus (h : CmdHdr) (qp : U16) : Bounds.Statement (.queueStatus h qp) := Bounds.of_wf _
theorem Bounds.tenantQuiesce (h : CmdHdr) (tenant : U16) (tails : List (U16 × U32)) : Bounds.Statement (.tenantQuiesce h tenant tails) := Bounds.of_wf _
theorem Bounds.tileEntryGet (h : CmdHdr) (tile : U32) : Bounds.Statement (.tileEntryGet h tile) := Bounds.of_wf _
theorem Bounds.migSlotGet (h : CmdHdr) (slot : U16) : Bounds.Statement (.migSlotGet h slot) := Bounds.of_wf _
theorem Bounds.tileMovedRelease (h : CmdHdr) (tile : U32) : Bounds.Statement (.tileMovedRelease h tile) := Bounds.of_wf _
theorem Bounds.slotPowerOn (h : CmdHdr) (ch : PortId) : Bounds.Statement (.slotPowerOn h ch) := Bounds.of_wf _
theorem Bounds.slotPowerOff (h : CmdHdr) (ch : PortId) (force : Bool) : Bounds.Statement (.slotPowerOff h ch force) := Bounds.of_wf _
theorem Bounds.slotClearFault (h : CmdHdr) (ch : PortId) : Bounds.Statement (.slotClearFault h ch) := Bounds.of_wf _
theorem Bounds.slotGetStatus (h : CmdHdr) (ch : PortId) : Bounds.Statement (.slotGetStatus h ch) := Bounds.of_wf _
theorem Bounds.trunkGetStatus (h : CmdHdr) (t : TrunkId) : Bounds.Statement (.trunkGetStatus h t) := Bounds.of_wf _
theorem Bounds.fabricDiscover (h : CmdHdr) : Bounds.Statement (.fabricDiscover h) := Bounds.of_wf _
theorem Bounds.counterRead (h : CmdHdr) (kind : Byte) (block : U16) : Bounds.Statement (.counterRead h kind block) := Bounds.of_wf _
theorem Bounds.scrubDir (h : CmdHdr) (first count : U32) : Bounds.Statement (.scrubDir h first count) := Bounds.of_wf _
theorem Bounds.channelRetire (h : CmdHdr) (c : ChannelId) : Bounds.Statement (.channelRetire h c) := Bounds.of_wf _
theorem Bounds.portRetrain (h : CmdHdr) (p : PortId) (l : LinkTrained) : Bounds.Statement (.portRetrain h p l) := Bounds.of_wf _
theorem Bounds.txnRead (h : CmdHdr) (idx : U32) : Bounds.Statement (.txnRead h idx) := Bounds.of_wf _
theorem Bounds.unresponsiveGet (h : CmdHdr) : Bounds.Statement (.unresponsiveGet h) := Bounds.of_wf _
theorem Bounds.unresponsiveClear (h : CmdHdr) (slots ports : U64) : Bounds.Statement (.unresponsiveClear h slots ports) := Bounds.of_wf _
theorem Bounds.logRead (h : CmdHdr) (first : U32) (count : Byte) : Bounds.Statement (.logRead h first count) := Bounds.of_wf _
theorem Bounds.logFreeze (h : CmdHdr) : Bounds.Statement (.logFreeze h) := Bounds.of_wf _
theorem Bounds.archiveRead (h : CmdHdr) (slot : Byte) (off : U32) (len : U16) : Bounds.Statement (.archiveRead h slot off len) := Bounds.of_wf _
theorem Bounds.debugEnable (h : CmdHdr) (secured : Bool) (tok : Token) : Bounds.Statement (.debugEnable h secured tok) := Bounds.of_wf _
theorem Bounds.debugDisable (h : CmdHdr) : Bounds.Statement (.debugDisable h) := Bounds.of_wf _
theorem Bounds.ideKeyRefresh (h : CmdHdr) (p : PortId) : Bounds.Statement (.ideKeyRefresh h p) := Bounds.of_wf _
theorem Bounds.modeGet (h : CmdHdr) : Bounds.Statement (.modeGet h) := Bounds.of_wf _
theorem Bounds.serviceStart (h : CmdHdr) : Bounds.Statement (.serviceStart h) := Bounds.of_wf _
theorem Bounds.handover (h : CmdHdr) : Bounds.Statement (.handover h) := Bounds.of_wf _
theorem Bounds.pairReset (h : CmdHdr) (p : Pair) (slot : Bool) : Bounds.Statement (.pairReset h p slot) := Bounds.of_wf _
theorem Bounds.drain (h : CmdHdr) : Bounds.Statement (.drain h) := Bounds.of_wf _
theorem Bounds.drainCancel (h : CmdHdr) : Bounds.Statement (.drainCancel h) := Bounds.of_wf _
theorem Bounds.getResult (h : CmdHdr) (ticket : U16) : Bounds.Statement (.getResult h ticket) := Bounds.of_wf _
theorem Bounds.epochFlip : Bounds.Statement (.epochFlip) := Bounds.of_wf _
theorem Bounds.confirmDeadline : Bounds.Statement (.confirmDeadline) := Bounds.of_wf _
theorem Bounds.rollbackFlip : Bounds.Statement (.rollbackFlip) := Bounds.of_wf _
theorem Bounds.epochDrained : Bounds.Statement (.epochDrained) := Bounds.of_wf _
theorem Bounds.warmRestore : Bounds.Statement (.warmRestore) := Bounds.of_wf _
theorem Bounds.digest (t : TrunkId) (hd : FlitHdr) (entries : List DigestEntry) : Bounds.Statement (.digest t hd entries) := Bounds.of_wf _
theorem Bounds.digestSend : Bounds.Statement (.digestSend) := Bounds.of_wf _
theorem Bounds.gossipEvaluate : Bounds.Statement (.gossipEvaluate) := Bounds.of_wf _
theorem Bounds.laneLocked (t : TrunkId) (lane : Fin 9) : Bounds.Statement (.laneLocked t lane) := Bounds.of_wf _
theorem Bounds.lockTimeout (t : TrunkId) : Bounds.Statement (.lockTimeout t) := Bounds.of_wf _
theorem Bounds.measWindow (t : TrunkId) (errors : List Nat) (kbits : U32) : Bounds.Statement (.measWindow t errors kbits) := Bounds.of_wf _
theorem Bounds.laneAnn (t : TrunkId) (b : LaneAnnBlock) : Bounds.Statement (.laneAnn t b) := Bounds.of_wf _
theorem Bounds.init (t : TrunkId) (f : InitFields) : Bounds.Statement (.init t f) := Bounds.of_wf _
theorem Bounds.initTimeout (t : TrunkId) : Bounds.Statement (.initTimeout t) := Bounds.of_wf _
theorem Bounds.retryDelay (t : TrunkId) : Bounds.Statement (.retryDelay t) := Bounds.of_wf _
theorem Bounds.goodCrcTimeout (t : TrunkId) : Bounds.Statement (.goodCrcTimeout t) := Bounds.of_wf _
theorem Bounds.syncPatternSeen (t : TrunkId) : Bounds.Statement (.syncPatternSeen t) := Bounds.of_wf _
theorem Bounds.failoverWait (t : TrunkId) : Bounds.Statement (.failoverWait t) := Bounds.of_wf _
theorem Bounds.filler (t : TrunkId) : Bounds.Statement (.filler t) := Bounds.of_wf _
theorem Bounds.idle (t : TrunkId) (hd : FlitHdr) : Bounds.Statement (.idle t hd) := Bounds.of_wf _
theorem Bounds.payload (t : TrunkId) (hd : FlitHdr) (msgs : List (MsgClass × Msg)) : Bounds.Statement (.payload t hd msgs) := Bounds.of_wf _
theorem Bounds.laneCtl (t : TrunkId) (hd : FlitHdr) (newSkip : BitVec 4) : Bounds.Statement (.laneCtl t hd newSkip) := Bounds.of_wf _
theorem Bounds.time (t : TrunkId) (hd : FlitHdr) (f : TimeFields) : Bounds.Statement (.time t hd f) := Bounds.of_wf _
theorem Bounds.audit (t : TrunkId) (hd : FlitHdr) (used : List U16) : Bounds.Statement (.audit t hd used) := Bounds.of_wf _
theorem Bounds.failover (t : TrunkId) (hd : FlitHdr) (lastSeq : BitVec 12) (any : Bool) : Bounds.Statement (.failover t hd lastSeq any) := Bounds.of_wf _
theorem Bounds.resyncReq (t : TrunkId) (hd : FlitHdr) (reason : Byte) : Bounds.Statement (.resyncReq t hd reason) := Bounds.of_wf _
theorem Bounds.llTypeReserved (t : TrunkId) : Bounds.Statement (.llTypeReserved t) := Bounds.of_wf _
theorem Bounds.ackTimer (t : TrunkId) : Bounds.Statement (.ackTimer t) := Bounds.of_wf _
theorem Bounds.replayTimer (t : TrunkId) : Bounds.Statement (.replayTimer t) := Bounds.of_wf _
theorem Bounds.auditPeriod : Bounds.Statement (.auditPeriod) := Bounds.of_wf _
theorem Bounds.timePeriod (t : TrunkId) : Bounds.Statement (.timePeriod t) := Bounds.of_wf _
theorem Bounds.qualityInterval (t : TrunkId) (corrected : List Nat) (joined : Option (Fin 9 × U32)) (kbits : U32) : Bounds.Statement (.qualityInterval t corrected joined kbits) := Bounds.of_wf _
theorem Bounds.laneLockLoss (t : TrunkId) (lane : Fin 9) : Bounds.Statement (.laneLockLoss t lane) := Bounds.of_wf _
theorem Bounds.egressPick (x : PointId) (credits : BitVec 12) (fault : RecordFault) : Bounds.Statement (.egressPick x credits fault) := Bounds.of_wf _
theorem Bounds.gateBoundary (x : PointId) : Bounds.Statement (.gateBoundary x) := Bounds.of_wf _
theorem Bounds.meterRefresh : Bounds.Statement (.meterRefresh) := Bounds.of_wf _
theorem Bounds.hazelPass : Bounds.Statement (.hazelPass) := Bounds.of_wf _
theorem Bounds.dlUp (p : PortId) (l : LinkTrained) : Bounds.Statement (.dlUp p l) := Bounds.of_wf _
theorem Bounds.linkDown (p : PortId) (c : DownCause) : Bounds.Statement (.linkDown p c) := Bounds.of_wf _
theorem Bounds.laneFailure (p : PortId) (lane : Fin 16) : Bounds.Statement (.laneFailure p lane) := Bounds.of_wf _
theorem Bounds.l0pRequest (p : PortId) (width : BitVec 5) : Bounds.Statement (.l0pRequest p width) := Bounds.of_wf _
theorem Bounds.hotReset (p : PortId) : Bounds.Statement (.hotReset p) := Bounds.of_wf _
theorem Bounds.perstDelay (p : PortId) : Bounds.Statement (.perstDelay p) := Bounds.of_wf _
theorem Bounds.linkUpTimeout (p : PortId) : Bounds.Statement (.linkUpTimeout p) := Bounds.of_wf _
theorem Bounds.memberSetup (p : PortId) (m : MemberInfo) : Bounds.Statement (.memberSetup p m) := Bounds.of_wf _
theorem Bounds.hostPortStart : Bounds.Statement (.hostPortStart) := Bounds.of_wf _
theorem Bounds.dpcTrigger (p : PortId) (c : DpcCause) : Bounds.Statement (.dpcTrigger p c) := Bounds.of_wf _
theorem Bounds.dpcClear (p : PortId) : Bounds.Statement (.dpcClear p) := Bounds.of_wf _
theorem Bounds.ideFail (p : PortId) (pcie : Bool) : Bounds.Statement (.ideFail p pcie) := Bounds.of_wf _
theorem Bounds.viral (p : PortId) : Bounds.Statement (.viral p) := Bounds.of_wf _
theorem Bounds.slotControlWrite (p : PortId) (powerOn : Bool) (pwrInd atnInd : BitVec 2) : Bounds.Statement (.slotControlWrite p powerOn pwrInd atnInd) := Bounds.of_wf _
theorem Bounds.sqDoorbell (p : PortId) (page : BitVec 12) : Bounds.Statement (.sqDoorbell p page) := Bounds.of_wf _
theorem Bounds.cqDoorbell (p : PortId) (page : BitVec 12) (value : U32) : Bounds.Statement (.cqDoorbell p page value) := Bounds.of_wf _
theorem Bounds.descriptorFetch (qp : BitVec 12) (tail : HostRead U32) (descs : HostRead (List (BitVec 512))) : Bounds.Statement (.descriptorFetch qp tail descs) := Bounds.of_wf _
theorem Bounds.completionWrite (qp : BitVec 12) (own : HostRead (List Bool)) (writeOk : Bool) : Bounds.Statement (.completionWrite qp own writeOk) := Bounds.of_wf _
theorem Bounds.ownReread (qp : BitVec 12) (late : U32) : Bounds.Statement (.ownReread qp late) := Bounds.of_wf _
theorem Bounds.nop (qp : BitVec 12) : Bounds.Statement (.nop qp) := Bounds.of_wf _
theorem Bounds.copyTile (qp : BitVec 12) : Bounds.Statement (.copyTile qp) := Bounds.of_wf _
theorem Bounds.zeroTile (qp : BitVec 12) : Bounds.Statement (.zeroTile qp) := Bounds.of_wf _
theorem Bounds.mirrorAttach (qp : BitVec 12) : Bounds.Statement (.mirrorAttach qp) := Bounds.of_wf _
theorem Bounds.mirrorSplit (qp : BitVec 12) : Bounds.Statement (.mirrorSplit qp) := Bounds.of_wf _
theorem Bounds.verifyTile (qp : BitVec 12) : Bounds.Statement (.verifyTile qp) := Bounds.of_wf _
theorem Bounds.scrubDirJob (qp : BitVec 12) : Bounds.Statement (.scrubDirJob qp) := Bounds.of_wf _
theorem Bounds.sweepAndCopy (slot : BitVec 10) : Bounds.Statement (.sweepAndCopy slot) := Bounds.of_wf _
theorem Bounds.switchover (slot : BitVec 10) : Bounds.Statement (.switchover slot) := Bounds.of_wf _
theorem Bounds.holdExpiry (slot : BitVec 10) : Bounds.Statement (.holdExpiry slot) := Bounds.of_wf _
theorem Bounds.noCache (slot : BitVec 10) : Bounds.Statement (.noCache slot) := Bounds.of_wf _
theorem Bounds.zeroingDone (tile : BitVec 19) : Bounds.Statement (.zeroingDone tile) := Bounds.of_wf _
theorem Bounds.liveLogDrain (records : Nat) : Bounds.Statement (.liveLogDrain records) := Bounds.of_wf _
theorem Bounds.addTimeout (p : PortId) : Bounds.Statement (.addTimeout p) := Bounds.of_wf _
theorem Bounds.mreq (o : Origin) (m : Msg) : Bounds.Statement (.mreq o m) := Bounds.of_wf _
theorem Bounds.mwr (o : Origin) (m : Msg) : Bounds.Statement (.mwr o m) := Bounds.of_wf _
theorem Bounds.snp (o : Origin) (m : Msg) : Bounds.Statement (.snp o m) := Bounds.of_wf _
theorem Bounds.biconf (o : Origin) (m : Msg) : Bounds.Statement (.biconf o m) := Bounds.of_wf _
theorem Bounds.rsp (o : Origin) (m : Msg) : Bounds.Statement (.rsp o m) := Bounds.of_wf _
theorem Bounds.attachedWriteback (t : TrunkId) (m : Msg) : Bounds.Statement (.attachedWriteback t m) := Bounds.of_wf _
theorem Bounds.cache (o : Origin) (m : Msg) : Bounds.Statement (.cache o m) := Bounds.of_wf _
theorem Bounds.io (o : Origin) (m : Msg) : Bounds.Statement (.io o m) := Bounds.of_wf _
theorem Bounds.waitingMessageStart (x : Fin 77) (cls : MsgClass) : Bounds.Statement (.waitingMessageStart x cls) := Bounds.of_wf _
theorem Bounds.lifetimeDeadline (idx : BitVec 17) : Bounds.Statement (.lifetimeDeadline idx) := Bounds.of_wf _
theorem Bounds.snoopDeadline (idx : BitVec 17) : Bounds.Statement (.snoopDeadline idx) := Bounds.of_wf _
theorem Bounds.channelRetired (c : ChannelId) (cause : RetireCause) : Bounds.Statement (.channelRetired c cause) := Bounds.of_wf _
theorem Bounds.relocationDone : Bounds.Statement (.relocationDone) := Bounds.of_wf _
theorem Bounds.patrol : Bounds.Statement (.patrol) := Bounds.of_wf _
theorem Bounds.candidateSweep (set : BitVec 26) (way : Fin 16) : Bounds.Statement (.candidateSweep set way) := Bounds.of_wf _
theorem Bounds.sweepDone (set : BitVec 26) (way : Fin 16) : Bounds.Statement (.sweepDone set way) := Bounds.of_wf _
theorem Bounds.parityFailure (m : ParityMem) : Bounds.Statement (.parityFailure m) := Bounds.of_wf _
theorem Bounds.parityRepair (m : ParityMem) : Bounds.Statement (.parityRepair m) := Bounds.of_wf _
theorem Bounds.dieLinkFailure (link : Fin 6) : Bounds.Statement (.dieLinkFailure link) := Bounds.of_wf _
theorem Bounds.d2dLaneRepair (link : Fin 6) (spareLeft : Bool) : Bounds.Statement (.d2dLaneRepair link spareLeft) := Bounds.of_wf _
theorem Bounds.prsntNLow (ch : PortId) : Bounds.Statement (.prsntNLow ch) := Bounds.of_wf _
theorem Bounds.seatDebounce (ch : PortId) : Bounds.Statement (.seatDebounce ch) := Bounds.of_wf _
theorem Bounds.removed (ch : PortId) (m : SlotSample) : Bounds.Statement (.removed ch m) := Bounds.of_wf _
theorem Bounds.pgAssert (ch : PortId) (m : SlotSample) : Bounds.Statement (.pgAssert ch m) := Bounds.of_wf _
theorem Bounds.pgDeassert (ch : PortId) (m : SlotSample) : Bounds.Statement (.pgDeassert ch m) := Bounds.of_wf _
theorem Bounds.shortInRamp (ch : PortId) (m : SlotSample) : Bounds.Statement (.shortInRamp ch m) := Bounds.of_wf _
theorem Bounds.currentLimit (ch : PortId) (m : SlotSample) : Bounds.Statement (.currentLimit ch m) := Bounds.of_wf _
theorem Bounds.rampTimeout (ch : PortId) (m : SlotSample) : Bounds.Statement (.rampTimeout ch m) := Bounds.of_wf _
theorem Bounds.breaker (ch : PortId) (point : Fin 8) (m : SlotSample) : Bounds.Statement (.breaker ch point m) := Bounds.of_wf _
theorem Bounds.fastTrip (ch : PortId) (m : SlotSample) : Bounds.Statement (.fastTrip ch m) := Bounds.of_wf _
theorem Bounds.undervoltage (ch : PortId) (m : SlotSample) : Bounds.Statement (.undervoltage ch m) := Bounds.of_wf _
theorem Bounds.overvoltage (ch : PortId) (m : SlotSample) : Bounds.Statement (.overvoltage ch m) := Bounds.of_wf _
theorem Bounds.channelFault (ch : PortId) (m : SlotSample) : Bounds.Statement (.channelFault ch m) := Bounds.of_wf _
theorem Bounds.cooldownEnd (ch : PortId) (m : SlotSample) : Bounds.Statement (.cooldownEnd ch m) := Bounds.of_wf _
theorem Bounds.perstLead (ch : PortId) : Bounds.Statement (.perstLead ch) := Bounds.of_wf _
theorem Bounds.retryCountReset (ch : PortId) : Bounds.Statement (.retryCountReset ch) := Bounds.of_wf _
theorem Bounds.maskableFreeze : Bounds.Statement (.maskableFreeze) := Bounds.of_wf _
theorem Bounds.archiveDone : Bounds.Statement (.archiveDone) := Bounds.of_wf _
theorem Bounds.snapshotPeriod : Bounds.Statement (.snapshotPeriod) := Bounds.of_wf _
theorem Bounds.bandwidthWindow (x : PointId) : Bounds.Statement (.bandwidthWindow x) := Bounds.of_wf _
theorem Bounds.telemPeriod : Bounds.Statement (.telemPeriod) := Bounds.of_wf _
theorem Bounds.debugExpiry : Bounds.Statement (.debugExpiry) := Bounds.of_wf _
theorem Bounds.dbgAccess (write : Bool) (space : BitVec 3) (hold : Bool) (addr : BitVec 51) (data : U64) : Bounds.Statement (.dbgAccess write space hold addr data) := Bounds.of_wf _
theorem Bounds.bypass : Bounds.Statement (.bypass) := Bounds.of_wf _
theorem Bounds.idcode : Bounds.Statement (.idcode) := Bounds.of_wf _
theorem Bounds.samplePreload : Bounds.Statement (.samplePreload) := Bounds.of_wf _
theorem Bounds.extest : Bounds.Statement (.extest) := Bounds.of_wf _
theorem Bounds.clamp : Bounds.Statement (.clamp) := Bounds.of_wf _
theorem Bounds.highz : Bounds.Statement (.highz) := Bounds.of_wf _
theorem Bounds.extestPulse : Bounds.Statement (.extestPulse) := Bounds.of_wf _
theorem Bounds.extestTrain : Bounds.Statement (.extestTrain) := Bounds.of_wf _
theorem Bounds.fuseProg (hash : BitVec 384) : Bounds.Statement (.fuseProg hash) := Bounds.of_wf _
theorem Bounds.getVersion (s : SpdmSrc) : Bounds.Statement (.getVersion s) := Bounds.of_wf _
theorem Bounds.getCapabilities (s : SpdmSrc) : Bounds.Statement (.getCapabilities s) := Bounds.of_wf _
theorem Bounds.negotiateAlgorithms (s : SpdmSrc) : Bounds.Statement (.negotiateAlgorithms s) := Bounds.of_wf _
theorem Bounds.getDigests (s : SpdmSrc) : Bounds.Statement (.getDigests s) := Bounds.of_wf _
theorem Bounds.getCertificate (s : SpdmSrc) (slot : Fin 8) (off len : Nat) : Bounds.Statement (.getCertificate s slot off len) := Bounds.of_wf _
theorem Bounds.challenge (s : SpdmSrc) (slot : Fin 8) (nonce : BitVec 256) : Bounds.Statement (.challenge s slot nonce) := Bounds.of_wf _
theorem Bounds.getMeasurements (s : SpdmSrc) (index : Byte) (signed : Bool) : Bounds.Statement (.getMeasurements s index signed) := Bounds.of_wf _
theorem Bounds.keyExchange (s : SpdmSrc) : Bounds.Statement (.keyExchange s) := Bounds.of_wf _
theorem Bounds.finish (s : SpdmSrc) (session : Fin 16) : Bounds.Statement (.finish s session) := Bounds.of_wf _
theorem Bounds.endSession (s : SpdmSrc) (session : Fin 16) : Bounds.Statement (.endSession s session) := Bounds.of_wf _
theorem Bounds.heartbeat (s : SpdmSrc) (session : Fin 16) : Bounds.Statement (.heartbeat s session) := Bounds.of_wf _
theorem Bounds.keyUpdate (s : SpdmSrc) (session : Fin 16) : Bounds.Statement (.keyUpdate s session) := Bounds.of_wf _
theorem Bounds.setCertificate (s : SpdmSrc) (slot : Fin 8) (chain : List Byte) : Bounds.Statement (.setCertificate s slot chain) := Bounds.of_wf _
theorem Bounds.vendorDefinedRequest (s : SpdmSrc) (session : Fin 16) (m : IdeKm) : Bounds.Statement (.vendorDefinedRequest s session m) := Bounds.of_wf _
theorem Bounds.setEndpointId (s : CmdSrc) (eid : Byte) : Bounds.Statement (.setEndpointId s eid) := Bounds.of_wf _
theorem Bounds.entdaa (k : Fin 2) (addr : BitVec 7) : Bounds.Statement (.entdaa k addr) := Bounds.of_wf _
theorem Bounds.rstdaa (k : Fin 2) : Bounds.Statement (.rstdaa k) := Bounds.of_wf _
theorem Bounds.getpid (k : Fin 2) : Bounds.Statement (.getpid k) := Bounds.of_wf _
theorem Bounds.getbcr (k : Fin 2) : Bounds.Statement (.getbcr k) := Bounds.of_wf _
theorem Bounds.getdcr (k : Fin 2) : Bounds.Statement (.getdcr k) := Bounds.of_wf _
theorem Bounds.getstatus (k : Fin 2) : Bounds.Statement (.getstatus k) := Bounds.of_wf _
theorem Bounds.enec (k : Fin 2) (events : Byte) : Bounds.Statement (.enec k events) := Bounds.of_wf _
theorem Bounds.disec (k : Fin 2) (events : Byte) : Bounds.Statement (.disec k events) := Bounds.of_wf _
theorem Bounds.setmwl (k : Fin 2) (len : U16) : Bounds.Statement (.setmwl k len) := Bounds.of_wf _
theorem Bounds.getmwl (k : Fin 2) : Bounds.Statement (.getmwl k) := Bounds.of_wf _
theorem Bounds.setmrl (k : Fin 2) (len : U16) : Bounds.Statement (.setmrl k len) := Bounds.of_wf _
theorem Bounds.getmrl (k : Fin 2) : Bounds.Statement (.getmrl k) := Bounds.of_wf _
theorem Bounds.vinWithinWindow (ch : PortId) (m : SlotSample) : Bounds.Statement (.vinWithinWindow ch m) := Bounds.of_wf _
theorem Bounds.configurationRequestsAllowed (p : PortId) : Bounds.Statement (.configurationRequestsAllowed p) := Bounds.of_wf _
theorem Bounds.alertIbi (k : Fin 2) : Bounds.Statement (.alertIbi k) := Bounds.of_wf _
theorem Bounds.ideRefresh : Bounds.Statement (.ideRefresh) := Bounds.of_wf _
theorem Bounds.ppsOut : Bounds.Statement (.ppsOut) := Bounds.of_wf _
theorem Bounds.ppsMissed : Bounds.Statement (.ppsMissed) := Bounds.of_wf _
theorem Bounds.cxlIoCompletionTimeout (qp : BitVec 12) (what : WqRead) : Bounds.Statement (.cxlIoCompletionTimeout qp what) := Bounds.of_wf _

end Sys2Proof.Laws
end

