-- ==== Sys2Proof/Machine/Recipes.lean ====
section
/-! DEFINITION. The two recipe sets that are shipped (R54 to R56) as data: step words, dispatch entries, and the image
of a set (R47, R62). -/

namespace Sys2Proof.Machine

/-- One step of a recipe: kind, parameter, branch slots (16 is END). -/
structure RStep where
  kind : Nat
  param : Nat := 0
  next : List Nat := []
deriving DecidableEq, Repr

/-- The word of a step (R47). -/
def RStep.word (r : RStep) : U64 :=
  BitVec.ofNat 64 (pack ([(6, r.kind)] ++ (List.range 4).map (fun i => (5, r.next.getD i 0)) ++ [(6, 0), (16, r.param)]))

/-- FORWARD's parameter: destination and opcode. -/
def fwd (dest op : Nat) : Nat := dest + 16 * op
/-- DUPLICATE's parameter. -/
def dupOp (op : Nat) : Nat := 16 * op
/-- COUNT's parameter with LOG = 1. -/
def logged (g : Nat) : Nat := 0x8000 + g

/-- Take step k out of a recipe and number the others anew (the TRUNK recipes are the HOST_POOL ones without METER,
R55; DEDUCED, log entry 64). -/
def dropStep (k : Nat) (l : List RStep) : List RStep :=
  (l.eraseIdx k).map fun r => { r with next := r.next.map fun n => if k < n ∧ n < 16 then n - 1 else n }

/-- MemRd and MemRdData (R54). -/
def rMemRd : List RStep := [
  ⟨0x01, 0, [1, 1, 13]⟩, ⟨0x02, 0, [2, 2, 2]⟩, ⟨0x03, 0, [3, 9, 13, 13]⟩, ⟨0x04, 0, [6, 4, 7, 13]⟩,
  ⟨0x06, 0, [5, 6]⟩, ⟨0x07, 0, [6, 6, 12, 13]⟩, ⟨0x05, 0, [7]⟩, ⟨0x08, fwd 0 0xFF, [8, 13]⟩,
  ⟨0x07, 1, [11, 11, 13, 13]⟩, ⟨0x08, fwd 2 0xFF, [10, 13]⟩, ⟨0x07, 2, [11, 11, 13, 13]⟩, ⟨0x0F, 0, []⟩,
  ⟨0x0D, 1, [13]⟩, ⟨0x0F, 3, []⟩]

/-- MemRd and MemRdData of the mirrored-tile set (R56). -/
def rMemRdMirrored : List RStep := [
  ⟨0x01, 0, [1, 1, 15]⟩, ⟨0x02, 0, [2, 2, 2]⟩, ⟨0x03, 0, [3, 11, 15, 15]⟩, ⟨0x04, 0, [6, 4, 7, 15]⟩,
  ⟨0x06, 0, [5, 6]⟩, ⟨0x07, 0, [6, 6, 14, 15]⟩, ⟨0x05, 0, [7]⟩, ⟨0x08, fwd 0 0xFF, [8, 15]⟩,
  ⟨0x07, 1, [13, 9, 9, 9]⟩, ⟨0x08, fwd 1 0xFF, [10, 15]⟩, ⟨0x07, 1, [13, 13, 15, 15]⟩,
  ⟨0x08, fwd 2 0xFF, [12, 15]⟩, ⟨0x07, 2, [13, 13, 15, 15]⟩, ⟨0x0F, 0, []⟩, ⟨0x0D, 1, [15]⟩, ⟨0x0F, 3, []⟩]

/-- MemInv and MemInvNT (R55). -/
def rMemInv : List RStep := [
  ⟨0x01, 0, [1, 1, 12]⟩, ⟨0x02, 0, [2, 2, 2]⟩, ⟨0x03, 0, [3, 8, 12, 12]⟩, ⟨0x04, 0, [6, 4, 7, 12]⟩,
  ⟨0x06, 0, [5, 6]⟩, ⟨0x07, 0, [6, 6, 11, 12]⟩, ⟨0x05, 0, [7]⟩, ⟨0x0F, 2, []⟩, ⟨0x08, fwd 2 0xFF, [9, 12]⟩,
  ⟨0x07, 2, [10, 10, 12, 12]⟩, ⟨0x0F, 0, []⟩, ⟨0x0D, 1, [12]⟩, ⟨0x0F, 3, []⟩]

/-- MemSpecRd (R55). -/
def rMemSpecRd : List RStep := [
  ⟨0x01, 0, [1, 1, 4]⟩, ⟨0x03, 0, [2, 4, 4, 4]⟩, ⟨0x04, 0, [4, 4, 3, 4]⟩, ⟨0x08, fwd 0 0xFF, [16, 4]⟩, ⟨0x10, 0, []⟩]

/-- MemClnEvct (R55). -/
def rMemClnEvct : List RStep := [
  ⟨0x01, 0, [1, 1, 8]⟩, ⟨0x03, 0, [2, 5, 8, 8]⟩, ⟨0x04, 2, [3, 3, 4, 8]⟩, ⟨0x05, 2, [4]⟩, ⟨0x0F, 1, []⟩,
  ⟨0x08, fwd 2 0xFF, [6, 8]⟩, ⟨0x07, 2, [7, 7, 8, 8]⟩, ⟨0x0F, 0, []⟩, ⟨0x0F, 3, []⟩]

/-- COUNT and DISCARD (R55). -/
def rStray (g : Nat) : List RStep := [⟨0x0E, g, [1]⟩, ⟨0x10, 0, []⟩]

/-- HOST_VH requests that expect a response (R55). -/
def rVh : List RStep := [
  ⟨0x01, 0, [1, 1, 4]⟩, ⟨0x08, fwd 5 0xFF, [2, 4]⟩, ⟨0x07, 1, [3, 3, 4, 4]⟩, ⟨0x0F, 0, []⟩, ⟨0x0F, 3, []⟩]

/-- HOST_VH requests that expect none (R55). -/
def rVhPosted : List RStep := [⟨0x01, 0, [1, 1, 2]⟩, ⟨0x08, fwd 5 0xFF, [16, 2]⟩, ⟨0x10, 0, []⟩]

/-- MemWr and MemWrPtl (R55); DUPLICATE in step 8 in the mirrored-tile set (R56). -/
def rMemWr (mirrored : Bool) : List RStep := [
  ⟨0x01, 0, [1, 1, 14]⟩, ⟨0x02, 0, [2, 2, 2]⟩, ⟨0x03, 0, [3, 10, 14, 14]⟩, ⟨0x04, 1, [6, 4, 7, 14]⟩,
  ⟨0x06, 0, [5, 6]⟩, ⟨0x07, 0, [6, 6, 13, 14]⟩, ⟨0x05, 1, [7]⟩, ⟨0x0A, 0, [8, 8]⟩,
  if mirrored then ⟨0x09, dupOp 0xFF, [9, 9]⟩ else ⟨0x08, fwd 0 0xFF, [9, 14]⟩,
  ⟨0x07, 1, [12, 12, 14, 14]⟩, ⟨0x08, fwd 2 0xFF, [11, 14]⟩, ⟨0x07, 2, [12, 12, 14, 14]⟩, ⟨0x0F, 1, []⟩,
  ⟨0x0D, 1, [14]⟩, ⟨0x0F, 3, []⟩]

/-- BIConflict (R55). -/
def rBiConflict : List RStep := [
  ⟨0x01, 0, [1, 1, 7]⟩, ⟨0x03, 0, [2, 4, 7, 7]⟩, ⟨0x0C, 0, [3, 16]⟩, ⟨0x08, fwd 3 opBiConflictAck, [16, 7]⟩,
  ⟨0x08, fwd 2 0xFF, [5, 7]⟩, ⟨0x07, 2, [6, 6, 7, 7]⟩, ⟨0x0F, 0, []⟩, ⟨0x0F, 3, []⟩]

/-- The relay of a BISnp (R55). -/
def rRelay : List RStep := [
  ⟨0x08, fwd 4 0xFF, [1, 3, 4]⟩, ⟨0x07, 0, [2, 2, 3, 3]⟩, ⟨0x0F, 0, []⟩, ⟨0x10, 0, []⟩, ⟨0x0E, 70, [5]⟩,
  ⟨0x08, fwd 3 0x00, [16, 16]⟩]

/-- BISnp from a pool member (R55): `op` is BIRspI or BIRspIBlk. -/
def rPoolBisnp (op : Nat) : List RStep := [⟨0x08, fwd 3 op, [1, 1]⟩, ⟨0x0E, logged 6, [16]⟩]

/-- CACHE and IO within a virtual hierarchy (R55). -/
def rVhForward : List RStep := [⟨0x08, fwd 5 0xFF, [16, 1]⟩, ⟨0x0F, 3, []⟩]

/-- NA_READ and MGMT_READ (R55). -/
def rNaRead : List RStep := [
  ⟨0x01, 0, [1, 1, 11]⟩, ⟨0x03, 0, [2, 7, 11, 11]⟩, ⟨0x04, 3, [5, 3, 5, 11]⟩, ⟨0x06, 0, [4, 5]⟩,
  ⟨0x07, 0, [5, 5, 10, 11]⟩, ⟨0x08, fwd 0 0x01, [6, 11]⟩, ⟨0x07, 1, [9, 9, 11, 11]⟩, ⟨0x08, fwd 2 0x01, [8, 11]⟩,
  ⟨0x07, 2, [9, 9, 11, 11]⟩, ⟨0x0F, 0, []⟩, ⟨0x0D, 1, [11]⟩, ⟨0x0F, 3, []⟩]

/-- NA_READ and MGMT_READ of the mirrored-tile set (R56). -/
def rNaReadMirrored : List RStep := [
  ⟨0x01, 0, [1, 1, 13]⟩, ⟨0x03, 0, [2, 9, 13, 13]⟩, ⟨0x04, 3, [5, 3, 5, 13]⟩, ⟨0x06, 0, [4, 5]⟩,
  ⟨0x07, 0, [5, 5, 12, 13]⟩, ⟨0x08, fwd 0 0x01, [6, 13]⟩, ⟨0x07, 1, [11, 7, 7, 7]⟩, ⟨0x08, fwd 1 0x01, [8, 13]⟩,
  ⟨0x07, 1, [11, 11, 13, 13]⟩, ⟨0x08, fwd 2 0x01, [10, 13]⟩, ⟨0x07, 2, [11, 11, 13, 13]⟩, ⟨0x0F, 0, []⟩,
  ⟨0x0D, 1, [13]⟩, ⟨0x0F, 3, []⟩]

/-- COPY_WRITE and ZERO_WRITE (R55). -/
def rJobWrite : List RStep := [
  ⟨0x01, 0, [1, 1, 6]⟩, ⟨0x0B, 1, [2, 5]⟩, ⟨0x08, fwd 6 0x01, [3, 6]⟩, ⟨0x07, 1, [4, 4, 6, 6]⟩, ⟨0x0F, 1, []⟩,
  ⟨0x10, 0, []⟩, ⟨0x0F, 3, []⟩]

/-- VERIFY_READ (R55). -/
def rVerifyRead : List RStep := [
  ⟨0x01, 0, [1, 1, 4]⟩, ⟨0x08, fwd 6 0x01, [2, 4]⟩, ⟨0x07, 1, [3, 3, 4, 4]⟩, ⟨0x0F, 0, []⟩, ⟨0x0F, 3, []⟩]

/-- VICTIM_EVICT (R55). -/
def rVictimEvict : List RStep := [
  ⟨0x04, 4, [3, 1, 3, 4]⟩, ⟨0x06, 3, [2, 3]⟩, ⟨0x07, 0, [3, 3, 4, 4]⟩, ⟨0x05, 3, [16]⟩, ⟨0x0D, 1, [16]⟩]

/-- ENTRY_REBUILD (R55). -/
def rEntryRebuild : List RStep := [⟨0x06, 4, [1, 2]⟩, ⟨0x07, 0, [2, 2, 3, 3]⟩, ⟨0x05, 3, [16]⟩, ⟨0x0D, 1, [16]⟩]

/-- MGMT_WRITE (R55); DUPLICATE in the mirrored-tile set (R56). -/
def rMgmtWrite (mirrored : Bool) : List RStep := [
  ⟨0x01, 0, [1, 1, 13]⟩, ⟨0x03, 0, [2, 9, 13, 13]⟩, ⟨0x04, 1, [5, 3, 6, 13]⟩, ⟨0x06, 3, [4, 5]⟩,
  ⟨0x07, 0, [5, 5, 12, 13]⟩, ⟨0x05, 3, [6]⟩, ⟨0x0A, 0, [7, 7]⟩,
  if mirrored then ⟨0x09, dupOp 0x01, [8, 8]⟩ else ⟨0x08, fwd 0 0x01, [8, 13]⟩,
  ⟨0x07, 1, [11, 11, 13, 13]⟩, ⟨0x08, fwd 2 0x01, [10, 13]⟩, ⟨0x07, 2, [11, 11, 13, 13]⟩, ⟨0x0F, 1, []⟩,
  ⟨0x0D, 1, [13]⟩, ⟨0x0F, 3, []⟩]

/-- BISnp opcodes (R44). -/
def bisnpOps : List Nat := [0x10, 0x11, 0x12, 0x14, 0x15, 0x16]
/-- BIRsp opcodes (R44). -/
def birspOps : List Nat := [0, 1, 2, 4, 5, 6]
/-- Response opcodes (R44). -/
def rspOps : List Nat := [0, 1, 2, 3, 4, 8, 9, 0x20]

/-- The recipes of a set: each with the (class, opcodes, sources) that dispatch to it (R55, R56). -/
def recipeSet (mirrored : Bool) : List (List RStep × List (Nat × List Nat × List Nat)) :=
  let rd := if mirrored then rMemRdMirrored else rMemRd
  let na := if mirrored then rNaReadMirrored else rNaRead
  [ (rd, [(0, [1, 2], [0])]), (dropStep 1 rd, [(0, [1, 2], [3])]),
    (rMemInv, [(0, [0, 9], [0])]), (dropStep 1 rMemInv, [(0, [0, 9], [3])]),
    (rMemSpecRd, [(0, [8], [0])]),
    (rMemClnEvct, [(0, [0xA], [0, 3])]),
    (rStray 2, [(0, [3, 4], [0]), (5, [0, 1], [0, 3])]),
    (rVh, [(0, [0, 1, 2, 9, 0xA], [1]), (1, [1, 2], [1])]),
    (rVhPosted, [(0, [3, 4, 8], [1])]),
    (rMemWr mirrored, [(1, [1, 2], [0])]), (dropStep 1 (rMemWr mirrored), [(1, [1, 2], [3])]),
    (rBiConflict, [(3, [0], [0, 3])]),
    (rStray 3, [(2, birspOps, [0, 3])]),
    (rRelay, [(2, bisnpOps, [3])]),
    (rStray 4, [(4, rspOps, [2, 3]), (4, bisnpOps, [3])]),
    (rPoolBisnp 0, [(4, [0x10, 0x11, 0x12], [2])]), (rPoolBisnp 4, [(4, [0x14, 0x15, 0x16], [2])]),
    (rVhForward, [(5, [0, 1], [1, 2]), (6, [0, 1, 2, 3, 4, 5], [1, 2])]),
    (na, [(7, [0x00], [0]), (7, [0x0C], [3])]),
    (rJobWrite, [(7, [0x01, 0x02], [0])]),
    (rVerifyRead, [(7, [0x03], [0])]),
    (rVictimEvict, [(7, [0x08], [1])]),
    (rEntryRebuild, [(7, [0x09], [1])]),
    (rMgmtWrite mirrored, [(7, [0x0D], [3])]) ]

/-- Step words of a set at 16 × recipe + step, in rising order. -/
def recipeWords (mirrored : Bool) : List (Nat × U64) :=
  ((recipeSet mirrored).zipIdx.flatMap fun r => r.1.1.zipIdx.map fun s => (16 * r.2 + s.2, s.1.word))

/-- Dispatch entries of a set (R47). -/
def recipeDispatch (mirrored : Bool) : Tbl (0 : U16) :=
  (recipeSet mirrored).zipIdx.foldl (fun t r =>
    r.1.2.foldl (fun t d =>
      d.2.1.foldl (fun t op => d.2.2.foldl (fun t src =>
        t.set (d.1 * 256 + op * 4 + src) (BitVec.ofNat 16 (r.2 + 2048))) t) t) t) .empty

/-- A bank's recipe half as a shipped set loads it (R47, R62). -/
def Bank.withSet (b : Bank) (mirrored : Bool) : Bank :=
  { b with
    steps := ⟨recipeWords mirrored⟩
    dispatch := recipeDispatch mirrored
    setInfo := { setId := if mirrored then 2 else 1 } }

end Sys2Proof.Machine
end

