-- ==== Sys2Proof/Safety.lean ====
section
/-! DEFINITION. What counts as a safe state and a safe run of the block, and when Bolroth executes a management command
at once: the terms that claims use. -/

namespace Sys2Proof.Machine

/-- The output pins follow the state (R411, R456). -/
def State.pinsAgree (s : State) : Prop := s.sys.pins = s.pinsNow

/-- DEGRADED stands for a retired unit, and SERVICE for none (R13, R16). -/
def State.modeAgrees (s : State) : Prop :=
  (s.sys.mode = .service → s.retiredWord = 0) ∧ (s.sys.mode = .degraded → s.retiredWord ≠ 0)

/-- What every step keeps. -/
def State.inv (s : State) : Prop := s.pinsAgree ∧ s.modeAgrees

/-- A run of n steps meets neither a fault nor a refusal. -/
def runsSafely : Nat → State → Prop
  | 0, _ => True
  | n + 1, s => ∃ t, step s = .next t ∧ runsSafely n t

/-- Bolroth executes command `i` as soon as it arrives: no other command of its source is in execution and none waits
(R362, R365), it repeats no answered MCTP request (R361, R364), Bolroth runs and no handover is under way, and none of the
checks of R359, R362 and R365 refuses it. -/
def State.takes (s : State) (i : Instr) (h : CmdHdr) (c : CmdSpec) : Prop :=
  s.sys.mode ≠ .reset ∧ s.sys.mode ≠ .prepare ∧ s.mgmt.resuming = none
    ∧ (∀ r ∈ s.mgmt.running, r.src ≠ h.src ∧ r.started = true)
    ∧ (∀ r ∈ s.mgmt.stored, r.src = h.src → r.tag = h.tag → r.instr = i → r.done + 1000000000 < s.sys.ft)
    ∧ s.sys.handover = none ∧ s.executorFree = true ∧ s.refusal h c = none

/-- The ticket that the next command gets, and the state that has issued it (R363). -/
def State.ticketed (s : State) (h : CmdHdr) : State := (s.start.issueTicket h.src).2

/-- The state in which a command that changes nothing but the command registers has been answered (R362). -/
def State.answered (s : State) (i : Instr) (h : CmdHdr) (code : Nat) (payload : List Byte) : State :=
  (s.ticketed h).respond i h.src h.tag (s.ticketOf h.src) code payload

/-- The state in which a command's INTENT record has been written (R340, R362). -/
def State.intended (s : State) (h : CmdHdr) : State := (s.ticketed h).journal 1 (s.ticketOf h.src)

/-- The state in which a command that has brought the machine to `t` is ended with its END record and its answer. -/
def State.ended (s t : State) (i : Instr) (h : CmdHdr) (code : Nat) (payload : List Byte) : State :=
  (t.journal 2 (s.ticketOf h.src) code).respond i h.src h.tag (s.ticketOf h.src) code payload

/-- The state in which an L command that has brought the machine to `t` is in execution on its source (R363, R365). -/
def State.waiting (s t : State) (i : Instr) (h : CmdHdr) (c : CmdSpec) : State :=
  t.hold { src := h.src, tag := h.tag, ticket := s.ticketOf h.src, instr := i, object := c.object, intent := c.changes,
           started := true } c.opcode h.len

/-- Taken at once, query `i` ends in success, and its answer is all it changes: the ticket, the counted command and what the
source holds of it. -/
def State.queryAnswers (s : State) (i : Instr) (h : CmdHdr) (c : CmdSpec) (payload : List Byte) : Prop :=
  s.takes i h c → exec i s = .next (s.answered i h rcSuccess payload)

/-- Taken at once, command `i` brings the machine to `f` of the state with its INTENT record, and ends in success with its END
record and its answer. -/
def State.changeEnds (s : State) (i : Instr) (h : CmdHdr) (c : CmdSpec) (f : State → State) (payload : List Byte) : Prop :=
  s.takes i h c → exec i s = .next (s.ended (f (s.intended h)) i h rcSuccess payload)

/-- The same of a command that the data plane follows up. -/
def State.changeSettles (s : State) (i : Instr) (h : CmdHdr) (c : CmdSpec) (f : State → State) (payload : List Byte) : Prop :=
  s.takes i h c → exec i s = .next (s.ended (f (s.intended h)) i h rcSuccess payload).finish

/-- Taken at once, L command `i` brings the machine to `f` of the state with its INTENT record, and is in execution. -/
def State.changeWaits (s : State) (i : Instr) (h : CmdHdr) (c : CmdSpec) (f : State → State) : Prop :=
  s.takes i h c → exec i s = .next (s.waiting (f (s.intended h)) i h c).finish

/-- Taken at once, command `i` fails in a validation that brings the machine to `f` of the state with its INTENT record: it is
ended with its END record and answered with the code and output (R384). -/
def State.changeFails (s : State) (i : Instr) (h : CmdHdr) (c : CmdSpec) (f : State → State) (code : Nat) (payload : List Byte) :
    Prop :=
  s.takes i h c → exec i s = .next (s.ended (f (s.intended h)) i h code payload).finish

/-- Taken at once, query `i` is turned away: it is answered with the code and output, and changes nothing else. -/
def State.queryDeclines (s : State) (i : Instr) (h : CmdHdr) (c : CmdSpec) (code : Nat) (payload : List Byte) : Prop :=
  s.takes i h c → exec i s = .next (s.answered i h code payload)

/-- Taken at once, command `i` is turned away by its own rules: it is answered with the code and output, and changes nothing
else. -/
def State.turnsAway (s : State) (i : Instr) (h : CmdHdr) (c : CmdSpec) (code : Nat) (payload : List Byte) : Prop :=
  s.takes i h c → exec i s = .next (s.answered i h code payload).finish

/-- Command `i` brings the machine to `t`, and then the block does what it does of itself before the next command. -/
def State.settlesTo (s : State) (i : Instr) (t : State) : Prop := exec i s = .next t.finish

/-- Command `i` completes without an effect of its own. -/
def State.ignores (s : State) (i : Instr) : Prop := s.settlesTo i s.start

/-- A pool view takes a command: its port is a HOST port with its link up (R18, R32), Bolroth runs, and no reserved bit of the
command is 1 (R7). -/
def State.poolTakes (s : State) (h : PoolHdr) : Prop :=
  (s.port h.port.val).role = .host ∧ (s.port h.port.val).dlUp = true ∧ s.bolrothRuns = true ∧ h.reservedSet = false

/-- What becomes of a command `i` to a pool view that does not take it: nothing without a HOST port whose link is up, else Busy
until Bolroth runs, else Invalid Input of a reserved bit that is 1 (R7, R18). `f` is what follows the command. -/
def State.poolDeclines (s : State) (i : Instr) (h : PoolHdr) (f : State → State) : Prop :=
  (((s.port h.port.val).role ≠ .host ∨ (s.port h.port.val).dlUp = false) → exec i s = .next (f s.start))
    ∧ ((s.port h.port.val).role = .host → (s.port h.port.val).dlUp = true → s.bolrothRuns = false →
        exec i s = .next (f (s.start.poolAnswer h.port.val rcBusy [])))
    ∧ ((s.port h.port.val).role = .host → (s.port h.port.val).dlUp = true → s.bolrothRuns = true → h.reservedSet = true →
        exec i s = .next (f (s.start.poolAnswer h.port.val rcInvalid [])))

end Sys2Proof.Machine
end

