-- ==== Sys2Proof/Certificates/Slice0/Obligations.lean ====
section
/-! DEFINITION. The statements for the provers, stated from the numbered rules of the spec. -/

open Sys2Proof Sys2Proof.Machine


/-- A step runs the command at the front of the queue. For every command c, every queue rest and every state s whose queue is c followed by rest, step s is exec c on s with the queue rest. Rests on 16_mailbox_commands.md: R365; 01_device_overview.md. -/
def Obligations.StepRunsFrontCommand : Prop :=
  ∀ (c : Instr) (rest : List Instr) (s : State), s.pending = c :: rest → step s = exec c { s with pending := rest }

/-- With the queue empty a step resumes the oldest deferred command, or lets one tick pass. The model's choice (log entry 11): with an empty queue, a step takes up the command that waits unstarted with the oldest ticket when Bolroth can take one (R365), and otherwise answers next with one tick of the fabric time unit: the time and the counters that run with it move on, nothing leaves the block, and every other part of the state stays as it was. Rests on 16_mailbox_commands.md: R365; 13_trunk_link_layer.md. -/
def Obligations.EmptyQueueResumesOrTicks : Prop :=
  ∀ s : State, s.pending = [] →
    (∀ r, s.deferred = some r → step s = exec r.instr (s.resume r))
    ∧ (s.deferred = none → ∃ t, step s = .next t ∧ t = s.idleTick ∧ t.obs.out = [] ∧ t.tab = s.tab ∧ t.dp = s.dp ∧ t.dir = s.dir
        ∧ t.wq = s.wq ∧ t.edge = s.edge ∧ t.trk = s.trk ∧ t.slots = s.slots ∧ t.mgmt = s.mgmt ∧ t.freeCtr = s.freeCtr
        ∧ t.pending = [])

/-- Every command completes in every state: the model has no fault and no refusal. For every command c and state s there is a next state t with exec c s = next t. The spec gives the CY640 no command that stops it. Where the spec leaves a point open the statement follows the model's choice (log entry 5). Rests on 01_device_overview.md: R13. -/
def Obligations.NoCommandStopsTheBlock : Prop :=
  ∀ (c : Instr) (s : State), ∃ t, exec c s = .next t

/-- The invariant of the pins and the mode holds after reset. At State.reset the output pins SAFE_N, THERM_WARN_N and THERMTRIP_N follow the state, and the mode is neither SERVICE with a retired unit nor DEGRADED without one. Rests on 01_device_overview.md: R13, R16; 18_modes_and_startup.md: R411; 21_electrical_and_package.md: R456. -/
def Obligations.InvariantAtReset : Prop :=
  State.reset.inv

/-- Every step keeps: the pins follow the state, and DEGRADED stands for a retired unit. For every state s in which SAFE_N, THERM_WARN_N and THERMTRIP_N follow the mode and the temperature (R411, R456), SERVICE has no retired unit and DEGRADED has one (R13, R16, R406), and for every next state t of step s, the same holds of t. It covers every command of the table, the resumption of a deferred command and the idle tick. Rests on 01_device_overview.md: R13, R16; 18_modes_and_startup.md: R406, R411; 21_electrical_and_package.md: R456. -/
def Obligations.EveryStepKeepsInvariant : Prop :=
  ∀ s t : State, s.inv → step s = .next t → t.inv

/-- DL_UP brings a training port up at the rate and width that both ends allow; lane failures and L0p change the width; timeouts fail the port. DL_UP on a port that trains, is not contained or DISABLED, whose mode lets ports run and whose die is linked brings the link up at the widest power-of-two width that both ends support and the highest rate that both and the flit mode allow, with the flit mode allowed by IDE, configuration requests not yet allowed and, on a HOST port, the decoder committed; the event is logged. 100 ms later, CONFIGURATION_REQUESTS_ALLOWED allows them once. LANE_FAILURE of a lane in use narrows the link to the widest run of working lanes, counts and logs, and with no run left takes the link down. An L0P_REQUEST in 256 B flit mode for a power of two within the limits sets the present width. PERST_DELAY deasserts PERST_N and starts training; LINK_UP_TIMEOUT asserts it again and marks the port failed. LINK_DOWN takes the link down with its cause. Where the condition that the statement names for a command does not hold, the command has no effect. Where the spec leaves a point open the statement follows the model's choice (log entries 5, 36 and 74). Rests on 11_edge_ports.md: R229, R230, R231, R232, R235, R249; 18_modes_and_startup.md: R400, R401, R404; 19_observability.md: R472. -/
def Obligations.EdgeLinksTrainAndFail : Prop :=
  ∀ (s : State) (p : PortId) (l : LinkTrained) (w : BitVec 5) (lane : Fin 16),
    let k := s.port p.val
    let c := s.param p.val
    let fl := trainedFlit c l
    let up : State := s.start.updPort p.val fun k => { k with
      dlUp := true, rate := trainedRate c l, width := trainedWidth c l, widthNow := trainedWidth c l, flit := fl
      ide := idleIde c, widthDegraded := false, lanes := laneRun 0 (trainedWidth c l), lanesUp := laneRun 0 (trainedWidth c l)
      scaledFc := l.scaledFc
      mld := l.mld && c.mld && (k.role == .bound || k.role == .unbound), upAt := s.sys.ft, cfgAllowed := false, viral := false
      decBase := if k.role = .host then c.decBaseTile else 0, decTilesM1 := if k.role = .host then c.decTilesM1 else 0
      decValid := k.role == .host }
    let freed : State := { up with dp.freed := true }
    (k.dlUp = false → k.training = true → k.dpc = false → k.role ≠ .disabled → s.portsRun = true →
      s.sys.dieLost.toNat.testBit (p.val / 16) = false →
      s.settlesTo (.dlUp p l) ((if k.role = .host then freed.queueAdds p.val else freed).log 0x0301 0
        [(1, p.val), (1, trainedRate c l), (1, trainedWidth c l), (1, fl), (1, 0)]))
    ∧ (k.dlUp = true ∨ k.training = false ∨ k.dpc = true ∨ k.role = .disabled ∨ s.portsRun = false
          ∨ s.sys.dieLost.toNat.testBit (p.val / 16) = true → s.ignores (.dlUp p l))
    ∧ (∀ cause : DownCause, s.settlesTo (.linkDown p cause) (s.start.linkLost p.val (downNo cause) (cause == .removal)))
    ∧ (k.dlUp = false ∨ lane.val ∉ k.lanes → s.ignores (.laneFailure p lane))
    ∧ (k.dlUp = false → s.ignores (.configurationRequestsAllowed p) ∧ s.ignores (.l0pRequest p w))
    ∧ (k.dlUp = true →
      (lane.val ∈ k.lanes →
        (fallbackRun c.width (k.lanesUp.erase lane.val) = none →
          s.settlesTo (.laneFailure p lane) (s.start.linkLost p.val 0 false))
        ∧ ∀ r, fallbackRun c.width (k.lanesUp.erase lane.val) = some r →
          s.settlesTo (.laneFailure p lane) ((((if r.length < k.widthNow then s.start.linkSlows p.val else s.start).updPort p.val
            fun v => { v with
              width := r.length, widthNow := Nat.min r.length v.widthNow, lanes := r, lanesUp := k.lanesUp.erase lane.val
              widthDegraded := true }).countPort p.val 28).log 0x0303 1 [(1, p.val), (4, r.length)]))
      ∧ (2 ≤ k.flit → (if c.l0pMin = 0 then c.width else c.l0pMin) ≤ w.toNat → w.toNat ≤ k.width → pow2Width w.toNat = w.toNat →
          s.settlesTo (.l0pRequest p w) ((if w.toNat < k.widthNow then s.start.linkSlows p.val else s.start).updPort p.val fun v =>
            { v with widthNow := w.toNat }))
      ∧ (k.flit < 2 ∨ k.width < w.toNat ∨ w.toNat < (if c.l0pMin = 0 then c.width else c.l0pMin) ∨ pow2Width w.toNat ≠ w.toNat →
          s.ignores (.l0pRequest p w))
      ∧ (k.cfgAllowed = false →
          let t := (s.start.advanceTo (k.upAt + 100000000)).updPort p.val fun v => { v with cfgAllowed := true }
          s.settlesTo (.configurationRequestsAllowed p) (if k.role = .bound then t.notifyVppbs p.val 1 [1] else t))
      ∧ (k.cfgAllowed = true → s.ignores (.configurationRequestsAllowed p)))
    ∧ (k.slotPg = true → k.perst = true → k.dpc = false → s.portsRun = true → s.sys.mode ≠ .safe →
        k.role = .poolMember ∨ (k.role = .bound ∨ k.role = .unbound) ∧ s.edge.hostPortsStarted = true →
        s.settlesTo (.perstDelay p) ((s.start.advanceTo ((s.slots.chans.get p.val).pgAt + c.perstDelayMs * 1000000)).updPort p.val
          fun v => { v with perst := false, training := true }))
    ∧ (k.slotPg = false ∨ k.perst = false ∨ k.dpc = true ∨ s.portsRun = false ∨ s.sys.mode = .safe
        ∨ ¬ (k.role = .poolMember ∨ (k.role = .bound ∨ k.role = .unbound) ∧ s.edge.hostPortsStarted = true) →
        s.ignores (.perstDelay p))
    ∧ (k.dlUp = true ∨ k.training = false ∨ k.role = .host ∨ k.role = .disabled ∨ k.slotPg = false →
        s.ignores (.linkUpTimeout p))
    ∧ (k.dlUp = false → k.training = true → k.role ≠ .host → k.role ≠ .disabled → k.slotPg = true →
        s.settlesTo (.linkUpTimeout p) (((s.start.advanceTo
          ((s.slots.chans.get p.val).pgAt + (c.perstDelayMs + c.linkUpTimeoutMs) * 1000000)).updPort p.val fun v =>
            { v with perst := true, training := false, memberFailed := true }).log 0x030A 2 [(1, p.val), (8, 0)]))

/-- DPC, IDE failures, viral, hot reset, Slot Control and the start of host ports act by the port's role. DPC_TRIGGER on a POOL_MEMBER, BOUND or UNBOUND port that is not contained contains it with its cause and takes its link down with cause 3; a trigger that no host has enabled does nothing there, and on a HOST port none does; a fatal error is counted on every port that is not DISABLED. DPC_CLEAR of a contained BOUND port, or of another while Bolroth runs, ends containment and lets a present port with power train. IDE_FAIL with the link up counts, logs and takes a HOST port down with cause 4, or contains another with cause 2. VIRAL marks a POOL_MEMBER or UNBOUND port and contains it with cause 3, and a BOUND port's host is told. HOT_RESET of a HOST port with its link up resets its hierarchy and nothing else. A Slot Control write of a BOUND port sets its power and indicators and is ignored elsewhere. HOST_PORT_START, once due, starts the ports that hosts see. Where a condition does not hold the command has no effect. Where the spec leaves a point open the statement follows the model's choice (log entries 5 and 36). Rests on 11_edge_ports.md: R238, R244, R246, R247, R248; 14_slot_power.md: R317; 18_modes_and_startup.md: R401; 19_observability.md: R416. -/
def Obligations.EdgePortEventsContainAndReset : Prop :=
  ∀ (s : State) (p : PortId),
    let k := s.port p.val
    (∀ cause : DpcCause,
      let counted := if dpcNo cause = 0 then s.start.countPort p.val 34 else s.start
      let held := k.role = .bound ∨ (k.role = .poolMember ∨ k.role = .unbound) ∧ dpcNo cause ≠ 4
      (k.dpc = false → held →
        s.settlesTo (.dpcTrigger p cause) ((counted.setDpc p.val (dpcNo cause)).linkLost p.val 3 false))
      ∧ (k.role ≠ .disabled → k.dpc = true ∨ ¬ held → s.settlesTo (.dpcTrigger p cause) counted)
      ∧ (k.role = .disabled → s.ignores (.dpcTrigger p cause)))
    ∧ (k.dpc = true → k.role = .bound ∨ s.bolrothRuns = true → s.settlesTo (.dpcClear p)
        (s.start.updPort p.val fun v => { v with
          dpc := false, training := v.present && v.slotPg, perst := v.perst && !(v.present && v.slotPg) }))
    ∧ (k.dpc = false ∨ k.role ≠ .bound ∧ s.bolrothRuns = false → s.ignores (.dpcClear p))
    ∧ (∀ pcie : Bool,
      let t := (s.start.countPort p.val 30).log 0x0304 2 [(1, p.val), (4, b2n pcie)]
      (k.dlUp = true → s.settlesTo (.ideFail p pcie) (if k.role = .host then t.linkLost p.val 4 false else t.dpcTrigger p.val 2))
      ∧ (k.dlUp = false → s.ignores (.ideFail p pcie)))
    ∧ (let t := s.start.updPort p.val fun v => { v with viral := true }
       (k.role = .poolMember ∨ k.role = .unbound → s.settlesTo (.viral p) (t.dpcTrigger p.val 3))
       ∧ (k.role = .bound → s.settlesTo (.viral p) (t.notifyVppbs p.val 4 []))
       ∧ (k.role = .host ∨ k.role = .disabled → s.ignores (.viral p)))
    ∧ (k.role = .host → k.dlUp = true → s.settlesTo (.hotReset p) (s.start.resetVcs p.val))
    ∧ (k.role ≠ .host ∨ k.dlUp = false → s.ignores (.hotReset p))
    ∧ (∀ (on : Bool) (pwr atn : BitVec 2),
        (k.role = .bound → s.settlesTo (.slotControlWrite p on pwr atn)
          (s.start.updPort p.val fun v => { v with hostPower := on, pwrInd := pwr, atnInd := atn }))
        ∧ (k.role ≠ .bound → s.ignores (.slotControlWrite p on pwr atn)))
    ∧ (∀ due : Nat, s.sys.hostStartDue = some due → s.edge.hostPortsStarted = false → s.portsRun = true →
        let t := if s.membersSettled then s.start else s.start.advanceTo due
        let u : State := { t with edge.hostPortsStarted := true }
        s.settlesTo .hostPortStart
          ((u.edge.ports.find fun _ k => k.role == .host || k.role == .bound || k.role == .unbound).foldl (fun v p =>
            v.updPort p fun k => { k with training := k.role == .host || (!k.perst && k.slotPg) }) u))
    ∧ (s.edge.hostPortsStarted = true ∨ s.sys.hostStartDue = none ∨ s.portsRun = false → s.ignores .hostPortStart)

/-- MEMBER_SETUP makes a pool member ready, or marks it failed with the reason that R242 gives. On a POOL_MEMBER port with its link up that is not ready yet, while Bolroth runs, MEMBER_SETUP keeps the serial number and capacity that the member reports once configuration requests are allowed: a member without active memory, with another serial number than the one expected, or too small for the tiles placed on it is marked failed and its own log entry is written; otherwise the member is ready and what waited may go on. In every other case it changes nothing. Where the spec leaves a point open the statement follows the model's choice (log entries 5 and 6). Rests on 11_edge_ports.md: R241, R242. -/
def Obligations.MemberSetupChecksTheMember : Prop :=
  ∀ (s : State) (p : PortId) (m : MemberInfo),
    let k := s.port p.val
    let c := s.param p.val
    let t := (s.start.configAllowed p.val).updPort p.val fun v => { v with dsn := m.dsn, capacity := m.capacityTiles }
    let u := t.updPort p.val fun v => { v with memEnable := true }
    let fail (v : State) (type : U16) (want : Nat) : State :=
      (v.updPort p.val fun k => { k with memberFailed := true }).log type 2 [(1, p.val), (8, want)]
    (k.role = .poolMember → k.dlUp = true → k.memberReady = false → s.bolrothRuns = true →
      (m.memoryActive = false → s.settlesTo (.memberSetup p m) (fail t 0x0309 0))
      ∧ (m.memoryActive = true → c.expectedDsn ≠ 0 → c.expectedDsn ≠ m.dsn →
          s.settlesTo (.memberSetup p m) (fail u 0x0307 c.expectedDsn.toNat))
      ∧ (m.memoryActive = true → c.expectedDsn = 0 ∨ c.expectedDsn = m.dsn →
        (m.capacityTiles < u.neededTiles p.val → s.settlesTo (.memberSetup p m) (fail u 0x0308 (u.neededTiles p.val)))
        ∧ (u.neededTiles p.val ≤ m.capacityTiles → s.settlesTo (.memberSetup p m)
            { u.updPort p.val (fun v => { v with memberReady := true, memberFailed := false }) with dp.freed := true })))
    ∧ (k.role ≠ .poolMember ∨ k.dlUp = false ∨ k.memberReady = true ∨ s.bolrothRuns = false → s.ignores (.memberSetup p m))

/-- A message from a live link is discarded, refused, stored and numbered, or dropped for want of room, by its class and the state. A message of any class from a link that is down has no effect. From an edge port whose IDE stream is required but not active, a CXL.mem or CXL.cache message is counted and discarded. In SAFE each message gets the answer of a request without a recipe, or is discarded. Otherwise, poison from an edge port is counted; without room in the buffer, or from an edge port beyond its credits, the message is counted as dropped; else it is stored (and spends its credits), takes the point's arrival number, is counted, and goes on by its class: a request of class MREQ, MWR, BICONF, CACHE or IO starts its transaction at once exactly when no message of its point and class waits, an entry is free, and no other message waits for an entry of that pool that it could take; otherwise it waits. A writeback that a trunk attaches to a snoop is taken in as one. Where the spec leaves a point open the statement follows the model's choice (log entries 5 and 6). Rests on 03_recipe_engine.md: R43, R46, R57; 04_switch_core.md: R67, R80; 11_edge_ports.md: R244, R247; 18_modes_and_startup.md: R411. -/
def Obligations.MessagesAreTakenIn : Prop :=
  ∀ (s : State) (o : Origin) (m : Msg),
    let x := originNo o
    let taken (i : Instr) (cls : Nat) (m : Msg) : Prop :=
      let u := unitsOf cls m.op.toNat m
      let t := if x < 64 ∧ m.poison = true then s.start.countPort x 35 else s.start
      let stored := if x < 64 ∧ ¬ t.hasCredits x cls m = true then none else t.storeRecord x cls u m
      (s.pointUp x = false → s.ignores i)
      ∧ (s.pointUp x = true →
        (x < 64 → cls < 6 → s.ideBlocked x = true → s.settlesTo i (s.start.countPort x 31))
        ∧ (¬ (x < 64 ∧ cls < 6 ∧ s.ideBlocked x = true) →
          (s.sys.mode = .safe → s.settlesTo i (s.start.safeMessage x cls m))
          ∧ (s.sys.mode ≠ .safe → stored = none → s.settlesTo i (t.count (pointCtr x 25 25)))
          ∧ (∀ (r : Nat) (v : State), s.sys.mode ≠ .safe → stored = some (r, v) →
              let w := if x < 64 then v.spendCredits x cls r m else v
              s.settlesTo i ((w.recordIn x cls r u).takeIn x cls r (w.dp.arrival.get x) m))))
    taken (.mreq o m) 0 m ∧ taken (.mwr o m) 1 m ∧ taken (.snp o m) 2 m ∧ taken (.biconf o m) 3 m ∧ taken (.rsp o m) 4 m
    ∧ taken (.cache o m) 5 m ∧ taken (.io o m) 6 m
    ∧ (∀ t : TrunkId, o = .trunk t → taken (.attachedWriteback t m) 1 { m with attached := true })
    ∧ (∀ (v : State) (y cls r : Nat) (seq : U32), cls ≠ 2 → cls ≠ 4 → (y < 64 ∨ cls ≠ 6 ∧ m.attached = false) →
        let w := v.indexWrite y cls r seq m
        v.takeIn y cls r seq m =
          if w.startsNow y cls = true then w.startRecord y cls r
          else { w with dp.waiting := w.dp.waiting.set (8 * y + cls) (w.dp.waiting.get (8 * y + cls) ++ [r]) })

/-- A waiting message starts when its point's turn has come; a deadline times a wait out, ends a transaction, or voids a drained one. WAITING_MESSAGE_START starts the oldest waiting message of its point and class when an entry is free and the point is next in rotation, and otherwise does nothing. LIFETIME_DEADLINE lets fabric time reach the deadline: a transaction that waits for a response or for snoop answers has its wait marked as timed out and runs on; one in another state, or waiting to poison its line, is counted and logged and ends as COMPLETE(ERROR), or, draining, its queued message is voided and its entry freed; of a free entry it does nothing. SNOOP_DEADLINE lets fabric time reach its deadline and times out a wait for snoop answers that has its timer and otherwise does nothing. Where the spec leaves a point open the statement follows the model's choice (log entries 5 and 13). Rests on 04_switch_core.md: R80, R81, R82; 05_coherence.md: R112, R113. -/
def Obligations.WaitsEndAtTheirTurnOrDeadline : Prop :=
  ∀ (s : State) (i : BitVec 17) (x : Fin 77) (c : MsgClass),
    let t := s.txn i.toNat
    let key := 8 * x.val + clsNo c
    (∀ (r : Nat) (rest : List Nat), s.dp.waiting.get key = r :: rest → s.startRoom x.val (clsNo c) = true →
        s.waitingTurn = some x.val → s.settlesTo (.waitingMessageStart x c)
          (State.startRecord { s.start with dp.waiting := s.dp.waiting.set key rest, dp.rrLast := x.val } x.val (clsNo c) r))
    ∧ (s.dp.waiting.get key = [] ∨ s.startRoom x.val (clsNo c) = false ∨ s.waitingTurn ≠ some x.val →
        s.ignores (.waitingMessageStart x c))
    ∧ (t.state = .free → s.ignores (.lifetimeDeadline i))
    ∧ (t.state = .waitRsp → t.wait ≠ .poison → s.settlesTo (.lifetimeDeadline i)
        (((s.start.reachDeadline t.lifeDl).updTxn i.toNat fun t => { t with timedOut := true, lifeOver := true }).wake i.toNat))
    ∧ (let u := ((s.start.reachDeadline t.lifeDl).countGlobal 7).log 0x0107 1 [(4, i.toNat), (1, tstateNo t.state), (2, t.recipe), (1, t.step)]
       (t.state = .draining → s.settlesTo (.lifetimeDeadline i) ((u.voidOf i.toNat).freeTxn i.toNat 2))
       ∧ (t.state = .running ∨ t.state = .waitOrder ∨ t.state = .waitHold ∨ t.state = .waitRsp ∧ t.wait = .poison → s.settlesTo (.lifetimeDeadline i)
          (((u.updTxn i.toNat fun t => { t with state := .running }).quarantine i.toNat).endError i.toNat)))
    ∧ (t.state = .waitRsp → t.wait = .birsp → t.snoopTimer = true → s.settlesTo (.snoopDeadline i)
        (((s.start.reachDeadline t.snoopDl).updTxn i.toNat fun t => { t with timedOut := true }).wake i.toNat))
    ∧ (t.state ≠ .waitRsp ∨ t.wait ≠ .birsp ∨ t.snoopTimer = false → s.ignores (.snoopDeadline i))

/-- A pick sends an eligible snoop first, then a response; gates, meters and Hazel run at their times. EGRESS_PICK at an edge port that is up, or at a trunk that is up with replay room and no message to send again, keeps an edge partner's credits, skips voided entries and sends what the pick chooses: an eligible head of class SNOOP before everything, and an eligible head of class RESPONSE before everything but a snoop, each without touching a tag; where the pick finds nothing, a trunk with messages in its open flit closes the flit, and else the slot is empty. A trunk that has messages to send again packs the first of them if its credits allow, or closes its open flit. With the link down or the replay buffer full the pick has no effect. GATE_BOUNDARY lets fabric time reach the next boundary of the gate list in force, and a new list takes over when its time has come; without a boundary it has no effect. METER_REFRESH refills every valid tenant's meter and shaper. In SAFE and in RESET a HAZEL_PASS does nothing; else it lets fabric time reach the end of the audit period and audits every cell. Where the spec leaves a point open the statement follows the model's choice (log entries 5, 19 and 75). Rests on 04_switch_core.md: R86; 08_traffic_scheduling.md: R164, R170, R173, R175; 18_modes_and_startup.md: R411. -/
def Obligations.EgressPicksSnoopsAndResponsesFirst : Prop :=
  ∀ (s : State) (x : PointId) (cr : BitVec 12) (f : RecordFault),
    (s.pointUp x.val = false ∨ 64 ≤ x.val ∧ 1536 ≤ (s.trunk (x.val - 64)).outstanding → s.ignores (.egressPick x cr f))
    ∧ (s.pointUp x.val = true → x.val < 64 ∨ (s.trunk (x.val - 64)).outstanding < 1536 ∧ (s.trunk (x.val - 64)).resend = [] →
        let t : State := if x.val < 64 then { s.start with dp.credits := s.dp.credits.set x.val cr.toNat } else s.start
        let v := (t.skipVoids x.val).2
        (∀ (k : Nat) (e : QEntry), v.selectHead x.val 0 cr = some (k, e) →
          s.settlesTo (.egressPick x cr f) (v.sendPicked x.val 0 k e f))
        ∧ (∀ (k : Nat) (e : QEntry), v.selectHead x.val 0 cr = none → v.selectHead x.val 1 cr = some (k, e) →
          s.settlesTo (.egressPick x cr f) (v.sendPicked x.val 1 k e f))
        ∧ (∀ (q k : Nat) (e : QEntry), (v.pickEntry x.val cr).1 = some (q, k, e) →
          s.settlesTo (.egressPick x cr f) ((v.pickEntry x.val cr).2.sendPicked x.val q k e f))
        ∧ ((v.pickEntry x.val cr).1 = none → s.settlesTo (.egressPick x cr f)
            (let w := (v.pickEntry x.val cr).2
             if 64 ≤ x.val ∧ ¬ (w.trunk (x.val - 64)).openFlit.isEmpty = true then w.closeFlit (x.val - 64)
             else w.emptySlot x.val cr (t.skipVoids x.val).1)))
    ∧ (∀ m rest, 64 ≤ x.val → s.pointUp x.val = true → (s.trunk (x.val - 64)).outstanding < 1536 →
        (s.trunk (x.val - 64)).resend = m :: rest →
        s.settlesTo (.egressPick x cr f)
          (if (s.trunk (x.val - 64)).creditsFor m.cls m.msg = true then
            (let w := (s.start.updTrunk (x.val - 64) fun t => { t with resend := rest }).packMsg (x.val - 64) m
             if rest.isEmpty = true then w.planBack ((x.val - 64) ^^^ 1) else w)
          else if (s.trunk (x.val - 64)).openFlit.isEmpty = true then s.start.focusSlot x.val 5 0
          else s.start.closeFlit (x.val - 64)))
    ∧ (let g := s.gateList x.val
       let b := nextGate (listAt g.1 g.2 s.sys.ft) g.2 s.sys.ft
       (b = none → s.ignores (.gateBoundary x))
       ∧ (∀ n : Nat, b = some n →
          (g.2 = none → s.settlesTo (.gateBoundary x) (s.start.advanceTo n))
          ∧ (∀ (w : Nat) (l : GateList), g.2 = some (w, l) → w ≤ (s.start.advanceTo n).sys.ft →
            s.settlesTo (.gateBoundary x) { s.start.advanceTo n with
              dp.gateNow := s.dp.gateNow.set x.val l, dp.gateNext := s.dp.gateNext.set x.val none })))
    ∧ s.settlesTo .meterRefresh ((s.bank.tenants.find fun _ t => t.valid).foldl (fun u n =>
        { u with tab.meterState := u.tab.meterState.upd n fun st =>
          (st.refill (s.bank.meters.get n) s.sys.ft).shape (s.bank.meters.get n) s.sys.ft }) s.start)
    ∧ (s.sys.mode = .safe ∨ s.sys.mode = .reset → s.ignores .hazelPass)
    ∧ (s.sys.mode ≠ .safe → s.sys.mode ≠ .reset →
      let u := s.start.advanceTo (s.dp.lastHazel + s.tab.dirParam.hazelMs * 1000000)
      s.settlesTo .hazelPass
        (((u.dp.cells.keys ++ u.markedCells.filter fun c => !u.dp.cells.keys.contains c).mergeSort.eraseDups).foldl
          (fun w c => w.hazelCell u.markedCells c) { u with dp.lastHazel := u.sys.ft }))

/-- Snapshots, windows, telemetry, log freezes, archive copies and alert interrupts happen at their times. With a snapshot period set and the mode past PREPARE and not SAFE, SNAPSHOT_PERIOD lets fabric time reach the next multiple of the period and writes the next snapshot slot; BANDWIDTH_WINDOW ends its point's window at the next multiple of the window; TELEM_PERIOD, with telemetry on, sends one record for each counter block and valid focus at the next multiple. MASKABLE_FREEZE of a log not frozen takes a freeze that is due. ARCHIVE_DONE while a copy runs fills the archive slot and, after a freeze not for SAFE, the log resumes, and a LOG_FREEZE that waits for the copy completes with the slot. ALERT_IBI with an alert pending and interrupts enabled on an addressed port sends the latest alert's SEQ, at most once a millisecond. Where a condition does not hold there is no effect. Where the spec leaves a point open the statement follows the model's choice (log entries 5, 65 and 66). Rests on 19_observability.md: R421, R422, R425, R427, R429, R430. -/
def Obligations.ObservationEventsFollowFabricTime : Prop :=
  ∀ (s : State) (x : PointId) (k : Fin 2),
    let runs := s.sys.mode ≠ .reset ∧ s.sys.mode ≠ .prepare
    let quietly (i : Instr) (t : State) : Prop := exec i s = .next t.telemLogs.refresh
    let p := s.obs.select.snapshotMs * 1000000
    (s.obs.select.snapshotMs ≠ 0 → s.sys.mode ≠ .safe → runs →
      quietly .snapshotPeriod (s.start.advanceTo ((s.sys.ft / p + 1) * p)).takeSnapshot)
    ∧ (s.obs.select.snapshotMs = 0 ∨ s.sys.mode = .safe ∨ ¬ runs → quietly .snapshotPeriod s.start)
    ∧ (let w := (s.obs.points.get x.val).windowUs * 1000
       (runs → s.settlesTo (.bandwidthWindow x) ((s.start.advanceTo ((s.sys.ft / w + 1) * w)).endWindow x.val))
       ∧ (¬ runs → s.ignores (.bandwidthWindow x)))
    ∧ (s.obs.select.telemEnable = false ∨ ¬ runs → s.ignores .telemPeriod)
    ∧ (s.obs.select.telemEnable = true → runs →
        let p := Nat.max 1 s.obs.select.telemMs * 1000000
        let t := s.start.advanceTo ((s.sys.ft / p + 1) * p)
        let u := (List.range 80).foldl (fun v b => v.formRecord 0 b v.sys.ft (blockBytes v.obs.counters b)) t
        s.settlesTo .telemPeriod (((List.range 8).filter fun j => (u.obs.focus.get j).valid).foldl
          (fun v j => v.formRecord 2 j v.sys.ft (v.obs.focus.get j).bytes) u))
    ∧ (s.obs.status.frozen = false → quietly .maskableFreeze s.start.freezeDue)
    ∧ (s.obs.status.frozen = true → quietly .maskableFreeze s.start)
    ∧ (s.obs.status.archiving = false ∨ ¬ runs → quietly .archiveDone s.start)
    ∧ (s.obs.status.archiving = true → runs → s.freezeTicket = none →
        let t := s.start.archiveLog
        quietly .archiveDone (if t.obs.status.freezeCause = 2 then t else t.resumeLog)
        ∧ t.obs.status.archiveNext = s.obs.status.archiveNext + 1 ∧ t.obs.status.archiving = false
        ∧ t.obs.archiveSeq = s.obs.archiveSeq + 1)
    ∧ (∀ n : U32, (if k.val = 0 then s.obs.alert0 else s.obs.alert1) = some n →
        (if k.val = 0 then s.mgmt.i3c0 else s.mgmt.i3c1).ibiEnabled = true →
        (if k.val = 0 then s.mgmt.i3c0 else s.mgmt.i3c1).dynAddr ≠ none → s.sys.mode ≠ .reset →
        let t := (match if k.val = 0 then s.obs.ibi0 else s.obs.ibi1 with
          | some t => s.start.advanceTo (t + 1000000)
          | none => s.start).emit (.i3c k.val (alertBytes n))
        quietly (.alertIbi k) (if k.val = 0 then { t with obs.alert0 := none, obs.ibi0 := some t.sys.ft }
          else { t with obs.alert1 := none, obs.ibi1 := some t.sys.ft }))
    ∧ ((if k.val = 0 then s.obs.alert0 else s.obs.alert1) = none
        ∨ (if k.val = 0 then s.mgmt.i3c0 else s.mgmt.i3c1).ibiEnabled = false
        ∨ (if k.val = 0 then s.mgmt.i3c0 else s.mgmt.i3c1).dynAddr = none ∨ s.sys.mode = .reset → quietly (.alertIbi k) s.start)
    ∧ (∀ n : Nat, s.obs.status.archiving = true → runs → s.freezeTicket = some n →
        let t := s.start.archiveLog
        quietly .archiveDone ((if t.obs.status.freezeCause = 2 then t else t.resumeLog).complete n rcSuccess
          [BitVec.ofNat 8 s.obs.status.archiveNext.toNat]))

/-- Refilled buckets stay within their caps, and a request of c bytes is green, yellow or red by the tokens it finds. With refilled buckets at or below CBS × 1,000 and PBS_EBS × 1,000, and with the meter enabled, a request of c bytes (k = 1,000 × c tokens) in two-rate mode is red if the second bucket holds less than k, else yellow if the first does, else green, taking k from the second, or from both, buckets; in single-rate mode it is green if the first holds k, else yellow if the second does, else red, taking k from the one that paid. One byte counter, the colour's, grows by c. With the meter disabled every request is green and only GREEN_BYTES grows. Buckets at or below their caps stay so. Rests on 08_traffic_scheduling.md: R164, R165. -/
def Obligations.MetersColourByTheirBuckets : Prop :=
  ∀ (st : MeterState) (m : MeterCfg) (c t : Nat),
    let r := st.refill m t
    let k := c * 1000
    let out := st.meter m c t
    r.tc ≤ m.cbs * 1000 ∧ r.tpTe ≤ m.pbsEbs * 1000
    ∧ (m.meterEn = true → out.2.tc ≤ m.cbs * 1000 ∧ out.2.tpTe ≤ m.pbsEbs * 1000)
    ∧ (m.meterEn = false → out = (.green, { st with green := st.green + BitVec.ofNat 48 c }))
    ∧ (m.meterEn = true → m.srtcm = false →
      (out.1 = .red ↔ r.tpTe < k) ∧ (out.1 = .yellow ↔ k ≤ r.tpTe ∧ r.tc < k)
      ∧ (out.1 = .green → out.2.tc + k = r.tc ∧ out.2.tpTe + k = r.tpTe)
      ∧ (out.1 = .yellow → out.2.tc = r.tc ∧ out.2.tpTe + k = r.tpTe)
      ∧ (out.1 = .red → out.2.tc = r.tc ∧ out.2.tpTe = r.tpTe))
    ∧ (m.meterEn = true → m.srtcm = true →
      (out.1 = .green ↔ k ≤ r.tc) ∧ (out.1 = .yellow ↔ r.tc < k ∧ k ≤ r.tpTe)
      ∧ (out.1 = .green → out.2.tc + k = r.tc ∧ out.2.tpTe = r.tpTe)
      ∧ (out.1 = .yellow → out.2.tc = r.tc ∧ out.2.tpTe + k = r.tpTe)
      ∧ (out.1 = .red → out.2.tc = r.tc ∧ out.2.tpTe = r.tpTe))
    ∧ (out.2.green = if out.1 = .green then st.green + BitVec.ofNat 48 c else st.green)
    ∧ (out.2.yellow = if out.1 = .yellow then st.yellow + BitVec.ofNat 48 c else st.yellow)
    ∧ (out.2.red = if out.1 = .red then st.red + BitVec.ofNat 48 c else st.red)

/-- A management pair boots or is retired, applies the journal, is fenced on a mismatch or at its watchdog, and takes over at the end of a handover. PAIR_BOOT of a pair that is not BOOTING, or in RESET or PREPARE, has no effect; with an image that verifies the pair notes its version and becomes SYNCING, and ACTIVE where no other is; otherwise it is retired. JOURNAL_APPLY of a pair that is neither SYNCING nor STANDBY_READY has no effect; of an unreadable record it resynchronises the pair; otherwise the pair applies the records, and at the tail a SYNCING pair becomes STANDBY_READY. STANDBY_STALLED without an ACTIVE pair, or with a standby that is not SYNCING, has no effect; otherwise fabric time passes the 10 s, and the standby is retired and the event logged. A mismatch of a pair that is OFF or RETIRED, or in RESET, has no effect; otherwise the pair is FENCED, then RETIRED, and a handover starts if it was ACTIVE; a mismatch of the standby ends a handover under way, and the ACTIVE pair keeps service with the mode of the service it can give. WATCHDOG_EXPIRY does nothing while the debug bridge holds the crossbar, and otherwise fences the ACTIVE pair at the end of its period. HANDOVER_COMPLETE without a handover, with a debug hold, or with no STANDBY_READY pair has no effect; otherwise the other pair, or the old one where only it is STANDBY_READY, becomes ACTIVE and the mode returns. Where the spec leaves a point open the statement follows the model's choice (log entries 5, 38, 44 and 56). Rests on 15_management_plane.md: R337, R338, R339, R341, R342, R343; 18_modes_and_startup.md: R399. -/
def Obligations.PairsBootFollowTheJournalAndHandOver : Prop :=
  ∀ (s : State) (p q : Pair) (n : Nat) (u : Bool) (c : MismatchCause),
    let st := s.pairState p
    let k := if (s.pairRegs p).imageSlot then 1 else 0
    (st ≠ .booting ∨ s.sys.mode = .reset ∨ s.sys.mode = .prepare → s.ignores (.pairBoot p))
    ∧ (st = .booting → s.sys.mode ≠ .reset → s.sys.mode ≠ .prepare →
      (s.imageOk k = false → s.settlesTo (.pairBoot p) ((s.start.setPair p .retired).freezeMaskable 5))
      ∧ (s.imageOk k = true → s.settlesTo (.pairBoot p) (State.firstActive (State.setPair (s.start.updPair p fun r => { r with
          imageVersion := BitVec.ofNat 32 (s.imageField k 4 4), svn := BitVec.ofNat 8 (s.imageField k 8 1)
          revoke := BitVec.ofNat 4 (field (s.imageField k 8 4) 10 4), since := s.sys.ft, applied := 0 }) p .syncing))))
    ∧ (st ≠ .syncing → st ≠ .standbyReady → s.ignores (.journalApply p n u))
    ∧ (st = .syncing ∨ st = .standbyReady → s.settlesTo (.journalApply p n true) (s.start.resync p))
    ∧ (st = .syncing ∨ st = .standbyReady →
        let t : State := s.start.updPair p fun r => { r with applied := r.applied + BitVec.ofNat 32 (Nat.min n (s.behind p)) }
        (t.behind p = 0 → st = .syncing → s.hasActive = true → s.settlesTo (.journalApply p n false) (t.setPair p .standbyReady))
        ∧ (t.behind p ≠ 0 ∨ st = .standbyReady → s.settlesTo (.journalApply p n false) t))
    ∧ (s.active = none → s.ignores .standbyStalled ∧ s.ignores .watchdogExpiry)
    ∧ (s.active = some q →
      (s.pairState (otherPair q) ≠ .syncing → s.ignores .standbyStalled)
      ∧ (s.pairState (otherPair q) = .syncing → s.settlesTo .standbyStalled
          (State.log (State.retirePair (s.start.advanceTo ((s.pairRegs (otherPair q)).since + 10000000001)) (otherPair q))
            0x0503 1 [(1, 0), (1, pairNo (otherPair q)), (1, pairNo q)]))
      ∧ (s.mgmt.dbg.hold = true → s.ignores .watchdogExpiry)
      ∧ (s.mgmt.dbg.hold = false → s.settlesTo .watchdogExpiry (State.fencePair
          (s.start.advanceTo ((s.pairRegs q).kicked + (s.pairRegs q).wdtPeriod.toNat * 1000000)) q 3)))
    ∧ (st = .off ∨ st = .retired ∨ s.sys.mode = .reset → s.ignores (.lockstepMismatch p c))
    ∧ (st ≠ .off → st ≠ .retired → s.sys.mode ≠ .reset →
        let t : State := ((s.start.freezeMaskable 4).setPair p .fenced).retirePair p
        (st ≠ .active → t.sys.handover = none ∨ t.hasActive = false → s.settlesTo (.lockstepMismatch p c) t)
        ∧ (st ≠ .active → t.sys.handover ≠ none → t.hasActive = true →
            let u : State := { t with sys.handover := none }
            s.settlesTo (.lockstepMismatch p c) (if u.sys.mode = .handover then u.setMode u.serviceMode else u))
        ∧ (st = .active → s.settlesTo (.lockstepMismatch p c) (t.startHandover (match c with
            | .lockstep => 1
            | .sramParity => 2))))
    ∧ (s.sys.handover = none ∨ s.mgmt.dbg.hold = true ∨ s.sys.pairA ≠ .standbyReady ∧ s.sys.pairB ≠ .standbyReady →
        s.ignores .handoverComplete)
    ∧ (∀ (o : Pair), s.sys.handover ≠ none → s.mgmt.dbg.hold = false → o = (if s.sys.activePair then .b else .a) →
        (s.pairState (otherPair o) ≠ .standbyReady → s.pairState o = .standbyReady →
          s.settlesTo .handoverComplete (s.start.takeOver o o))
        ∧ (s.pairState (otherPair o) = .standbyReady →
        let t : State := s.start.takeOver o (otherPair o)
        s.settlesTo .handoverComplete t
        ∧ t.pairState (otherPair o) = .active
        ∧ t.pairState o = (if s.pairState o = .active then .standbyReady else s.pairState o)
        ∧ t.sys.handover = none
        ∧ t.sys.mode = (if s.sys.mode = .handover then t.serviceMode else s.sys.mode)
        ∧ t.sys.handoverCount = s.sys.handoverCount + 1))

/-- Clearing a capture, PEAK_CLR, WDT_KICK, BOOT_CONFIRMED and register writes change their registers and nothing else. FAULT_CAPTURE_CLEAR sets the checker's capture to its reset value and keeps its locks, its enable and the time of its last log record. PEAK_CLR copies TJ_NOW to TJ_PEAK. WDT_KICK restarts the watchdog of an ACTIVE pair and does nothing to another. BOOT_CONFIRMED is set by an ACTIVE pair once SERVICE has been entered, and burns the fuses where SVN_ADVANCE says so. A register write of the management pair needs an ACTIVE pair, and acts on MGMT_CSR as its check lets it; one to BAR0 of a port that is not a HOST port with its link up, or in RESET or PREPARE, has no effect; page 0 is the mailbox; in another page a write that touches the first four bytes rings the SQ doorbell, one that touches the next four the CQ doorbell, and others have no effect. Where the spec leaves a point open the statement follows the model's choice (log entries 4 and 5). Rests on 00_scope.md: R6; 07_access_control.md: R151; 15_management_plane.md: R339; 16_mailbox_commands.md: R360, R361; 18_modes_and_startup.md: R399; 20_security_and_debug.md: R439; 21_electrical_and_package.md: R458. -/
def Obligations.RegisterCommandsWriteTheirRegisters : Prop :=
  ∀ (s : State) (k : Fin 77) (p : Pair) (q : PortId) (off : BitVec 48) (n : Nat) (d : U64),
    exec (.faultCaptureClear k) s = .next { s.start with tab.checkers := s.tab.checkers.upd k.val fun c =>
        { locked := c.locked, enabled := c.enabled, lastLog := c.lastLog } }
    ∧ exec .peakClr s = .next { s.start with sys.thermal := { s.sys.thermal with peak := s.sys.thermal.now } }
    ∧ (s.pairState p = .active → exec (.wdtKick p) s = .next (s.start.updPair p fun r => { r with kicked := s.sys.ft }))
    ∧ (s.pairState p ≠ .active → exec (.wdtKick p) s = .next s.start)
    ∧ (s.active = none ∨ s.sys.status.bootConfirmed = true ∨ s.sys.served = false → exec .bootConfirmed s = .next s.start)
    ∧ (s.active = some p → s.sys.status.bootConfirmed = false → s.sys.served = true →
        let t : State := { s.start with sys.status := { s.sys.status with bootConfirmed := true } }
        (s.tab.policy.svnAdvance = false → exec .bootConfirmed s = .next t)
        ∧ (s.tab.policy.svnAdvance = true → exec .bootConfirmed s = .next { t with mgmt.fuses := { s.mgmt.fuses with
            svn := if s.mgmt.fuses.svn.toNat < (s.pairRegs p).svn.toNat then (s.pairRegs p).svn else s.mgmt.fuses.svn
            fwKeyRevoke := s.mgmt.fuses.fwKeyRevoke ||| (s.pairRegs p).revoke } }))
    ∧ (s.active = none → s.ignores (.registerWrite .csr off n d))
    ∧ (s.active = some p → s.settlesTo (.registerWrite .csr off n d)
        (s.start.access (masterNo (if p = .a then .pairA else .pairB)) 3 off.toNat (Nat.min n 8) d.toNat true).2)
    ∧ ((s.port q.val).role ≠ .host ∨ s.pointUp q.val = false ∨ s.sys.mode = .reset ∨ s.sys.mode = .prepare →
        s.ignores (.registerWrite (.bar0 q) off n d))
    ∧ ((s.port q.val).role = .host → s.pointUp q.val = true → s.sys.mode ≠ .reset → s.sys.mode ≠ .prepare →
        (off.toNat < 0x1000 →
          s.settlesTo (.registerWrite (.bar0 q) off n d) (s.start.writeMailbox q off.toNat ((leBytes d.toNat (Nat.min n 8)).take (0x1000 - off.toNat))))
        ∧ (0x1000 ≤ off.toNat →
          let o := off.toNat % 0x1000
          let b := Nat.min n 8
          let t : State := if o < 4 ∧ 0 < b then s.start.sqDoorbell q.val (off.toNat / 0x1000) else s.start
          s.settlesTo (.registerWrite (.bar0 q) off n d)
            (if o < 8 ∧ 4 < o + b then t.cqDoorbell q.val (off.toNat / 0x1000) else t)))

/-- A crossbar access is made only by its owner, is checked, and ends with data and a status or goes on as a transaction. CROSSBAR_ACCESS of a master that cannot request has no effect. While another master owns the crossbar, or for FABRIC while the MGMT point is at its quota, the request loses, and the master's back-off count doubles up to 4,096. Otherwise the master owns the crossbar, by its hold or a new grant with its back-off count at 4, and its access is made: one that its check refuses ends with the status of the check and without data; another reads or writes MGMT_CSR or the logical store and is answered with data and a status, but for a store write that must wait, or acts on FABRIC. The owner keeps the grant only while it holds it, a pair for at most 16 accesses and the scrub sequencer and the loader for 4. A master without a checker, the loader or the gateway, ends with an error outside its hardwired window. Where the spec leaves a point open the statement follows the model's choice (log entry 28). Rests on 07_access_control.md: R140, R147; 15_management_plane.md: R346, R347, R349, R350, R351. -/
def Obligations.CrossbarGrantsChecksAndAnswers : Prop :=
  ∀ (s : State) (m : Master) (sp : Space) (a : BitVec 51) (w : Bool) (n : Nat) (d : Line) (hold : Bool),
    let k := masterNo m
    let b := Nat.min n 64
    let i : Instr := .crossbarAccess m sp a w n d hold
    let mine := s.sys.owner = 7 ∨ s.sys.owner.toNat = k
    let full := sp = .fabric ∧ s.sharedRoom xMgmt = false
    (s.canRequest k = false → s.ignores i)
    ∧ (s.canRequest k = true → ¬ mine ∨ full →
        s.settlesTo i { s.start with sys.backoff := s.sys.backoff.modify k fun n => Nat.min 4096 (2 * n) })
    ∧ (s.canRequest k = true → mine → ¬ full →
        let g := if s.sys.owner.toNat = k then s.start else s.start.takeGrant k
        let c := (g.crossCheck k (spaceNo sp) a.toNat b w).2
        let done (v : Nat) (st : Nat) (t : State) := s.settlesTo i ((t.endAccess k hold).emit (.crossbar k v st))
        (∀ st : Nat, (g.crossCheck k (spaceNo sp) a.toNat b w).1 = some st → done 0 st c)
        ∧ ((g.crossCheck k (spaceNo sp) a.toNat b w).1 = none →
          (sp = .mgmtCsr → w = false → done (c.csrRead a.toNat b).1 (b2n (c.csrRead a.toNat b).2.1) (c.csrRead a.toNat b).2.2)
          ∧ (sp = .mgmtCsr → w = true →
              let act := m = .pairA ∧ c.sys.pairA = .active ∨ m = .pairB ∧ c.sys.pairB = .active
              let r := c.csrWrite (decide act) (decide (m = .loader)) a.toNat b d.toNat
              done 0 (b2n r.1) r.2)
          ∧ (sp = .logicalStore → w = false →
              done (c.storeRead a.toNat b).1 (b2n (c.storeRead a.toNat b).2.1) (c.storeRead a.toNat b).2.2)
          ∧ (∀ r : Bool × State, sp = .logicalStore → w = true → c.storeWrite a.toNat b d.toNat = some r → done 0 (b2n r.1) r.2)
          ∧ (sp = .logicalStore → w = true → c.storeWrite a.toNat b d.toNat = none → s.settlesTo i (c.endAccess k hold))
          ∧ (sp = .fabric →
              let r := c.fabricAccess k a.toNat b d.toNat w
              (∀ v st : Nat, r.1 = .now v st → done v st r.2) ∧ (r.1 = .later → s.settlesTo i (r.2.endAccess k hold)))))
    ∧ (∀ (g : State) (x b v : Nat), 4 ≤ k → hardwired k (spaceNo sp) x b w = false →
        g.access k (spaceNo sp) x b v w = (.now 0 1, g))
    ∧ (∀ g : State, (g.takeGrant k).sys.owner.toNat = k ∧ (g.takeGrant k).sys.heldCount = 0
        ∧ (k < g.sys.backoff.length → (g.takeGrant k).sys.backoff.getD k 0 = 4))
    ∧ (∀ g : State, let u := g.endAccess k hold
        u.sys.heldCount = g.sys.heldCount + 1
        ∧ (u.sys.owner = 7 ∨ hold = true ∧ u.sys.owner.toNat = k
            ∧ (m = .debug ∨ k < 2 ∧ u.sys.heldCount < 16 ∨ (m = .scrub ∨ m = .loader) ∧ u.sys.heldCount < 4)))

/-- A channel is retired and its pair relocated or lost; passes run at their period; sweeps start in order and end; live records drain. CHANNEL_RETIRED of a channel that is not in service, or whose cause has not passed its limit, has no effect; with its partner in service the channel is retired, the pair starts to move to the reserve if no other does, and the event is counted and logged; with the pair already moved it is retired too; otherwise the pair is lost, together with what a copy under way had not copied, and so is its part of the bitmaps. RELOCATION_DONE copies the whole pair but the blocks that checker 76 denies, and logs it, unless there is none to end. PATROL lets fabric time reach the end of the period and passes over the whole directory, except with a period of 0, in SAFE or before service. CANDIDATE_SWEEP takes the first queued sweep while fewer than four run, and starts it unless checker 76 denies the block. SWEEP_DONE of a sweep that is exhausted and has no rebuild left, with its set lost or its row available, writes the way INVALID unless the set is lost or checker 76 denies it, and logs; otherwise it has no effect. LIVE_LOG_DRAIN takes the oldest records off the live log. Where the spec leaves a point open the statement follows the model's choice (log entries 5, 41, 51 and 83). Rests on 06_directory_store.md: R125, R127, R128, R130, R132, R133, R134; 18_modes_and_startup.md: R403. -/
def Obligations.ChannelsPassesAndSweepsOfTheStore : Prop :=
  ∀ (s : State) (c : ChannelId) (cause : RetireCause) (set : BitVec 26) (way : Fin 16) (n : Nat),
    let p := c.val % 16
    let mate := if c.val < 16 then c.val + 16 else c.val - 16
    let sweep := s.dir.sweeps.find? fun w => w.set == set.toNat && w.way == way.val
    let due : Bool := match cause with
      | .write fails => decide (4 ≤ fails.toNat)
      | .retrain errors => decide (s.tab.dirParam.retrainErrors < errors.toNat)
      | .corrections => decide (s.tab.dirParam.correctionLimit < (s.dir.corrections.get c.val).length)
    let why := match cause with
      | .write _ => 0
      | .retrain _ => 1
      | .corrections => 2
    let logged (t : State) : State := ((t.countGlobal 87).log 0x0205 2 [(1, c.val), (1, why)]).freezeMaskable 5
    let gone : State := { s.start with dir.retired := s.dir.retired ||| BitVec.ofNat 32 (2 ^ c.val) }
    let lost (t : State) : State := State.loseBitmaps ((logged { t with
      dir.retired := t.dir.retired ||| BitVec.ofNat 32 (2 ^ c.val), dir.lost := t.dir.lost ||| BitVec.ofNat 16 (2 ^ p) }).log
        0x0207 3 [(1, p), (1, why)])
    (s.chanOk c.val = false ∨ due = false → s.ignores (.channelRetired c cause))
    ∧ (s.chanOk c.val = true → due = true →
        (s.chanOk mate = true → s.dir.reloc = none →
          s.settlesTo (.channelRetired c cause) (logged { gone with dir.reloc := some { pair := p } }))
        ∧ (s.chanOk mate = true → s.dir.reloc ≠ none → s.settlesTo (.channelRetired c cause) (logged gone))
        ∧ (s.chanOk mate = false →
          ((∀ r : Reloc, s.dir.reloc = some r → r.pair ≠ p) → s.settlesTo (.channelRetired c cause) (lost s.start))
          ∧ (∀ r : Reloc, s.dir.reloc = some r → r.pair = p →
            (r.done = true → s.settlesTo (.channelRetired c cause) (logged gone))
            ∧ (r.done = false →
              let k := s.start.free.1 % (pairBlocks + 1)
              let q := s.start.free.2.relocSkips p k
              s.settlesTo (.channelRetired c cause)
                (lost { q.2.copyPair p k q.1 with dir.reloc := some { pair := p, pointer := k, skipped := q.1 } })))))
    ∧ (s.dir.reloc = none → s.ignores .relocationDone)
    ∧ (∀ r : Reloc, s.dir.reloc = some r →
        (r.done = true ∨ s.sys.mode = .safe ∨ s.dir.lost.toNat.testBit r.pair = true → s.ignores .relocationDone)
        ∧ (r.done = false → s.sys.mode ≠ .safe → s.dir.lost.toNat.testBit r.pair = false →
          let q := s.start.relocSkips r.pair pairBlocks
          let t : State := q.2.copyPair r.pair pairBlocks q.1
          s.settlesTo .relocationDone (State.log
            { t with dir.reloc := some { r with pointer := pairBlocks, done := true, skipped := q.1 } }
            0x0206 0 [(1, r.pair), (1, 0)])))
    ∧ (s.tab.dirParam.patrolH = 0 ∨ s.sys.mode = .safe ∨ s.sys.served = false → s.ignores .patrol)
    ∧ (s.tab.dirParam.patrolH ≠ 0 → s.sys.mode ≠ .safe → s.sys.served = true →
        let t : State := s.start.advanceTo (s.dir.lastPatrol + s.tab.dirParam.patrolH * 3600000000000)
        let t : State := { t with dir.lastPatrol := t.sys.ft }
        s.settlesTo .patrol (t.scrubPass 0 939524096).2)
    ∧ (∀ rest : List (Nat × Nat), s.dir.sweepQueue = (set.toNat, way.val) :: rest → s.dir.sweeps.length < 4 → s.sys.mode ≠ .safe →
        let t : State := (s.start.scrubAsk set.toNat 1).2
        s.settlesTo (.candidateSweep set way) (if (s.start.scrubAsk set.toNat 1).1 = true then { t with
            dir.sweepQueue := rest, dir.sweeps := t.dir.sweeps ++ [{ set := set.toNat, way := way.val }] }
          else { t with dir.sweepQueue := rest }))
    ∧ (s.dir.sweepQueue.head? ≠ some (set.toNat, way.val) ∨ 4 ≤ s.dir.sweeps.length ∨ s.sys.mode = .safe →
        s.ignores (.candidateSweep set way))
    ∧ (sweep = none → s.ignores (.sweepDone set way))
    ∧ (∀ w : Sweep, sweep = some w →
        let row := if s.setLost set.toNat = true then some s.start else s.start.fetchSet set.toNat
        (w.exhausted = false ∨ w.running ≠ 0 ∨ s.sys.mode = .safe ∨ row = none → s.ignores (.sweepDone set way))
        ∧ (∀ t : State, w.exhausted = true → w.running = 0 → s.sys.mode ≠ .safe → row = some t →
          let u : State := (t.scrubAsk set.toNat 2).2
          let t : State := if (t.scrubAsk set.toNat 2).1 = true ∧ u.setLost set.toNat = false
            then u.writeWay set.toNat way.val dirFill else u
          s.settlesTo (.sweepDone set way) (State.log
            { t with dir.sweeps := t.dir.sweeps.filter fun v => !(v.set == set.toNat && v.way == way.val), dp.freed := true }
            0x0204 0 [(4, set.toNat), (1, way.val), (4, w.rebuilt), (4, w.poisoned)])))
    ∧ (∃ t : State, s.settlesTo (.liveLogDrain n) t ∧ t.sys.liveLog = s.sys.liveLog.drop n)

/-- A parity failure is handled by its memory: a table entry is damaged until Bolroth rewrites it, and a queue, entry or counter is set right. PARITY_FAILURE of an entry of a table, the dispatch table or a recipe word counts and logs it and marks the entry as damaged. Of a buffered record that has no queued message it has no effect; of its data it poisons the first queued message, or, as the record is written, makes it store and forward; of its header it drops the message, ends its transaction in error, or turns its last answer into the error answer. Of a transaction entry that is free it has no effect; with the ID intact the transaction ends in error, and otherwise its entry is freed. Of a conflict record or a busy line it makes the transaction time out. Of a directory cache row that holds the set it drops the copy. Of a counter that does not exist it has no effect; of another the counter reads 0 with OVF set. Of a dirty summary bit of a slot in use the bit reads 1. Four failed GDDR6 reads mark the channel's next read as failed, and changed bits of a byte change one copy. PARITY_REPAIR of an entry that is not damaged, or without a pair that can execute, has no effect; otherwise the entry is damaged no longer; the home tile map is first brought up to date, and a RELEASING translation entry is written EMPTY at the completion timeout and 2 µs after the failure. Where the spec leaves a point open the statement follows the model's choice (log entries 5, 52 and 83). Rests on 06_directory_store.md: R121, R123, R135, R136; 10_migration_and_mirroring.md: R211. -/
def Obligations.ParityFailuresDamageAndAreRepaired : Prop :=
  ∀ (s : State),
    let logged (g e : Nat) : State := (s.start.countGlobal g).log 0x010A 2 [(1, g), (4, e)]
    (∀ (m : ParityMem) (g e : Nat), (∃ n, (m, g, e) = (.window n, 177, n.toNat)) ∨ (∃ n, (m, g, e) = (.tenant n, 177, n.toNat))
        ∨ (∃ n, (m, g, e) = (.sharer n, 177, n.val)) ∨ (∃ k r, (m, g, e) = (.checkerRegion k r, 177, 64 * k.val + r.val))
        ∨ (∃ n, (m, g, e) = (.translation n, 177, n.toNat)) ∨ (∃ n, (m, g, e) = (.homeTile n, 177, n.toNat))
        ∨ (∃ n, (m, g, e) = (.snoopAddr n, 177, n.toNat)) ∨ (∃ r k, (m, g, e) = (.recipeWord r k, 178, 16 * r.toNat + k.toNat))
        ∨ (∃ n, (m, g, e) = (.dispatch n, 178, n.toNat)) →
      s.settlesTo (.parityFailure m) ((logged g e).markDamaged m))
    ∧ (∀ (t : State) (m n : ParityMem), (t.markDamaged m).isDamaged n = true ↔ t.isDamaged n = true ∨ n = m)
    ∧ (∀ m : ParityMem, s.isDamaged m = false ∨ s.executorFree = false → s.ignores (.parityRepair m))
    ∧ (∀ m : ParityMem, s.isDamaged m = true → s.executorFree = true →
      let t : State := { s.start with tab.damaged := s.tab.damaged.filter (·.1 ≠ m), dp.freed := true }
      let failed := ((s.tab.damaged.find? (·.1 == m)).map (·.2)).getD 0
      s.settlesTo (.parityRepair m) (match m with
        | .homeTile _ => t.drainLive s.sys.liveLog.length
        | .translation n =>
          if (s.tab.tt.get n.toNat).state = .releasing then
            let u := t.advanceTo (failed + s.tab.ident.completionMs * 1000000 + 2000)
            { u with tab.tt := u.tab.tt.set n.toNat {} }
          else t
        | _ => t))
    ∧ (∀ x c w, s.queuedRecord x.val c.val = none →
        s.ignores (.parityFailure (.bufferData x c w)) ∧ s.ignores (.parityFailure (.bufferHeader x c)))
    ∧ (∀ x c k e, s.queuedRecord x.val c.val = some (k, e) →
        let q := 8 * x.val + c.val
        let t := logged 67 (e.record.getD 0)
        s.settlesTo (.parityFailure (.bufferData x c false))
          { t with dp.queues := t.dp.queues.upd q fun l => l.set k { e with msg := { e.msg with poison := true } } }
        ∧ s.settlesTo (.parityFailure (.bufferData x c true)) { s.start with
            dp.recs := s.dp.recs.upd (e.record.getD 0) (·.map fun r => { r with badWrite := true })
            dp.queues := s.dp.queues.upd q (·.modify k fun e => { e with sf := true }) }
        ∧ (e.txn = none → s.settlesTo (.parityFailure (.bufferHeader x c)) ((t.dequeueAt x.val c.val k).releaseRec e.record))
        ∧ (∀ i, e.txn = some i →
            (e.final = false → s.settlesTo (.parityFailure (.bufferHeader x c))
              (((t.dequeueAt x.val c.val k).releaseRec e.record).failSent i))
            ∧ (∀ m u, e.final = true → (s.txn i).errorAnswer = some (m, u) → s.settlesTo (.parityFailure (.bufferHeader x c))
                { t with dp.queues := t.dp.queues.upd q fun l => l.set k { e with msg := m, units := u } })
            ∧ (e.final = true → (s.txn i).errorAnswer = none → s.settlesTo (.parityFailure (.bufferHeader x c))
                ((t.dequeueAt x.val c.val k).freeTxn i))))
    ∧ (∀ i ok, (s.txn i.toNat).state = .free → s.ignores (.parityFailure (.txn i ok)))
    ∧ (∀ i, (s.txn i.toNat).state ≠ .free →
        s.settlesTo (.parityFailure (.txn i true)) (((logged 176 i.toNat).quarantine i.toNat).endError i.toNat)
        ∧ s.settlesTo (.parityFailure (.txn i false)) ((logged 176 i.toNat).freeTxn i.toNat 2))
    ∧ (∀ n, ((s.dp.conflicts.get n.toNat).valid = false → s.ignores (.parityFailure (.conflict n)))
        ∧ ((s.dp.conflicts.get n.toNat).valid = true → s.settlesTo (.parityFailure (.conflict n))
            ((logged 179 n.toNat).forceTimeout (s.dp.conflicts.get n.toNat).txn)))
    ∧ (∀ n, (s.dp.lines.get n.toNat = none → s.ignores (.parityFailure (.activeLine n)))
        ∧ (∀ l, s.dp.lines.get n.toNat = some l → s.settlesTo (.parityFailure (.activeLine n))
            ((logged 179 (n.toNat % 2 ^ 32)).forceTimeout l.holder)))
    ∧ (∀ n, s.cachedSet n.toNat = none → s.ignores (.parityFailure (.dirCache n)))
    ∧ (∀ n c, s.cachedSet n.toNat = some c → s.settlesTo (.parityFailure (.dirCache n)) (State.logParity
        { s.start with dir.cache := s.dir.cache.upd (cacheRow n.toNat) fun row => row.filter (·.set ≠ n.toNat) } 82 n.toNat))
    ∧ (∀ n, 5120 ≤ n.toNat → s.ignores (.parityFailure (.counter n)))
    ∧ (∀ n, n.toNat < 5120 → s.settlesTo (.parityFailure (.counter n)) (State.logParity
        { s.start with obs.counters := s.obs.counters.upd n.toNat fun c => { c with value := 0, ovf := true } } 180 n.toNat))
    ∧ (∀ k b, ((s.mig k.toNat).valid = false → s.ignores (.parityFailure (.dirtySummary k b)))
        ∧ ((s.mig k.toNat).valid = true → s.settlesTo (.parityFailure (.dirtySummary k b))
            { s.start with wq.summary := s.wq.summary.set (2048 * k.toNat + b.toNat) true }))
    ∧ (∀ c f, (f.toNat < 4 → s.ignores (.parityFailure (.gddrRead c f)))
        ∧ (4 ≤ f.toNat → s.settlesTo (.parityFailure (.gddrRead c f))
            { s.start with dir.readErr := s.dir.readErr ||| BitVec.ofNat 32 (2 ^ c.val) }))
    ∧ (∀ a one f, s.settlesTo (.parityFailure (.gddrByte a one f)) (s.start.flipByte a.toNat one f))

/-- Each reset enters RESET with its kind; a cold reset keeps fuses, flash and, while the rails hold, the archive; a warm one what R402 names. POWER_ON, COLD_PIN and RAIL_FAULT bring the state after a cold reset with their KIND; a rail fault also notes the rail; below 125 °C THERMTRIP is only a reading, and from there it latches and resets. WARM_PIN in RESET has no effect, and otherwise ends debug, freezes the log and resets warm. A cold reset is in RESET with no command table, transaction or queue pair, keeps fuses, flash and owner chain, and keeps the archive, but for slots that fail their check, only while GDDR6 keeps its contents. A warm reset is in RESET with KIND 3, keeps fabric time, the log and the archive likewise, BOOT_SLOT, BOOT_CONFIRMED, SAFE_CAUSE, the slot channels' power, the tenant tables and generations, the checkers' regions, locks, the current image and the live log, loses counters, transactions, journal, tickets, sessions and the epoch in force, and disables every queue pair while keeping its assignment. That GDDR6 keeps the archive across a THERMTRIP, and that KIND stays there, is the model's choice (log entry 43). Where the spec leaves a point open the statement follows the model's choice (log entries 37 and 43). Rests on 06_directory_store.md: R129; 07_access_control.md: R155; 09_work_queues.md: R181; 14_slot_power.md: R332, R333; 18_modes_and_startup.md: R393, R394, R396, R402; 21_electrical_and_package.md: R456. -/
def Obligations.ResetsKeepWhatTheyKeep : Prop :=
  ∀ (s : State) (r : Rail) (tj : Byte) (k : Fin 28) (kind : BitVec 3) (keep : Bool),
    (let t := s.start.cold 0 false
     s.settlesTo .powerOn { t with sys.thermal := {}, sys.railPg := 0xF })
    ∧ s.settlesTo .coldPin (s.start.checkArchives.cold 1 true)
    ∧ (let t := s.start.cold 2 false
       s.settlesTo (.railFault r) { t with
         sys.railPg := s.sys.railPg &&& ~~~ BitVec.ofNat 4 (2 ^ railNo r)
         sys.railFault := match r with
           | .core => 1
           | .serdes => 2
           | .gddr => 3
           | .aux => 0 })
    ∧ (tj.toNat < 125 → s.settlesTo (.thermtrip tj k) (s.start.readTj tj k))
    ∧ (125 ≤ tj.toNat →
        let t := s.start.readTj tj k
        let c := s.start.checkArchives.cold s.sys.status.kind true
        s.settlesTo (.thermtrip tj k) { c with sys.thermal := { t.sys.thermal with trip := true } })
    ∧ (s.sys.mode = .reset → s.ignores .warmPin)
    ∧ (s.sys.mode ≠ .reset → s.settlesTo .warmPin ((s.start.endDebug.setMode .reset).freezeAlways 3).warm)
    ∧ (let c := s.cold kind keep
       c.sys.mode = .reset ∧ c.sys.ft = 0 ∧ c.sys.status.kind = kind ∧ c.tab = {} ∧ c.dp = {} ∧ c.wq = {} ∧ c.edge = {}
       ∧ c.trk = {} ∧ c.mgmt.fuses = s.mgmt.fuses ∧ c.mgmt.flash = s.mgmt.flash ∧ c.mgmt.ownerChain = s.mgmt.ownerChain
       ∧ c.mgmt.cfg = {} ∧ c.mgmt.sessions = {} ∧ c.obs.counters = {}
       ∧ (keep = true → c.obs.archives = s.obs.archives) ∧ (keep = false → c.obs.archives = {} ∧ c.dir = {})
       ∧ c.dir.copy0 = {} ∧ c.dir.copy1 = {} ∧ c.dir.retired = 0 ∧ c.obs.log = {})
    ∧ (let w := s.warm
       w.sys.mode = .reset ∧ w.sys.ft = s.sys.ft ∧ w.sys.status.kind = 3 ∧ w.sys.status.bootSlot = s.sys.status.bootSlot
       ∧ w.sys.status.bootConfirmed = s.sys.status.bootConfirmed ∧ w.sys.status.safeCause = s.sys.status.safeCause
       ∧ w.sys.liveLog = s.sys.liveLog ∧ w.sys.journal = {} ∧ w.tab.gens = s.tab.gens ∧ w.tab.epoch = 0
       ∧ w.tab.bank0 = { regions := s.tab.bank0.regions, tenants := s.tab.bank0.tenants }
       ∧ w.tab.bank1 = { regions := s.tab.bank1.regions, tenants := s.tab.bank1.tenants }
       ∧ w.dp.txns = {} ∧ w.dir.retired = s.dir.retired ∧ w.obs.log = s.obs.log ∧ w.obs.archives = s.checkArchives.obs.archives
       ∧ w.obs.counters = {} ∧ w.mgmt.fuses = s.mgmt.fuses ∧ w.mgmt.cfg.current = s.mgmt.cfg.current
       ∧ w.mgmt.cfg.digest = s.mgmt.cfg.digest ∧ w.mgmt.ticket = 1 ∧ w.mgmt.sessions = {}
       ∧ (s.slots.chans.wf = true → ∀ n : Nat, (w.slots.chans.get n).state = (s.slots.chans.get n).state
          ∧ (w.slots.chans.get n).energy = (s.slots.chans.get n).energy ∧ (w.slots.chans.get n).fault = (s.slots.chans.get n).fault)
       ∧ (s.tab.checkers.wf = true → ∀ c : Nat, (w.tab.checkers.get c).locked = (s.tab.checkers.get c).locked)
       ∧ (s.wq.qps.wf = true → ∀ q : Nat, (w.wq.qps.get q).qpGen = (s.wq.qps.get q).qpGen
          ∧ ((s.wq.qps.get q).state = .unassigned → (w.wq.qps.get q).state = .unassigned)
          ∧ ((s.wq.qps.get q).state ≠ .unassigned → (w.wq.qps.get q).state = .disabled
            ∧ (w.wq.qps.get q).tenant = (s.wq.qps.get q).tenant ∧ (w.wq.qps.get q).dbPage = (s.wq.qps.get q).dbPage)))

/-- RESET_RELEASE runs PREPARE to its first failure or to the boot choice; RELEASED lets both pairs boot and enters PROVISION. RESET_RELEASE outside RESET, or while THERMTRIP holds the part, has no effect. Otherwise the steps run in order: fuses that do not load, SRAM that cannot be repaired, straps without a speed, or a pair without a channel end in SAFE at their step; with none of these the frozen log is archived and the images are verified; where none verifies the part enters SAFE with cause NO_IMAGE, else the choice sets BOOT_SLOT and FALLBACK. RELEASED outside PREPARE, before step 7, or while the clock is stopped has no effect; otherwise the keys are loaded, after a cold reset the lock table of the chosen image with them, both pairs go to BOOTING with the chosen slot, every checker but 75 is enabled, and PROVISION is entered and logged. Where the spec leaves a point open the statement follows the model's choice (log entries 5, 37 and 56). Rests on 06_directory_store.md: R129; 07_access_control.md: R157; 15_management_plane.md: R338; 18_modes_and_startup.md: R394, R397, R398, R410. -/
def Obligations.PrepareRunsItsStepsAndReleases : Prop :=
  ∀ (s : State) (r : PrepareReport),
    (s.sys.mode ≠ .reset ∨ s.sys.thermal.trip = true → s.ignores (.resetRelease r))
    ∧ (s.sys.mode = .reset → s.sys.thermal.trip = false →
      let u1 := (State.setMode { s.start with sys.railPg := 0xF } .prepare).prepareStep 1
      let u2 := u1.prepareStep 2
      let u4 := ((u2.prepareStep 3).trainLinks r.linkUp).prepareStep 4
      let u6 := ((u4.retireMask r.trainFail).prepareStep 6).retireMask r.readFail
      let i : Instr := .resetRelease r
      (r.fusesOk = false → s.settlesTo i (u1.enterSafe 1))
      ∧ (r.fusesOk = true → r.sramOk = false → s.settlesTo i (u2.enterSafe 1))
      ∧ (r.fusesOk = true → r.sramOk = true → r.straps = 3 → s.settlesTo i (u4.enterSafe 1))
      ∧ (r.fusesOk = true → r.sramOk = true → r.straps ≠ 3 → u6.pairGone = true → s.settlesTo i (u6.enterSafe 1))
      ∧ (r.fusesOk = true → r.sramOk = true → r.straps ≠ 3 → u6.pairGone = false →
          s.settlesTo i (if u6.obs.status.frozen ∧ ¬ u6.obs.archived then u6.archiveLog else u6).bootVerify))
    ∧ (let v : State := { s with sys.status := { s.sys.status with slot0Ok := s.imageOk 0, slot1Ok := s.imageOk 1, prepareStep := 7 } }
       (s.imageOk 0 = false → s.imageOk 1 = false → s.bootVerify = v.enterSafe 2)
       ∧ (∀ slot fb : Bool, bootChoice (s.imageOk 0) (s.imageOk 1) (s.imageField 0 4 4) (s.imageField 1 4 4) (s.sys.status.kind == 3)
          s.sys.status.bootConfirmed s.sys.status.bootSlot = some (slot, fb) →
          s.bootVerify = { v with sys.status := { v.sys.status with bootSlot := slot, fallback := fb } }))
    ∧ (s.sys.mode ≠ .prepare ∨ s.sys.stopped = true ∨ s.sys.status.prepareStep ≠ 7 → s.ignores .released)
    ∧ (s.sys.mode = .prepare → s.sys.stopped = false → s.sys.status.prepareStep = 7 →
        let u := s.start.lockStep
        let slot := u.sys.status.bootSlot
        let boot (r : PairRegs) : PairRegs := { r with imageSlot := slot, since := u.sys.ft }
        let v := (((u.setPair .a .booting).setPair .b .booting).updPair .a boot).updPair .b boot
        let v := State.prepareStep { v with
          tab.checkers := ((List.range 77).filter (· ≠ 75)).foldl (fun t k => t.upd k fun c => { c with enabled := true })
            v.tab.checkers
          sys.status := { v.sys.status with bootConfirmed := false } } 9
        let w := (if v.obs.status.frozen = true then v.resumeLog else v).setMode .provision
        let t := w.log 0x050D 0 [(1, b2n slot), (1, b2n w.sys.status.fallback), (1, w.sys.status.kind.toNat)]
        s.settlesTo .released t
        ∧ t.sys.mode = .provision ∧ t.sys.status.prepareStep = 9 ∧ t.sys.pairA = .booting ∧ t.sys.pairB = .booting
        ∧ t.sys.regsA.imageSlot = s.sys.status.bootSlot ∧ t.sys.regsB.imageSlot = s.sys.status.bootSlot
        ∧ t.mgmt.keystoreReady = true ∧ t.sys.status.bootConfirmed = false
        ∧ (let k := if s.sys.status.bootSlot then 1 else 0
           s.sys.status.kind ≠ 3 → t.mgmt.lockTable = s.imageBytes k (s.imageField k 16 4) (40 * s.imageField k 20 2))
        ∧ (s.tab.checkers.wf = true → ∀ k < 77, k ≠ 75 → (v.tab.checkers.get k).enabled = true))

/-- Control parity and 110 °C enter SAFE once; readings set the peak and the warning; a die-to-die link is repaired or its die is retired. CONTROL_PARITY and THERMAL at 110 °C or more enter SAFE with their cause, unless the part is in RESET or already in SAFE: the mode and cause are set, the log freezes, a snapshot is taken, waiting records are answered, every transaction ends, and the work queues stop. Every reading sets TJ_NOW and the hottest sensor, raises the peak, and asserts the warning from 100 °C until below 98 °C. A lane repair of a link that is up, with a spare left, takes up to 1 µs and counts; without one the link fails. A failing link that is already lost, or in RESET, has no effect; otherwise its die is retired and its ports or trunks go down. A link that is down ignores a lane repair. Where the spec leaves a point open the statement follows the model's choice (log entries 5 and 37). Rests on 18_modes_and_startup.md: R406, R410, R411; 21_electrical_and_package.md: R456, R465. -/
def Obligations.SafeTemperatureAndDieLinks : Prop :=
  ∀ (s : State) (tj : Byte) (k : Fin 28) (j : Fin 6) (b : Bool),
    (∀ u c, u.sys.mode = .reset ∨ u.sys.mode = .safe → State.enterSafe u c = u)
    ∧ (∀ u c, u.sys.mode ≠ .reset → u.sys.mode ≠ .safe → State.enterSafe u c =
        (let v := u.setMode .safe
         let v : State := { v with sys.status := { v.sys.status with safeCause := BitVec.ofNat 4 c } }
         let v := (v.freezeAlways 2).takeSnapshot.safeWaiting.endAllTxns
         v.wq.qps.keys.foldl (fun v q => v.stopLinkDown q) v))
    ∧ s.settlesTo .controlParity (s.start.enterSafe 3)
    ∧ (tj.toNat < 110 → s.settlesTo (.thermal tj k) (s.start.readTj tj k))
    ∧ (110 ≤ tj.toNat → s.settlesTo (.thermal tj k) ((s.start.readTj tj k).enterSafe 4))
    ∧ s.settlesTo (.thermWarn tj k) (s.start.readTj tj k)
    ∧ (let t := s.readTj tj k
       t.sys.thermal.now = tj ∧ t.sys.thermal.hot = BitVec.ofNat 5 k.val ∧ t.sys.mode = s.sys.mode
       ∧ t.sys.thermal.peak.toNat = Nat.max s.sys.thermal.peak.toNat tj.toNat ∧ t.sys.thermal.trip = s.sys.thermal.trip
       ∧ (100 ≤ tj.toNat → t.sys.thermal.warn = true) ∧ (tj.toNat < 98 → t.sys.thermal.warn = false)
       ∧ (98 ≤ tj.toNat → tj.toNat < 100 → t.sys.thermal.warn = s.sys.thermal.warn))
    ∧ (let l := s.sys.links.getD j.val {}
       let q (t : State) := exec (.d2dLaneRepair j b) s = .next t.telemLogs.refresh
       (l.up = false → q s.start)
       ∧ (l.up = true → b = true → q ((s.start.pass 1000).updLink j.val fun l =>
            { l with repaired := if l.repaired = 15 then 15 else l.repaired + 1 }))
       ∧ (l.up = true → b = false → q (s.start.dieLinkFailure j.val)))
    ∧ (s.sys.dieLost.toNat.testBit j.val = true ∨ s.sys.mode = .reset → s.ignores (.dieLinkFailure j))
    ∧ (s.sys.dieLost.toNat.testBit j.val = false → s.sys.mode ≠ .reset →
        let t := (State.updLink { s.start with sys.dieLost := s.sys.dieLost ||| BitVec.ofNat 6 (2 ^ j.val) } j.val fun l =>
          { l with up := false, modules := 0 }).freezeMaskable 5
        (j.val < 4 → s.settlesTo (.dieLinkFailure j) (((List.range 16).map (16 * j.val + ·)).foldl (fun v p =>
          (v.linkLost p 0 false).updPort p fun k => { k with training := false }) t))
        ∧ (j.val = 4 → s.settlesTo (.dieLinkFailure j) ((List.range 8).foldl (fun v n =>
          (v.leaveActive n 0x10).updTrunk n fun k => { k with phase := .off, retrying := false }) t))
        ∧ (j.val = 5 → s.settlesTo (.dieLinkFailure j) t))

/-- TIME_IN edges set presence, align or steer the root and set lock; a loss clears them; PPS_OUT leaves at each whole second. In RESET TIME_IN_EDGE has no effect. Without presence, an edge that does not follow the last by a second is only noted; one that does sets presence and, at the root and 1 µs or more from the second, steps fabric time to it. With presence, the edge's δ is recorded, lock is set by the eighth good edge in a row and cleared beyond 1 µs, the root steps forward by a δ of −1 µs or less and else steers by its rate, another switch only measures, and the root is chosen again. TIME_IN_LOST lets fabric time pass 2 s from the last edge and clears presence and lock, but where fabric time then wraps; without an edge it has no effect. PPS_MISSED counts only with presence, up to 255. PPS_OUT lets fabric time reach the next second and sends the pulse, except in RESET. δ lies within half a second. Where the spec leaves a point open the statement follows the model's choice (log entries 5, 31 and 66). Rests on 13_trunk_link_layer.md: R303, R304; 21_electrical_and_package.md: R463. -/
def Obligations.TimeInAndPpsOut : Prop :=
  ∀ (s : State),
    let p := s.sys.pps
    let t := s.sys.ft
    let spaced : Bool := match p.last with
      | some l => decide (999900000 ≤ t - l) && decide (t - l ≤ 1000100000)
      | none => false
    let d := ppsDelta t
    let good := if d.natAbs < 50 then p.good + 1 else 0
    let locked := if 1000 < d.natAbs then false else p.locked || decide (8 ≤ good)
    let seen : State := { s.start with sys.pps := { p with error := d, last := some t, good := good, locked := locked } }
    (s.sys.mode = .reset → s.ignores .timeInEdge)
    ∧ (s.sys.mode ≠ .reset → (p.present = false → spaced = false → s.settlesTo .timeInEdge { s.start with sys.pps := { p with last := some t } })
    ∧ (p.present = false → spaced = true →
        let u : State := { s.start with sys.pps := { p with present := true, last := some t, good := 0 } }
        (t % 1000000000 < 1000 ∨ s.isRoot = false → s.settlesTo .timeInEdge u)
        ∧ (1000 ≤ t % 1000000000 → s.isRoot = true →
          let v := u.stepTime 0 (1000000000 - t % 1000000000)
          s.settlesTo .timeInEdge { v with sys.pps := { v.sys.pps with last := some v.sys.ft } }))
    ∧ (p.present = true → s.isRoot = false → s.settlesTo .timeInEdge seen.chooseRoot)
    ∧ (p.present = true → s.isRoot = true → d ≤ -1000 →
        let v := seen.stepTime 0 d.natAbs
        s.settlesTo .timeInEdge
          (State.chooseRoot { v with sys.pps := { v.sys.pps with last := some v.sys.ft }, sys.ppb := 0 }))
    ∧ (p.present = true → s.isRoot = true → -1000 < d →
        s.settlesTo .timeInEdge (State.chooseRoot { seen with sys.ppb := steerRate (-d) 10 1000000000 })))
    ∧ (p.last = none → s.ignores .timeInLost)
    ∧ (∀ l : Nat, p.last = some l →
        let v := s.start.advanceTo (l + 2000000000)
        (t < l + 2000000000 → 2 ^ 64 ≤ l + 2000000000 → s.settlesTo .timeInLost v)
        ∧ (l + 2000000000 ≤ t ∨ l + 2000000000 < 2 ^ 64 → s.settlesTo .timeInLost (State.chooseRoot { v with
          sys.pps := { v.sys.pps with present := false, locked := false, good := 0, last := none }
          sys.ppb := if v.isRoot then 0 else v.sys.ppb })))
    ∧ (p.present = true → exec .ppsMissed s = .next { s.start with
        sys.pps := { p with missed := if p.missed = 0xFF then 0xFF else p.missed + 1 } })
    ∧ (p.present = false → exec .ppsMissed s = .next s.start)
    ∧ (s.sys.mode = .reset → exec .ppsOut s = .next s.start.telemLogs.refresh)
    ∧ (s.sys.mode ≠ .reset → exec .ppsOut s = .next
        (State.refresh (State.telemLogs ((s.start.advanceTo ((t / 1000000000 + 1) * 1000000000)).emit .pps))))
    ∧ (-500000000 < d ∧ d ≤ 500000000 ∧ (1000000000 : Int) ∣ (t : Int) - d)

/-- At the end of MEASURE no failing lane gives SKIP 8, one names that lane, and two end the attempt with LANES_SHORT. At the end of the measurement window in MEASURE a lane fails when it is unlocked, or when its errors times 10^9 exceed ACCEPT_PPB times the bits measured. In native mode, with no failing lane SKIP is 8, with exactly one SKIP names that lane, both with the trunk in ANNOUNCE, and with two or more the attempt fails with LANES_SHORT. In compatibility mode any failing lane among 0 to 7 ends the attempt with LANES_SHORT. Each window's errors and bits stand in the lane's registers, and a trunk that goes on announces its SKIP. In ACTIVE in native mode a window measures the idle lane; in any other state it has no effect. Rests on 12_trunk_physical.md: R258. -/
def Obligations.MeasureEndSetsSkip : Prop :=
  ∀ (s : State) (t : TrunkId) (errors : List Nat) (kbits : U32),
    let k := s.trunk t.val
    let p := s.trunkParam t.val
    let bits := kbits.toNat * 1024
    let fails (n : Nat) : Prop :=
      k.locked.toNat.testBit n = false ∨ errors.getD n 0 * 1000000000 > p.acceptPpb * bits
    let noted (k : Trunk) : List LaneQ := k.lanes.zipIdx.map fun q =>
      { q.1 with prbsErrors := BitVec.ofNat 32 (errors.getD q.2 0), prbsKbits := kbits }
    let skip (n : Nat) : State := State.emit (State.setSpare (State.updTrunk
      (s.start.updTrunk t.val fun k => { k with lanes := noted k }) t.val fun k => { k with phase := .announce, rxSkip := n }) t.val)
      (.flit t.val 16 (annGroup n true false p.compat p.rate))
    let short : State := (s.start.updTrunk t.val fun k => { k with lanes := noted k }).failAttempt t.val 2
    let i : Instr := .measWindow t errors kbits
    (k.phase = .measure →
      (p.compat = false → (∀ n < 9, ¬ fails n) → s.settlesTo i (skip 8))
      ∧ (∀ n < 9, p.compat = false → fails n → (∀ m < 9, fails m → m = n) → s.settlesTo i (skip n))
      ∧ (∀ m < 9, ∀ n < 9, p.compat = false → m ≠ n → fails m → fails n → s.settlesTo i short)
      ∧ (∀ n < 8, p.compat = true → fails n → s.settlesTo i short)
      ∧ (p.compat = true → (∀ n < 8, ¬ fails n) → s.settlesTo i (skip 8)))
    ∧ (k.phase = .active → p.compat = false → s.settlesTo i (State.setSpare (s.start.updTrunk t.val fun r =>
        { r with lanes := r.lanes.modify k.rxSkip fun q =>
            { q with prbsErrors := BitVec.ofNat 32 (errors.getD k.rxSkip 0), prbsKbits := kbits } }) t.val))
    ∧ (k.phase ≠ .measure → k.phase ≠ .active ∨ p.compat = true → s.ignores i)

/-- Lane locks and time-outs, announcements, INITs and delays take a trunk through LOCK, MEASURE, ANNOUNCE, INIT to ACTIVE or HELD. LANE_LOCKED notes the lane and, with all nine locked in LOCK, starts MEASURE; in OFF or HELD it has no effect. LOCK_TIMEOUT in LOCK starts MEASURE with at least 8 lanes locked, 1 in compatibility mode, and otherwise fails the attempt with NO_LOCK; in another state it has no effect. LANE_ANN with fewer than five lanes in agreement has no effect; with five it takes an ACTIVE trunk down and is answered unmeasured in LOCK and MEASURE; in ANNOUNCE an unmeasured group is measured again once, a measured one with another RATE or COMPAT fails the attempt with RATE_MODE, and one that agrees takes the partner's SKIP, advertises credits and sends INIT. INIT with a bad CRC has no effect; in ACTIVE it is answered while INITs still are; in INIT one that fails a check holds the trunk with the check's reason; one that passes is answered, the first with another recipe set counted and logged, and brings ACTIVE if it has ACKED. INIT_TIMEOUT in INIT fails the attempt, which in a resynchronisation retires the trunk, and else has no effect; RETRY_DELAY starts bring-up again from LOCK when the mode, the record and the die link allow it. Where the spec leaves a point open the statement follows the model's choice (log entries 5, 53 and 87). Rests on 12_trunk_physical.md: R257, R259, R260, R262. -/
def Obligations.TrunkBringUpRunsItsStates : Prop :=
  ∀ (s : State) (t : TrunkId) (n : Fin 9) (b : LaneAnnBlock) (f : InitFields),
    let k := s.trunk t.val
    let p := s.trunkParam t.val
    let l := k.locked ||| BitVec.ofNat 9 (2 ^ n.val)
    (k.phase = .off ∨ k.phase = .held → s.ignores (.laneLocked t n))
    ∧ (k.phase ≠ .off → k.phase ≠ .held → s.settlesTo (.laneLocked t n) (s.start.updTrunk t.val fun k =>
        { k with locked := l, phase := if k.phase = .lock ∧ l = 0x1FF then .measure else k.phase
                 txClock := if p.compat then (List.range 9).find? l.toNat.testBit else none }))
    ∧ (k.phase ≠ .lock → s.ignores (.lockTimeout t))
    ∧ (k.phase = .lock →
        (popcount k.locked.toNat 9 < (if p.compat then 1 else 8) → s.settlesTo (.lockTimeout t) (s.start.failAttempt t.val 1))
        ∧ ((if p.compat then 1 else 8) ≤ popcount k.locked.toNat 9 → s.settlesTo (.lockTimeout t) (s.start.updTrunk t.val fun k =>
            { k with phase := .measure })))
    ∧ (b.lanesAgreeing < 5 → s.ignores (.laneAnn t b))
    ∧ (5 ≤ b.lanesAgreeing →
        (k.phase = .active → s.settlesTo (.laneAnn t b) (s.start.leaveActive t.val 0x11))
        ∧ (k.phase = .lock ∨ k.phase = .measure →
          s.settlesTo (.laneAnn t b) (s.start.emit (.flit t.val 16 (annGroup k.rxSkip false false p.compat p.rate))))
        ∧ (k.phase = .off ∨ k.phase = .held ∨ k.phase = .init ∨ k.phase = .announce ∧ b.measured = false ∧ k.remeasured = true →
          s.ignores (.laneAnn t b))
        ∧ (k.phase = .announce → b.measured = false → k.remeasured = false →
          s.settlesTo (.laneAnn t b) (State.emit (State.emit (s.start.updTrunk t.val fun k => { k with remeasured := true })
            (.flit t.val 17 [])) (.flit t.val 16 (annGroup k.rxSkip true false p.compat p.rate))))
        ∧ (k.phase = .announce → b.measured = true → b.rate.toNat ≠ p.rate ∨ b.compat ≠ p.compat →
          s.settlesTo (.laneAnn t b) (s.start.failAttempt t.val 5))
        ∧ (k.phase = .announce → b.measured = true → b.rate.toNat = p.rate → b.compat = p.compat →
          let n := s.start.free
          let v := n.2.free
          s.settlesTo (.laneAnn t b) (State.sendInit (State.advertise (State.emit (v.2.updTrunk t.val fun k =>
            { k with phase := .init, txSkip := b.rxSkip.toNat, acked := false, flitBits := 0, sinceFiller := 0, prbsStart := n.1
                     levels := (List.range 9).map fun i => field v.1 (2 * i) 2 })
            (.flit t.val 16 (annGroup k.rxSkip true true p.compat p.rate))) t.val) t.val)))
    ∧ (f.crcOk = false → s.ignores (.init t f))
    ∧ (f.crcOk = true →
        (k.phase = .active → s.settlesTo (.init t f) (if k.answerInit then s.start.sendInit t.val else s.start))
        ∧ (k.phase ≠ .active → k.phase ≠ .init → s.ignores (.init t f))
        ∧ (k.phase = .init →
          let u := s.start.updTrunk t.val fun k =>
            { k with partnerId := f.provisionedId, partnerRank := f.rank, partnerRankValid := f.rankValid, partnerTrunk := f.trunk }
          (∀ r : Nat, u.initFails t.val f = some r → s.settlesTo (.init t f) (u.holdTrunk t.val r))
          ∧ (u.initFails t.val f = none →
            let u := if f.version = 2 ∧ k.acked = false
                ∧ (f.setId.toNat ≠ s.bank.setInfo.setId ∨ f.versionMajor.toNat < s.bank.setInfo.compatMin) then
              (u.countTrunk t.val 39).log 0x040A 1 [(1, t.val), (2, f.setId.toNat), (1, f.versionMajor.toNat)]
              else u
            let v := (u.updTrunk t.val fun k => { k with acked := true }).sendInit t.val
            s.settlesTo (.init t f) (if f.acked then v.enterActive t.val f else v))))
    ∧ (k.phase ≠ .init → s.ignores (.initTimeout t))
    ∧ (k.phase = .init →
        (k.resync = false → s.settlesTo (.initTimeout t) (s.start.failAttempt t.val 3))
        ∧ (k.resync = true → s.settlesTo (.initTimeout t) (State.freezeMaskable (State.updTrunk
            (State.failAttempt (s.start.log 0x0402 1 [(1, t.val), (1, 0x17), (6, k.partnerId.toNat)]) t.val 3) t.val fun k =>
              { k with resync := false, retired := p.enable }) 5)))
    ∧ (k.retrying = false → s.ignores (.retryDelay t))
    ∧ (k.retrying = true → s.settlesTo (.retryDelay t) (s.start.startTrunk t.val))
    ∧ (s.bringUpMode = false ∨ p.enable = false ∨ s.sys.dieLost.toNat.testBit 4 = true → s.startTrunk t.val = s)
    ∧ (s.bringUpMode = true → p.enable = true → s.sys.dieLost.toNat.testBit 4 = false → s.startTrunk t.val = s.updTrunk t.val fun k =>
        { k with phase := .lock, locked := 0, remeasured := false, retrying := false, acked := false, answerInit := false,
                 rxSkip := 8, txSkip := 8, sparing := none, lanes := List.replicate 9 {}, spare := 3, txClock := none })

/-- A silent or lost trunk leaves ACTIVE and moves its traffic or loses the pair; a lost report sheds it; lanes are measured and spared. GOOD_CRC_TIMEOUT and SYNC_PATTERN_SEEN take an ACTIVE trunk down with their reason and do nothing to another: its open flit closes, the event is logged, an enabled trunk is retired, and its queues move to an ACTIVE partner trunk with a FAILOVER report, or the pair is lost; bring-up starts again. FAILOVER_WAIT of a trunk that awaits no report has no effect; otherwise its unaccepted messages are counted as lost, their transactions take an error, and the pair goes on. LANE_LOCK_LOSS notes the lane; in ACTIVE, in compatibility mode or with two data lanes lost the trunk goes down, the idle lane becomes UNFIT, and one data lane is spared. QUALITY_INTERVAL outside ACTIVE has no effect; in it the active lanes' corrected symbols and the bits that each carried are recorded and the worst lane that failed three intervals is spared. A lane is spared only to an idle lane that is fit and better. Where the spec leaves a point open the statement follows the model's choice (log entries 5, 53 and 87). Rests on 12_trunk_physical.md: R263, R266, R268, R269; 13_trunk_link_layer.md: R294, R295, R296, R297, R299. -/
def Obligations.TrunksLeaveActiveAndFailOver : Prop :=
  ∀ (s : State) (t : TrunkId) (n : Fin 9) (corr : List Nat) (joined : Option (Fin 9 × U32)) (kbits : U32),
    let k := s.trunk t.val
    let p := s.trunkParam t.val
    s.settlesTo (.goodCrcTimeout t) (s.start.leaveActive t.val 0x10)
    ∧ s.settlesTo (.syncPatternSeen t) (s.start.leaveActive t.val 0x11)
    ∧ (∀ (u : State) (x r : Nat), (u.trunk x).phase ≠ .active → u.leaveActive x r = u)
    ∧ (∀ (u : State) (x r : Nat), (u.trunk x).phase = .active →
        let v := (u.closeFlit x).log 0x0402 1 [(1, x), (1, r), (6, (u.trunk x).partnerId.toNat)]
        let k := v.trunk x
        let v := v.updTrunk x fun r => { r with
          phase := .off, retired := (v.trunkParam x).enable, resync := false, sparing := none
          replay := r.replay ++ (if r.openFlit.isEmpty then [] else [{ seq := r.next, type := 2, msgs := r.openFlit }])
          openFlit := [], ctl := [] }
        let v := if (v.trunkParam x).enable then v.freezeMaskable 5 else v
        u.leaveActive x r = State.startTrunk (if v.mateActive x then
            State.sendCtl (((v.countTrunk x 29).moveQueues x (x ^^^ 1)).updTrunk x fun r => { r with move := 2, fenceOn := none })
              (x ^^^ 1) 7 [pack [(8, 2), (12, (k.expect - 1).toNat), (1, b2n k.accepted)]]
          else v.pairLost x) x)
    ∧ (k.move ≠ 2 → s.ignores (.failoverWait t))
    ∧ (k.move = 2 →
        let ms := k.unaccepted 0 false
        let v := State.log (State.count (s.start.updTrunk t.val fun r => { r with move := 1, replay := [] }) (trunkCtr t.val 31) ms.length)
          0x0406 1 [(1, t.val), (2, 0), (1, 0), (4, 0), (4, ms.length)]
        let v := (ms.filterMap (·.txn)).foldl (fun v i =>
          let x := v.txn i
          if x.state = .waitRsp ∧ (x.wait = .remote ∨ x.wait = .response) ∧ x.got < x.expect then
            (v.updTxn i fun x => { x with got := x.got + 1, errSeen := true }).wake i
          else v) v
        s.settlesTo (.failoverWait t) (State.resumePair { v with dp.freed := true } (t.val ^^^ 1)))
    ∧ (let l := k.locked &&& ~~~ BitVec.ofNat 9 (2 ^ n.val)
       let v := s.start.updTrunk t.val fun k => { k with locked := l }
       let lost := (List.range 9).filter fun i => i != k.rxSkip && !l.toNat.testBit i
       let i : Instr := .laneLockLoss t n
       (k.phase ≠ .active → s.settlesTo i v)
       ∧ (k.phase = .active → p.compat = true → s.settlesTo i (v.leaveActive t.val 0x12))
       ∧ (k.phase = .active → p.compat = false → n.val = k.rxSkip → s.settlesTo i (v.updTrunk t.val fun k => { k with spare := 1 }))
       ∧ (k.phase = .active → p.compat = false → n.val ≠ k.rxSkip → 2 ≤ lost.length → s.settlesTo i (v.leaveActive t.val 0x12))
       ∧ (k.phase = .active → p.compat = false → n.val ≠ k.rxSkip → lost.length < 2 → s.settlesTo i (v.spareLane t.val n.val)))
    ∧ (k.phase ≠ .active → s.ignores (.qualityInterval t corr joined kbits))
    ∧ (k.phase = .active →
        let v := s.start.updTrunk t.val fun r =>
          { r with lanes := r.lanes.zipIdx.map fun q =>
            if q.2 = k.rxSkip then { q.1 with fecCorr := 0, fecKbits := 0, bad := 0 }
            else { q.1 with fecCorr := BitVec.ofNat 32 (corr.getD q.2 0), fecKbits := (carried joined kbits q.2).toNat
                            bad := if ratePasses (corr.getD q.2 0) (carried joined kbits q.2).toNat p.sparePpb then 0 else q.1.bad + 1 } }
        let due := (List.range 9).filter fun n => n != k.rxSkip && decide (3 ≤ ((v.trunk t.val).lanes.getD n {}).bad)
        let worst := due.foldl (fun b n => match b with
          | none => some n
          | some m => if rateLt (v.laneRate t.val m) (v.laneRate t.val n) then some n else some m) none
        ((∀ m < 9, m = k.rxSkip ∨ ((v.trunk t.val).lanes.getD m {}).bad < 3) → s.settlesTo (.qualityInterval t corr joined kbits) v)
        ∧ (∀ m : Nat, worst = some m → s.settlesTo (.qualityInterval t corr joined kbits) (v.spareLane t.val m)))
    ∧ (∀ (u : State) (x m : Nat),
        let c := u.trunk x
        let a := u.laneRate x c.rxSkip
        let b := u.laneRate x m
        (c.sparing.isSome = true ∨ (u.trunkParam x).compat = true → u.spareLane x m = u)
        ∧ (c.sparing = none → (u.trunkParam x).compat = false →
          (2 ≤ u.laneQuality x c.rxSkip → rateLt a b = true →
            u.spareLane x m = (u.updTrunk x fun k => { k with spare := 2, sparing := some m }).sendCtl x 3 [pack [(8, 1), (4, m)]])
          ∧ (u.laneQuality x c.rxSkip < 2 ∨ rateLt a b = false →
            u.spareLane x m = ((u.updTrunk x fun k => { k with spare := 1 }).countTrunk x 36).log 0x0405 1
              [(1, x), (1, c.rxSkip), (1, m), (4, rateWord a), (4, rateWord b)])))

/-- A flit acts only in ACTIVE with a good CRC, a sequenced one only in its turn; the link layer's timers replay, audit and ask the time. A flit of any type outside ACTIVE has no effect; with a bad CRC it is counted and asks for a replay. Otherwise INITs are no longer answered and the header's acknowledgement, credits and lane fields act. IDLE then does nothing more and TIME acts at once. PAYLOAD, LANE_CTL and LINK_CTL act only with SEQ at the receiver's E; one that is 1 to 2,048 behind is counted as a duplicate and makes an acknowledgement due; another asks for a replay. A PAYLOAD beyond the credits returned takes the trunk down and is not accepted. A filler has no effect; a flit of a reserved type is counted in ACTIVE. ACK_TIMER makes an acknowledgement due when flits have been accepted since the last; REPLAY_TIMER with flits outstanding counts, replays, and at REPLAY_LIMIT takes the trunk down; AUDIT_PERIOD sends an audit on each ACTIVE trunk; TIME_PERIOD sends a request on an ACTIVE trunk. Where the spec leaves a point open the statement follows the model's choice (log entries 5 and 53). Rests on 13_trunk_link_layer.md: R273, R279, R281, R282, R283, R284, R290, R291, R292, R293, R302. -/
def Obligations.TrunkFlitsAreTakenInSequence : Prop :=
  ∀ (s : State) (t : TrunkId) (hd : FlitHdr) (ms : List (MsgClass × Msg)) (sk : BitVec 4) (f : TimeFields) (used : List U16)
    (last : BitVec 12) (any : Bool) (why : Byte),
    let k := s.trunk t.val
    let opened := s.start.updTrunk t.val fun k => { k with answerInit := false }
    let taken (i : Instr) (carries : Bool) (rest : State → Prop) : Prop :=
      (k.phase ≠ .active → s.ignores i)
      ∧ (k.phase = .active → hd.crcOk = false → s.settlesTo i ((s.start.countTrunk t.val 18).sendNak t.val))
      ∧ (k.phase = .active → hd.crcOk = true →
        let v := opened.headerFields t.val hd carries
        ((v.trunk t.val).phase ≠ .active → s.settlesTo i v) ∧ ((v.trunk t.val).phase = .active → rest v))
    let inTurn (i : Instr) (body : State → State) : Prop := taken i true fun v =>
      let e := (v.trunk t.val).expect
      let back := (e - hd.seq).toNat
      (hd.seq = e → s.settlesTo i (body v))
      ∧ (hd.seq ≠ e → back ≤ 2048 → s.settlesTo i ((v.countTrunk t.val 19).updTrunk t.val fun k => { k with ackDue := true }))
      ∧ (2048 < back → s.settlesTo i (v.sendNak t.val))
    taken (.idle t hd) true (fun v => s.settlesTo (.idle t hd) v)
    ∧ taken (.time t hd f) true (fun v => s.settlesTo (.time t hd f) (v.timeBody t.val f))
    ∧ inTurn (.payload t hd ms) (fun v => v.payloadBody t.val ms)
    ∧ inTurn (.laneCtl t hd sk) (fun v => v.laneCtlBody t.val sk.toNat)
    ∧ inTurn (.audit t hd used) (fun v => v.auditBody t.val used)
    ∧ inTurn (.failover t hd last any) (fun v => v.failoverBody t.val last any)
    ∧ inTurn (.resyncReq t hd why) (fun v => v.resyncBody t.val)
    ∧ (∀ v : State, let need := ms.foldl (fun l m => addCredits l (clsNo m.1) m.2) (List.replicate 8 (0 : U16))
        (∃ i < 8, (((v.trunk t.val).ret.getD i 0 - (v.trunk t.val).rcv.getD i 0).toNat < (need.getD i 0).toNat)) →
        v.payloadBody t.val ms = (v.countTrunk t.val 25).leaveActive t.val 0x15)
    ∧ exec (.filler t) s = .next s.start
    ∧ (k.phase = .active → exec (.llTypeReserved t) s = .next (s.start.countTrunk t.val 24))
    ∧ (k.phase ≠ .active → exec (.llTypeReserved t) s = .next s.start)
    ∧ s.settlesTo (.ackTimer t) (s.start.updTrunk t.val fun k =>
        if k.phase = .active ∧ 0 < k.sinceAck then { k with ackDue := true } else k)
    ∧ (k.phase ≠ .active ∨ k.outstanding = 0 → s.ignores (.replayTimer t))
    ∧ (k.phase = .active → k.outstanding ≠ 0 →
        let v := (s.start.countTrunk t.val 21).updTrunk t.val fun k => { k with expiries := k.expiries + 1 }
        ((s.trunkParam t.val).replayLimit ≤ k.expiries + 1 →
          s.settlesTo (.replayTimer t) (v.leaveActive t.val (if k.resync then 0x17 else 0x14)))
        ∧ (k.expiries + 1 < (s.trunkParam t.val).replayLimit → s.settlesTo (.replayTimer t) (v.replayPass t.val)))
    ∧ s.settlesTo .auditPeriod (((List.range 8).filter fun t => (s.trunk t).phase == .active).foldl (fun v t =>
        (v.leakDue t).sendCtl t 7 [pack ([(8, 1), (8, 0)] ++ (v.trunk t).used.map fun u => (16, u.toNat))]) s.start)
    ∧ (k.phase ≠ .active → s.ignores (.timePeriod t))
    ∧ (k.phase = .active →
        let v := State.chooseRoot (s.start.updTrunk t.val fun k => { k with exch := k.exch + 1, t1 := some s.sys.ft })
        let r := v.trk.root
        s.settlesTo (.timePeriod t) (v.sendFlit t.val 5 0 false [pack [(1, 0), (7, 0), (8, (v.trunk t.val).exch.toNat), (48, r.id.toNat),
          (4, r.rank), (1, b2n r.rankValid), (1, b2n r.pps), (4, v.trk.hops), (1, b2n (v.isRoot || v.trk.synced))]]))

/-- Doorbells wake an ENABLED queue pair; the engine reads tail, descriptors and OWN, writes completions, stalls, and halts on a failed read. SQ_DOORBELL on a page without a queue pair has no effect, on an ENABLED one sets DB_PENDING, and on another is counted. CQ_DOORBELL with any value, and OWN_REREAD at its due time or later for a stalled queue pair alone, end the stall. DESCRIPTOR_FETCH acts only for an ENABLED queue pair with a read of its queue that has left: a failed read halts it with HOST_ACCESS_ERROR; a tail more than the ring ahead of HEAD halts it as malformed, and another is noted; descriptors are taken, up to the number asked for. COMPLETION_WRITE without a completion has no effect; with OWN known to be 0 it writes the entry; otherwise it acts only on a read of OWN that has left: OWN = 1 stalls the queue pair for 8 µs, leading zeros write the entry, a failed read ends it. The write goes to the entry at CQ_NEXT, sends the interrupt and drops the completion, or loses it when the write fails. A time-out of a read that is not awaited has no effect; of OWN it is a failed read, and of another it halts the queue pair. Where the spec leaves a point open the statement follows the model's choice (log entries 5, 29, 33 and 61). Rests on 09_work_queues.md: R185, R187, R191, R192, R193, R194, R195. -/
def Obligations.QueueEnginesFetchAndComplete : Prop :=
  ∀ (s : State) (p : PortId) (g : BitVec 12) (value late : U32) (q : BitVec 12) (own : HostRead (List Bool)) (tail : HostRead U32)
    (ds : HostRead (List (BitVec 512))) (wr : Bool) (what : WqRead),
    let i := q.toNat
    let k := s.qp i
    let read : State := s.start.updQp i fun k => { k with ask := none }
    let readOwn : State := s.start.updQp i fun k => { k with askOwn := none }
    (s.qpAt p.val g.toNat = none → s.ignores (.sqDoorbell p g) ∧ s.ignores (.cqDoorbell p g value))
    ∧ (∀ n : Nat, s.qpAt p.val g.toNat = some n →
        ((s.qp n).state = .enabled → s.settlesTo (.sqDoorbell p g) (s.start.updQp n fun k => { k with dbPending := true }))
        ∧ ((s.qp n).state ≠ .enabled → s.settlesTo (.sqDoorbell p g) (s.start.countPort p.val 41))
        ∧ s.settlesTo (.cqDoorbell p g value) (s.start.updQp n fun k => { k with ownStalled := false }))
    ∧ (k.ownStalled = false → s.ignores (.ownReread q late))
    ∧ (k.ownStalled = true → s.settlesTo (.ownReread q late) ((s.start.advanceTo (k.ownDue + late.toNat)).updQp i fun k => { k with ownStalled := false }))
    ∧ (k.ask = none → s.ignores (.descriptorFetch q tail ds))
    ∧ (∀ a : HostAsk, k.ask = some a →
        (k.state ≠ .enabled ∨ a.sent = false ∨ a.kind = .ownBit → s.ignores (.descriptorFetch q tail ds))
        ∧ (k.state = .enabled → a.sent = true → a.kind = .tailWord →
          (tail = .failed → s.settlesTo (.descriptorFetch q tail ds) (read.hostError i k.head none))
          ∧ (∀ w : U32, tail = .ok w → s.settlesTo (.descriptorFetch q tail ds) (read.takeTail i w)))
        ∧ (k.state = .enabled → a.sent = true → a.kind = .descriptor →
          (ds = .failed → s.settlesTo (.descriptorFetch q tail ds)
            ((s.start.updQp i fun k => { k with ask := none, tailSeen := none }).hostError i k.head none))
          ∧ (ds = .ok [] → s.ignores (.descriptorFetch q tail ds))
          ∧ (∀ (d : BitVec 512) (l : List (BitVec 512)), ds = .ok (d :: l) →
            s.settlesTo (.descriptorFetch q tail ds) (read.takeBatch i ((d :: l).take a.count)))))
    ∧ (k.completions = [] → s.ignores (.completionWrite q own wr))
    ∧ (∀ (c : Completion) (rest : List Completion), k.completions = c :: rest →
        (k.ownFree ≠ 0 → s.settlesTo (.completionWrite q own wr) (s.start.writeCompletion i c wr))
        ∧ (k.ownFree = 0 → k.askOwn = none → s.ignores (.completionWrite q own wr))
        ∧ (∀ a : HostAsk, k.ownFree = 0 → k.askOwn = some a →
          (a.sent = false ∨ own = .ok [] → s.ignores (.completionWrite q own wr))
          ∧ (a.sent = true → own = .failed → s.settlesTo (.completionWrite q own wr) (readOwn.ownFailed i))
          ∧ (∀ l : List Bool, a.sent = true → own = .ok (true :: l) → s.settlesTo (.completionWrite q own wr)
              (s.start.updQp i fun k => { k with askOwn := none, ownStalled := true, ownDue := s.sys.ft + 8000 }))
          ∧ (∀ l : List Bool, a.sent = true → own = .ok (false :: l) → s.settlesTo (.completionWrite q own wr)
              (State.writeCompletion (s.start.updQp i fun k => { k with
                askOwn := none, ownFree := (((false :: l).take a.count).takeWhile (· == false)).length }) i c wr))))
    ∧ (∀ (u : State) (n : Nat) (c : Completion), u.writeCompletion n c false = u.entryLost n c
        ∧ u.writeCompletion n c true = State.dropEntry (State.updQp
            (u.wqWrite n ((u.qp n).cqBase.toNat + 32 * ((u.qp n).cqNext.toNat % 2 ^ (u.qp n).cqLog2)) c.bytes
              (if c.irq = true then some (u.qp n).msix else none)) n fun k =>
                { k with cqNext := k.cqNext + 1, ownFree := k.ownFree - 1 }) n)
    ∧ (∀ a : HostAsk, k.askOwn = some a → a.sent = true → a.kind = what →
        s.settlesTo (.cxlIoCompletionTimeout q what) (readOwn.ownFailed i))
    ∧ ((∀ a : HostAsk, k.askOwn = some a → a.sent = false ∨ a.kind ≠ what) →
        (∀ a : HostAsk, k.ask = some a → a.sent = true → a.kind = what → k.state = .enabled →
          s.settlesTo (.cxlIoCompletionTimeout q what)
            ((s.start.updQp i fun k => { k with ask := none, tailSeen := none }).hostError i k.head none))
        ∧ (k.state ≠ .enabled ∨ (∀ a : HostAsk, k.ask = some a → a.sent = false ∨ a.kind ≠ what) →
          s.ignores (.cxlIoCompletionTimeout q what)))
    ∧ (∀ (u : State) (n : Nat) (w : U32),
        (2 ^ (u.qp n).sqLog2 < (w - (u.qp n).head).toNat → u.takeTail n w = u.halt n .haltedMalformed w 2 0 5 false)
        ∧ ((w - (u.qp n).head).toNat ≤ 2 ^ (u.qp n).sqLog2 → u.takeTail n w =
            u.updQp n fun r => { r with tailSeen := if w = (u.qp n).head then none else some w }))
    ∧ (∀ (n : Nat) (seq : U32) (t : Option Nat), s.wq.qps.wf = true → ((s.hostError n seq t).qp n).state = .haltedError
        ∧ ((s.hostError n seq t).qp n).haltSeq = seq)

/-- A job command starts only its own type's next descriptor; passes, switchover, holds, NO_CACHE and zeroing go on only in their place. NOP, COPY_TILE, ZERO_TILE, MIRROR_ATTACH, MIRROR_SPLIT and VERIFY_TILE start the next descriptor that may start, if it is of their type, and otherwise have no effect, nor when the engine cannot take the job yet; a NOP ends with SUCCESS at once, SCRUB_DIR_JOB with its pass's summary, except in SAFE, and the others begin their job or end it: COPY_TILE, MIRROR_ATTACH and VERIFY_TILE end JOB_FAILED with their reason where the job is refused, wait while the live log is full, a donor place is in use or no migration slot is free, and else take a slot, make the tile MIGRATING and lend the donor; ZERO_TILE makes a FREE tile, or a LOST one whose link is up, ZEROING. SWEEP_AND_COPY begins the next pass of a slot whose pass has ended and that has passes left; SWITCHOVER puts a slot that can switch into its hold with one more sweep; HOLD_EXPIRY lets fabric time pass the hold's 20 µs, counts, and ends the hold, with what its sweep found marked again; NO_CACHE, once all VICTIM_EVICTs have ended, goes on to the next pass or ends the job; ZEROING_DONE frees the place of a release whose zeroing is complete, or leaves it LOST with the link down. Each has no effect where its slot or tile does not wait for it. Where the spec leaves a point open the statement follows the model's choice (log entries 5, 62 and 86). Rests on 09_work_queues.md: R190; 10_migration_and_mirroring.md: R203, R209, R212, R214, R216, R218. -/
def Obligations.JobsStartRunAndEnd : Prop :=
  ∀ (s : State) (q : BitVec 12) (n : BitVec 10) (tile : BitVec 19),
    let m := s.mig n.toNat
    let starts (i : Instr) (type : Nat) (run : State → Held → Byte → JobBody → Option State) : Prop :=
      (s.nextJob q.toNat = none → s.ignores i)
      ∧ (∀ h : Held, s.nextJob q.toNat = some h →
        (dfield h.desc 0 8 ≠ type → s.ignores i)
        ∧ (dfield h.desc 0 8 = type →
          let r := run (s.start.startHeld q.toNat h.seq) h (s.qp q.toNat).qpGen (JobBody.ofDesc h.desc)
          (r = none → s.ignores i) ∧ (∀ t : State, r = some t → s.settlesTo i t)))
    starts (.nop q) 0 (fun t h g _ => some (t.jobEnd q.toNat h.seq g 0 0))
    ∧ starts (.copyTile q) 1 (fun t h g b => t.startMig q.toNat h.seq g b)
    ∧ starts (.zeroTile q) 2 (fun t h g b => t.startZero q.toNat h.seq g b)
    ∧ starts (.mirrorAttach q) 3 (fun t h g b => t.startMig q.toNat h.seq g b)
    ∧ starts (.mirrorSplit q) 4 (fun t h g b => t.mirrorSplit q.toNat h.seq g b)
    ∧ starts (.verifyTile q) 5 (fun t h g b => t.startMig q.toNat h.seq g b)
    ∧ (s.sys.mode ≠ .safe → starts (.scrubDirJob q) 6 (fun t h g _ =>
        let r := t.scrubPass (dfield h.desc 192 30) (dfield h.desc 224 30)
        some (r.2.jobEnd q.toNat h.seq g 0 r.1.word)))
    ∧ (s.sys.mode = .safe → s.ignores (.scrubDirJob q))
    ∧ (∀ (u : State) (j : Nat) (seq : U32) (g : Byte) (b : JobBody),
        let e := u.tile b.tile
        let donor := u.tile b.dstTile
        let lends := b.type = 3 ∨ (b.type = 1 ∧ b.dstRank = u.rank)
        (∀ r : Nat, u.jobRefused b = some r → u.startMig j seq g b = some (u.endOfJob j seq g b.tile 4 (jobResult r 0 0 0 [])))
        ∧ (u.jobRefused b = none → u.liveFull = true ∨ (lends ∧ u.placeBusy donor.pPort donor.pTile = true) ∨ u.freeSlot = none →
            u.startMig j seq g b = none)
        ∧ (∀ k : Nat, u.jobRefused b = none → u.liveFull = false → ¬ (lends ∧ u.placeBusy donor.pPort donor.pTile = true) →
            u.freeSlot = some k →
            let slot : MigSlot :=
              { valid := true, jobType := b.type, srcTile := b.tile, dstRank := b.dstRank, dstTile := b.dstTile, qp := j,
                descSeq := seq, qpGen := g, start := u.sys.ft, zeroReleased := b.zero, repair := b.repair, maxPasses := b.passes,
                converge := b.converge, before := e, pass := 1 }
            let v := State.writeTile { u.countGlobal 224 with wq.slots := u.wq.slots.set k slot } b.tile
              { e with state := .migrating, migSlot := k }
            u.startMig j seq g b = some (if lends then
              v.writeTile b.dstTile { donor with state := .moved, fwdRank := u.rank, fwdTile := b.tile } else v))
        ∧ (e.state ≠ .free → ¬ (e.state = .lost ∧ u.linkUp e.pPort = true) →
            u.startZero j seq g b = some (u.endOfJob j seq g b.tile 4 (jobResult 1 0 0 0 [])))
        ∧ (e.state = .free ∨ e.state = .lost ∧ u.linkUp e.pPort = true →
            let busy := u.placeBusy e.pPort e.pTile = true ∨ e.mirrored = true ∧ e.singleCopy = false ∧ u.placeBusy e.mPort e.mTile = true
            let z : ZeroJob :=
              { tile := b.tile, job := some (j, seq, g), poison := b.poison, wasLost := decide (e.state = .lost),
                mirrored := e.mirrored && !e.singleCopy }
            (u.liveFull = true ∨ busy → u.startZero j seq g b = none)
            ∧ (u.liveFull = false → ¬ busy → u.startZero j seq g b =
                some (State.writeTile { u with wq.zeros := u.wq.zeros ++ [z] } b.tile { e with state := .zeroing }))))
    ∧ (m.valid = false → s.ignores (.sweepAndCopy n) ∧ s.ignores (.switchover n) ∧ s.ignores (.holdExpiry n) ∧ s.ignores (.noCache n))
    ∧ (m.wait ≠ .ended ∨ m.maxPasses ≤ m.passes → s.ignores (.sweepAndCopy n))
    ∧ (m.valid = true → m.wait = .ended → m.passes < m.maxPasses →
        let r := s.start.sweepMap n.toNat
        let extra := if m.jobType = 5 then m.again.map (·, 1) else []
        let l := r.1 ++ extra.filter fun e => !(r.1.any fun q => decide (q.1 ≤ e.1) && decide (e.1 < q.1 + q.2))
        s.settlesTo (.sweepAndCopy n) (State.stepMig (r.2.updMig n.toNat fun v =>
          { v with work := v.work ++ l, passLines := 0, again := if m.jobType = 5 then [] else v.again
                   wait := .phase m.wphase }) n.toNat))
    ∧ (m.wait ≠ .canSwitch → s.ignores (.switchover n))
    ∧ (m.valid = true → m.wait = .canSwitch →
        s.settlesTo (.switchover n) (State.stepMig (State.sweepAgain (s.start.updMig n.toNat fun m =>
          { m with phase := .hold, holdStart := s.sys.ft, final := true, passLines := 0 }) n.toNat) n.toNat))
    ∧ (m.phase ≠ .hold → s.ignores (.holdExpiry n))
    ∧ (m.valid = true → m.phase = .hold →
        s.settlesTo (.holdExpiry n)
          ((((s.start.advanceTo (m.holdStart + 20000)).countGlobal 226).remark n.toNat).endHoldPhase n.toNat))
    ∧ (m.wait ≠ .evicts ∨ m.again ≠ [] ∨ m.evicts ≠ 0 → s.ignores (.noCache n))
    ∧ (m.valid = true → m.wait = .evicts → m.again = [] → m.evicts = 0 → s.settlesTo (.noCache n)
        (if m.maxPasses ≤ m.passes then s.start.failJob n.toNat 4 4 else s.start.updMig n.toNat fun m => { m with wait := .ended }))
    ∧ (let z := s.wq.zeros.find? fun z => z.tile == tile.toNat && z.release
       (z = none → s.ignores (.zeroingDone tile))
       ∧ (∀ j : ZeroJob, z = some j → j.complete = false → s.ignores (.zeroingDone tile))
       ∧ (∀ j : ZeroJob, z = some j → j.complete = true →
          let e := s.tile tile.toNat
          s.settlesTo (.zeroingDone tile) ((s.start.dropZero tile.toNat).writeTile tile.toNat
            { e with state := if s.linkUp e.pPort then .free else .lost })))

/-- A line's set and TAG follow the hash of its number, lie in the directory, and give the line back; 32 lines in a row fall in 32 sets in a row. For a 41-bit line number n, formed as home tile index times 2^22 plus offset[27:6], with g the exclusive OR of n >> 5 and n >> 23 modulo 1,835,008, the set is 32 g + n mod 32 and the TAG is n >> 5. The set is one of the 58,720,256 sets, and the line is TAG * 32 + (set mod 32). Lines that agree in n >> 5 lie in one block of 32 sets, in their order. Rests on 05_coherence.md: R95. -/
def Obligations.SetAndTagNameTheLine : Prop :=
  ∀ (tile off n : Nat), off < 2 ^ 28 → n = tile * 2 ^ 22 + off / 2 ^ 6 → n < 2 ^ 41 →
    lineOf (tile * 2 ^ 28 + off) = n
    ∧ setOf n = 32 * (((n >>> 5) ^^^ (n >>> 23)) % 1835008) + n % 32
    ∧ tagOf n = n >>> 5
    ∧ setOf n < 58720256
    ∧ tagOf n < 2 ^ 36
    ∧ lineAt (tagOf n) (setOf n) = n
    ∧ (∀ m : Nat, setOf m = setOf n → tagOf m = tagOf n → m = n)
    ∧ (∀ k < 32, n % 32 = 0 → setOf (n + k) = setOf n + k)

/-- The candidates of a sweep are exactly the TAGs that can lie in its set, each once, and at most 37,450 of them. For every set, candidate k of a sweep gives a TAG whose line lies in the set; every 41-bit line of the set has the TAG of exactly one candidate; and there is no candidate from number 37,450 on. Rests on 05_coherence.md: R95; 06_directory_store.md: R127. -/
def Obligations.SweepCandidatesAreTheTagsOfTheSet : Prop :=
  ∀ (set : Nat), set < 58720256 →
    (∀ k tag : Nat, sweepTag set k = some tag → tag < 2 ^ 36 ∧ setOf (lineAt tag set) = set ∧ tagOf (lineAt tag set) = tag)
    ∧ (∀ n : Nat, n < 2 ^ 41 → setOf n = set → ∃ k : Nat, sweepTag set k = some (tagOf n) ∧ ∀ j : Nat, sweepTag set j = some (tagOf n) → j = k)
    ∧ (∀ k : Nat, 37450 ≤ k → sweepTag set k = none)

/-- Every directory entry decodes to itself from its word, whose bytes pass parity; one flipped bit of a byte fails that byte alone. For an entry whose fields fit their widths, decoding its word gives the entry back; all 14 bytes of the word pass parity; the word passes as a whole exactly when the entry has one of the three well-formed shapes; and with any one of the 112 data bits flipped, the byte of that bit fails parity and every other byte still passes. Rests on 05_coherence.md: R93, R94; 06_directory_store.md: R122. -/
def Obligations.DirectoryEntriesRoundTrip : Prop :=
  ∀ e : DirE, e.tag < 2 ^ 36 → e.state < 8 → e.owner < 128 → e.sharers < 2 ^ 64 → e.age < 4 →
    DirE.decode e.encode = e
    ∧ (∀ k < 14, byteOk e.encode k = true)
    ∧ (dirPass e.encode = true ↔ e.wf = true)
    ∧ (∀ b < 112, ∀ k < 14, byteOk (e.encode ^^^ BitVec.ofNat 128 (2 ^ b)) k = decide (k ≠ b / 8))

/-- The generic and switch queries of the fabric manager are answered with what the spec names. Taken at once (mode, role, length, reserved bits and source as R359 to R365 ask), each of Identify, Get Response Message Limit, Get FW Info, Get Timestamp, Identify Switch Device, Get Physical Port State and Get Virtual CXL Switch Info answers next with the state in which it has been answered with Success and the contents R369 names (fabric time for Get Timestamp; 64 ports, 64 VCSs and 512 vPPBs for Identify Switch Device; the ACTIVE pair's image slot for Get FW Info). The answer, its ticket and what its source keeps of it are all that changes; Identify also takes one free value for the vendor ID. The byte layouts of the outputs are the model's choice (log entry 20). Where the spec leaves a point open the statement follows the model's choice (log entries 22 and 54). Rests on 16_mailbox_commands.md: R369. -/
def Obligations.SwitchQueriesAnswered : Prop :=
  ∀ (s : State) (h : CmdHdr),
    (s.takes (.identify h) h { opcode := 0x0001, scope := .anyone } →
      exec (.identify h) s = .next (State.respond { s.ticketed h with freeCtr := s.freeCtr + 1 } (.identify h) h.src h.tag
        (s.ticketOf h.src) rcSuccess (leBytes (Config.free s.freeCtr) 2 ++ leBytes 0x0642 2
          ++ leBytes Config.provisionedId.toNat 8 ++ leBytes 11 1)))
    ∧ s.queryAnswers (.getResponseMessageLimit h) h { opcode := 0x0003 } (leBytes (s.mgmt.msgLimit.get (srcNo h.src)) 2)
    ∧ s.queryAnswers (.getFwInfo h) h { opcode := 0x0200 }
        (leBytes 2 1 ++ leBytes (match s.active with
          | some p => if (s.pairRegs p).imageSlot then 2 else 1
          | none => 0) 1 ++ leBytes 0 14 ++ leBytes (s.imageField 0 4 4) 16 ++ leBytes (s.imageField 1 4 4) 16)
    ∧ s.queryAnswers (.getTimestamp h) h { opcode := 0x0300 } (leBytes s.sys.ft 8)
    ∧ s.queryAnswers (.identifySwitchDevice h) h { opcode := 0x5100 }
        (leBytes 0 2 ++ leBytes 64 1 ++ leBytes 64 1 ++ leBytes (s.portMap (·.dlUp)) 32
          ++ leBytes (s.portMap (·.role == .host)) 32 ++ leBytes 512 2 ++ leBytes s.edge.binds.cells.length 2 ++ leBytes 8 1)
    ∧ (∀ ports : List PortId, s.queryAnswers (.getPhysicalPortState h ports) h { opcode := 0x5101, len := 1 }
        (leBytes ports.length 4 ++ ports.flatMap fun p => leBytes p.val 4 ++ leBytes (s.portStatus p.val) 4))
    ∧ (∀ vcs : PortId, s.queryAnswers (.getVirtualCxlSwitchInfo h vcs) h
        { opcode := 0x5200, len := 3, bad := (s.port vcs.val).role != .host } (s.vcsInfo vcs.val))

/-- The diagnostic queries are answered with the registers and table entries they name. Taken at once, each of TRUNK_GET_STATUS, TXN_READ, UNRESPONSIVE_GET, MODE_GET, QUEUE_STATUS, TENANT_GET, TILE_ENTRY_GET, MIG_SLOT_GET and GET_RESULT answers next with the state in which it has been answered with Success and the output R370 names: the trunk registers, the 64 B transaction entry, the two flag words, the 8 B MGMT_STATUS, the 64 B queue context, the tenant entry with its queue pairs, the 16 B home tile map entry (with its 32 B migration slot if MIGRATING), the 32 B slot entry, and the status and return code of a ticket. Nothing else changes but the ticket and what the source keeps of the answer. Where the spec leaves a point open the statement follows the model's choice (log entries 22, 54 and 90). Rests on 04_switch_core.md: R77; 05_coherence.md: R113; 15_management_plane.md: R356; 16_mailbox_commands.md: R370, R372. -/
def Obligations.DiagnosticQueriesAnswered : Prop :=
  ∀ (s : State) (h : CmdHdr),
    (∀ t : TrunkId, s.queryAnswers (.trunkGetStatus h t) h { opcode := 0xC501, len := 1 }
      (leBytes (s.trunkStatus t.val) 4 ++ leBytes (s.trunkPartner t.val) 8 ++ leBytes (s.llStatus t.val) 8
        ++ ((List.range 8).flatMap fun k => leBytes (s.creditState t.val k) 8) ++ leBytes (s.timeStatus t.val) 8
        ++ (List.range 9).flatMap fun n => leBytes (s.qualityBlock t.val n) 16))
    ∧ (∀ idx : U32, s.queryAnswers (.txnRead h idx) h { opcode := 0xC605, len := 4, bad := decide (131072 ≤ idx.toNat) }
        (leBytes (s.txn idx.toNat).toNat 64))
    ∧ s.queryAnswers (.unresponsiveGet h) h { opcode := 0xC606 }
        (leBytes s.dp.unrespSlots.toNat 8 ++ leBytes s.dp.unrespPorts.toNat 8)
    ∧ s.queryAnswers (.modeGet h) h { opcode := 0xC901, scope := .anyone } (leBytes s.mgmtStatus 8)
    ∧ (∀ q : U16, s.queryAnswers (.queueStatus h q) h
        { opcode := 0xC204, len := 2, scope := s.qpScope q.toNat, bad := decide (4095 < q.toNat) }
        (leBytes (s.qp q.toNat).toNat 64))
    ∧ (∀ n first : U16, s.queryAnswers (.tenantGet h n first) h
        { opcode := 0xC101, len := 4, scope := .tenant n.toNat, bad := decide (4095 < n.toNat) }
        (leBytes ((s.bank.tenants.get n.toNat).toNat (s.tab.gens.get n.toNat)) 8 ++ leBytes (s.qpsOf n.toNat).length 2
          ++ leBytes (((s.qpsOf n.toNat).drop first.toNat).take 1018).length 2
          ++ (((s.qpsOf n.toNat).drop first.toNat).take 1018).flatMap fun q => leBytes q 2))
    ∧ (∀ n : U32, s.queryAnswers (.tileEntryGet h n) h { opcode := 0xC301, len := 4, bad := decide (2 ^ 19 ≤ n.toNat) }
        (leBytes (s.tile n.toNat).toNat 16
          ++ (if (s.tile n.toNat).state = .migrating then leBytes (s.mig (s.tile n.toNat).migSlot).toNat 32 else [])))
    ∧ (∀ k : U16, s.queryAnswers (.migSlotGet h k) h { opcode := 0xC302, len := 2, bad := decide (1024 ≤ k.toNat) }
        (leBytes (s.mig k.toNat).toNat 32))
    ∧ (∀ n : U16, s.queryAnswers (.getResult h n) h
        { opcode := 0xC907, len := 2, scope := .anyone,
          bad := !(s.isFm h.src || (s.mgmt.tickets.get n.toNat).src == some h.src) } ((s.ticketed h).ticketResult n.toNat))

/-- The counter, log, archive, configuration, gossip and slot queries are answered with the state they name. Taken at once, each of COUNTER_READ, LOG_READ, ARCHIVE_READ of a slot that holds an archive, CONFIG_GET_STATE, CONFIG_READ of a version that exists, GOSSIP_GET, FABRIC_DISCOVER on the leader and SLOT_GET_STATUS answers next with the state in which it has been answered with Success and the contents that the named block, entries, archive bytes (free values where the archive was damaged), versions, gossip table or slot registers hold when it runs; SLOT_GET_STATUS brings the slots' control loops up to fabric time first. ARCHIVE_READ of an empty slot, CONFIG_READ of an absent version and FABRIC_DISCOVER elsewhere answer STATE_CONFLICT and change nothing else. The byte order of CONFIG_GET_STATE and FABRIC_DISCOVER is the model's choice (log entry 20). Where the spec leaves a point open the statement follows the model's choice (log entry 54). Rests on 14_slot_power.md: R329; 15_management_plane.md: R354; 16_mailbox_commands.md: R370; 17_configuration_epochs.md: R390, R391; 19_observability.md: R420, R426, R429. -/
def Obligations.LogAndConfigurationQueriesAnswered : Prop :=
  ∀ (s : State) (h : CmdHdr),
    (∀ (kind : Byte) (b : U16), s.queryAnswers (.counterRead h kind b) h
      { opcode := 0xC601, len := 3, scope := if kind.toNat = 3 then .tenant b.toNat else .fm
        bad := counterBlockBad kind.toNat b.toNat } ((s.ticketed h).counterBlock kind.toNat b.toNat))
    ∧ (∀ (first : U32) (n : Byte), s.queryAnswers (.logRead h first n) h
        { opcode := 0xC701, len := 5, bad := decide (63 < n.toNat) || decide (65535 < first.toNat) }
        ((List.range n.toNat).flatMap fun k => (s.obs.log.get ((first.toNat + k) % 65536)).bytes))
    ∧ (∀ (slot : Byte) (off : U32) (len : U16),
        let i : Instr := .archiveRead h slot off len
        let spec : CmdSpec :=
          { opcode := 0xC703, len := 7,
            bad := decide (15 < slot.toNat) || decide (2048 < len.toNat) || decide (4194304 < off.toNat + len.toNat) }
        let a := s.obs.archives.get slot.toNat
        let u := s.ticketed h
        let swap := u.archiveSwap slot.toNat
        let r := u.byteValues (u.archiveBytes slot.toNat off.toNat len.toNat swap)
        (u.archiveTouched slot.toNat = false → a.valid = true →
          s.queryAnswers i h spec ((List.range len.toNat).map fun k => a.byte (off.toNat + k)))
        ∧ (u.archiveTouched slot.toNat = false → a.valid = false → s.queryDeclines i h spec rcConflict (s.conflictBytes 0 0 0 0))
        ∧ (u.archiveTouched slot.toNat = true → (u.archiveBytes slot.toNat 0 4 swap).all (fun b => b == some 0) = true →
          s.queryDeclines i h spec rcConflict (s.conflictBytes 0 0 0 0))
        ∧ (u.archiveTouched slot.toNat = true → (u.archiveBytes slot.toNat 0 4 swap).all (fun b => b == some 0) = false →
          s.takes i h spec → exec i s = .next (r.2.respond i h.src h.tag (s.ticketOf h.src) rcSuccess r.1)))
    ∧ s.queryAnswers (.configGetState h) h { opcode := 0xC005 } s.cfgStateBytes
    ∧ (∀ (v : Byte) (off : U32) (len : U16),
        let spec : CmdSpec := { opcode := 0xC006, len := 7, bad := decide (2 < v.toNat) || decide (2048 < len.toNat) }
        (∀ b : List Byte, s.imageVersion v = some b →
          s.queryAnswers (.configRead h v off len) h spec (sliceOf b off.toNat len.toNat))
        ∧ (s.imageVersion v = none → s.queryDeclines (.configRead h v off len) h spec rcConflict
            (s.conflictBytes 7 0 (commitNo s.mgmt.cfg.phase) 0)))
    ∧ s.queryAnswers (.gossipGet h) h { opcode := 0xC007 } (s.gossipBytes ++ leBytes s.mgmt.gossip.flags.toNat 2)
    ∧ (s.sys.leader = true → s.queryAnswers (.fabricDiscover h) h { opcode := 0xC502 }
        (s.gossipBytes ++ leBytes s.mgmt.gossip.flags.toNat 2 ++ (List.range 8).flatMap fun t =>
          leBytes (s.partnerOf t).1 6 ++ leBytes (s.partnerOf t).2 1))
    ∧ (s.sys.leader = false → s.queryDeclines (.fabricDiscover h) h { opcode := 0xC502 } rcConflict
        (s.conflictBytes 0xC s.leaderId 0 0))
    ∧ (∀ n : PortId, s.takes (.slotGetStatus h n) h { opcode := 0xC404, len := 1 } →
        exec (.slotGetStatus h n) s = .next (State.respond (s.ticketed h).slotTicks (.slotGetStatus h n) h.src h.tag
          (s.ticketOf h.src) rcSuccess ((s.ticketed h).slotTicks.slotReport n.val)))

/-- The boot ROM verifies both images and boots both pairs from the one that verifies, the other one of an unconfirmed warm boot, or the higher version. With the images of slots 0 and 1 verified as ok0 and ok1, step 7 chooses: the one slot that verifies; with both, after a warm reset with BOOT_CONFIRMED 0, the slot other than the one booted last, with FALLBACK; otherwise the slot with the higher IMAGE_VERSION, slot 0 on a tie, without FALLBACK. The choice stands in BOOT_SLOT, and RELEASED boots both pairs from it. With no image that verifies there is no choice: the part enters SAFE. Rests on 18_modes_and_startup.md: R398. -/
def Obligations.BootRomChoosesTheSlot : Prop :=
  ∀ s : State,
    let ok0 := s.imageOk 0
    let ok1 := s.imageOk 1
    let st := s.sys.status
    let chosen (slot fb : Bool) : Prop := s.bootVerify.sys.status.bootSlot = slot ∧ s.bootVerify.sys.status.fallback = fb
      ∧ s.bootVerify.sys.status.slot0Ok = ok0 ∧ s.bootVerify.sys.status.slot1Ok = ok1 ∧ s.bootVerify.sys.mode = s.sys.mode
    let second := st.kind = 3 ∧ st.bootConfirmed = false
    (ok0 = true → ok1 = false → chosen false false)
    ∧ (ok0 = false → ok1 = true → chosen true false)
    ∧ (ok0 = true → ok1 = true → second → chosen (!st.bootSlot) true)
    ∧ (ok0 = true → ok1 = true → ¬ second → s.imageField 0 4 4 < s.imageField 1 4 4 → chosen true false)
    ∧ (ok0 = true → ok1 = true → ¬ second → s.imageField 1 4 4 ≤ s.imageField 0 4 4 → chosen false false)
    ∧ (ok0 = false → ok1 = false → s.bootVerify =
        State.enterSafe { s with sys.status := { st with slot0Ok := false, slot1Ok := false, prepareStep := 7 } } 2)
    ∧ (s.sys.mode = .prepare → s.sys.stopped = false → st.prepareStep = 7 → ∃ t : State, s.settlesTo .released t
        ∧ t.sys.pairA = .booting ∧ t.sys.pairB = .booting
        ∧ t.sys.regsA.imageSlot = st.bootSlot ∧ t.sys.regsB.imageSlot = st.bootSlot)

/-- A request's wanted state, snoop set, snoop type and the holders it leaves follow its opcode, meta field and the entry it finds. MemRdData wants EXCL with Meta0-State and Any and otherwise SHARED; another opcode wants what MetaValue says, or with No-Op what SnpType says. The requester's slot, flagged or not, is never in its own snoop set. A read or invalidation that wants EXCL snoops every other holder with BISnpInv, a read that wants SHARED the owner with BISnpData, one that wants NONE the owner with BISnpCur; MemInv and MemInvNT invalidate every other holder whatever they want; a writeback from the recorded owner snoops nobody, another write every other holder; MemClnEvct nobody; an engine's read the owner with BISnpCur. Afterwards a reader with a usable slot that wants EXCL is the owner; one that wants SHARED is added, as the owner if no other holder is left; one that wants NONE, and any in the phase NO_CACHE, changes nothing; a write with MetaField No-Op changes nothing, with Invalid removes the requester, with Shared leaves it as the only sharer and with Any as owner; MemClnEvct removes the requester. Rests on 05_coherence.md: R98, R99. -/
def Obligations.SnoopsAndGrantsFollowTheRequest : Prop :=
  ∀ (t : Txn) (w : Want) (hs : List Nat) (o : Option Nat) (op : Nat) (m : Msg),
    let others := hs.filter fun i => t.ownSlot ≠ some i
    let own := o.toList.filter fun i => t.ownSlot ≠ some i
    let inv := t.opcode = 0 ∨ t.opcode = 9
    let left := t.holders.filter fun i => t.ownSlot ≠ some i
    (wantOf 2 m = if m.metaField = .meta0State ∧ m.metaValue = .any then .excl else .shared)
    ∧ (op ≠ 2 → m.metaField = .meta0State → wantOf op m = (match m.metaValue with
        | .invalid => .none
        | .shared => .shared
        | .any => .excl))
    ∧ (op ≠ 2 → m.metaField = .noOp → wantOf op m = (match m.snpType with
        | .snpInv => .excl
        | .snpData => .shared
        | .snpCur => .none
        | .noOp => .none))
    ∧ (∀ a : Nat, ∀ i ∈ (snoopFor t a w hs o).1, t.ownSlot ≠ some i)
    ∧ (inv → snoopFor t 0 w hs o = (others, .inv))
    ∧ (¬ inv → snoopFor t 0 .excl hs o = (others, .inv) ∧ snoopFor t 0 .shared hs o = (own, .data)
        ∧ snoopFor t 0 .none hs o = (own, .cur))
    ∧ (t.cls = 1 → t.msg.snpType = .noOp → ∀ r : Nat, o = some r → t.reqSlot = some r → (snoopFor t 1 w hs o).1 = [])
    ∧ (t.cls ≠ 1 ∨ t.msg.snpType ≠ .noOp ∨ o = none ∨ o ≠ t.reqSlot → snoopFor t 1 w hs o = (others, .inv))
    ∧ ((snoopFor t 2 w hs o).1 = [] ∧ snoopFor t 3 w hs o = (own, .cur))
    ∧ (∀ r : Nat, t.reqSlot = some r →
        (t.want = .excl → t.after 0 false = ([r], some r, 2))
        ∧ (t.want = .shared → ¬ inv → left = [] → t.after 0 false = ([r], some r, 2))
        ∧ (t.want = .shared → ¬ inv → left ≠ [] → t.after 0 false = (left ++ [r], none, 1)))
    ∧ (∀ q : Bool, t.want = .none ∨ q = true ∨ t.reqSlot = none →
        (¬ inv → t.after 0 q = (t.holders, t.ownerNow, 0)) ∧ (inv → (t.after 0 q).1 = left))
    ∧ (∀ q : Bool, t.want = .shared → inv → (t.after 0 q).1 = left)
    ∧ (∀ r : Nat, t.ownSlot = some r →
        (t.msg.metaField = .noOp → t.after 1 false = (t.holders, t.ownerNow, 0))
        ∧ (t.msg.metaField = .meta0State → t.msg.metaValue = .invalid → (t.after 1 false).1 = left)
        ∧ (t.msg.metaField = .meta0State → t.reqSlot = some r →
            (t.msg.metaValue = .shared → t.after 1 false = ([r], none, 0))
            ∧ (t.msg.metaValue = .any → t.after 1 false = ([r], some r, 0)))
        ∧ (t.after 1 true).1 = left)
    ∧ (∀ q : Bool, (t.after 2 q).1 = left ∧ t.after 3 q = ([], none, 0))

/-- Set Response Message Limit, Transfer FW and Set Timestamp take what they are given; four commands return Unsupported. Taken at once, with its INTENT and END records around it: Set Response Message Limit with 256 B to 2,048 B keeps the limit of its source; Transfer FW into the slot (1 or 2) that the ACTIVE pair did not boot from writes the bytes into that 32 MiB image of the flash and nowhere else; Set Timestamp on the time root, with a time not behind fabric time, lets fabric time reach it. Each answers next with Success, and nothing else changes but the ticket, the journal and what the source keeps of the answer (after Set Timestamp, also what the block does of itself once time has moved). Activate FW, Set DC Region Configuration, Initiate DC Add and Initiate DC Release, taken at once, answer Unsupported with no output, and nothing else changes. Where the spec leaves a point open the statement follows the model's choice (log entries 22, 30 and 32). Rests on 02_address_model.md: R18; 13_trunk_link_layer.md: R304; 15_management_plane.md: R340; 16_mailbox_commands.md: R362, R369. -/
def Obligations.SwitchSettingsTakenOrUnsupported : Prop :=
  (∀ (s : State) (h : CmdHdr),
     (∀ limit : Nat, s.changeEnds (.setResponseMessageLimit h limit) h
       { opcode := 0x0004, len := 1, bad := decide (limit < 256) || decide (2048 < limit), changes := true }
       (fun t => { t with mgmt.msgLimit := t.mgmt.msgLimit.set (srcNo h.src) limit }) (leBytes limit 2))
     ∧ (∀ (p : Pair) (off : Nat) (bytes : List Byte), s.active = some p →
         s.changeEnds (.transferFw h (if (s.pairRegs p).imageSlot then 1 else 2) off bytes) h
           { opcode := 0x0201, bad := decide (0x2000000 < off + bytes.length), changes := true }
           (fun t => { t with mgmt.flash := bytes.zipIdx.foldl (fun f b =>
             f.set (((if (s.pairRegs p).imageSlot then 1 else 2) - 1) * 0x2000000 + off + b.2) (some b.1)) t.mgmt.flash }) [])
     ∧ (∀ t : U64, s.isRoot = true → s.sys.ft ≤ t.toNat →
         s.changeSettles (.setTimestamp h t) h { opcode := 0x0301, len := 8, changes := true }
           (fun u => u.advanceTo t.toNat) []))
  ∧ (∀ (s : State) (h : CmdHdr),
     (s.takes (.activateFw h) h { opcode := 0x0202 } → exec (.activateFw h) s = .next (s.answered (.activateFw h) h rcUnsupported []))
     ∧ (s.takes (.setDcRegionConfiguration h) h { opcode := 0x5602 } →
         exec (.setDcRegionConfiguration h) s = .next (s.answered (.setDcRegionConfiguration h) h rcUnsupported []))
     ∧ (s.takes (.initiateDcAdd h) h { opcode := 0x5604 } →
         exec (.initiateDcAdd h) s = .next (s.answered (.initiateDcAdd h) h rcUnsupported []))
     ∧ (s.takes (.initiateDcRelease h) h { opcode := 0x5605 } →
         exec (.initiateDcRelease h) s = .next (s.answered (.initiateDcRelease h) h rcUnsupported [])))

/-- Physical Port Control, PPB configuration requests and the binding commands act on the port they name, or are refused. Taken at once: Physical Port Control with a PPB reset of a BOUND or UNBOUND port takes its link down with cause 5 (hot reset), and any other control or role answers Invalid Input and changes nothing; Send PPB CXL.io Configuration Request on a port that is neither HOST nor DISABLED sends the request out if the link is up, and a read returns the answer (all ones if none comes or the link is down), while on a HOST or DISABLED port it answers Invalid Input; Bind vPPB binds the vPPB to the port, or answers STATE_CONFLICT naming the port and its role where R239 refuses it; Unbind vPPB of a bound vPPB other than 0 stays in execution if it asks to wait for a link that is up, and otherwise unbinds it at once; of vPPB 0 or of one not bound it answers Invalid Input. Each that changes something writes its INTENT and END records, and the commands turned away change nothing but the ticket and what the source keeps of the answer. Where the spec leaves a point open the statement follows the model's choice (log entries 20, 22, 36 and 48). Rests on 11_edge_ports.md: R239, R240; 16_mailbox_commands.md: R369. -/
def Obligations.PortCommandsActOnTheirPort : Prop :=
  ∀ (s : State) (h : CmdHdr) (p : PortId),
    (((s.port p.val).role = .bound ∨ (s.port p.val).role = .unbound) →
      s.changeSettles (.physicalPortControl h p .resetPpb) h { opcode := 0x5102, len := 2, changes := true }
        (fun t => t.linkLost p.val 5 false) [])
    ∧ (∀ c : PortControl, c ≠ .resetPpb ∨ ((s.port p.val).role ≠ .bound ∧ (s.port p.val).role ≠ .unbound) →
        s.turnsAway (.physicalPortControl h p c) h { opcode := 0x5102, len := 2, changes := true } rcInvalid [])
    ∧ (∀ (reg : BitVec 12) (write : Bool) (data : U32) (answer : Option U32),
        ((s.port p.val).role ≠ .host → (s.port p.val).role ≠ .disabled →
          s.changeEnds (.sendPpbCxlIoConfigurationRequest h p reg write data answer) h
            { opcode := 0x5103, len := 8, changes := true }
            (fun t => if (s.port p.val).dlUp then t.emit (.notify p.val 9 [reg.toNat, b2n write, data.toNat]) else t)
            (if write then []
              else leBytes (if (s.port p.val).dlUp then answer.getD 0xFFFFFFFF else (0xFFFFFFFF : U32)).toNat 4))
        ∧ ((s.port p.val).role = .host ∨ (s.port p.val).role = .disabled →
          s.takes (.sendPpbCxlIoConfigurationRequest h p reg write data answer) h { opcode := 0x5103, len := 8, changes := true } →
          exec (.sendPpbCxlIoConfigurationRequest h p reg write data answer) s
            = .next (s.answered (.sendPpbCxlIoConfigurationRequest h p reg write data answer) h rcInvalid [])))
    ∧ (∀ (vcs : PortId) (v : Fin 32) (ld : Option (BitVec 4)),
        (s.bindRefused vcs.val v.val p.val (ld.map (·.toNat)) = false →
          s.changeSettles (.bindVppb h vcs v p ld) h { opcode := 0x5201, len := 4, changes := true, object := some (8, p.val) }
            (fun t => t.bind vcs.val v.val p.val (ld.map (·.toNat))) [])
        ∧ (s.bindRefused vcs.val v.val p.val (ld.map (·.toNat)) = true →
          s.turnsAway (.bindVppb h vcs v p ld) h { opcode := 0x5201, len := 4, changes := true, object := some (8, p.val) }
            rcConflict (s.conflictBytes 8 p.val (roleNo (s.port p.val).role) 0)))
    ∧ (∀ (vcs : PortId) (v : Fin 32) (o : UnbindOption) (q l : Nat), v.val ≠ 0 →
        s.edge.binds.get (32 * vcs.val + v.val) = some (q, l) →
        (¬ (o = .waitLinkDown ∧ (s.port q).dlUp = true) →
          s.changeSettles (.unbindVppb h vcs v o) h { opcode := 0x5202, len := 3, changes := true, object := some (8, q) }
            (fun t => t.unbind vcs.val v.val) [])
        ∧ (o = .waitLinkDown → (s.port q).dlUp = true →
          s.changeWaits (.unbindVppb h vcs v o) h { opcode := 0x5202, len := 3, changes := true, object := some (8, q) }
            (fun t => t)))
    ∧ (∀ (vcs : PortId) (v : Fin 32) (o : UnbindOption),
        (s.edge.binds.get (32 * vcs.val + v.val) = none →
          s.turnsAway (.unbindVppb h vcs v o) h { opcode := 0x5202, len := 3, changes := true } rcInvalid [])
        ∧ (∀ q l, s.edge.binds.get (32 * vcs.val + v.val) = some (q, l) → v.val = 0 →
          s.turnsAway (.unbindVppb h vcs v o) h { opcode := 0x5202, len := 3, changes := true, object := some (8, q) } rcInvalid []))

/-- MLD commands reach the FM-owned LD and bring its answer; the DCD queries report the pool view of a HOST port. Taken at once on a BOUND or UNBOUND MLD port with its link up, Tunnel Management Command, Get LD Info, Get LD Allocations and Set LD Allocations send their request out on the port and end with Success and the device's answer, the last two and Tunnel Management Command between INTENT and END records where they may change something; on any other port each of the four answers Invalid Input and changes nothing but the ticket and what the source keeps of the answer. Get DCD Info, Get Host DC Region Configuration and Get DC Region Extent Lists of a HOST port are answered with the region and the extents of its pool view. Where the spec leaves a point open the statement follows the model's choice (log entries 20 and 22). Rests on 02_address_model.md: R18, R19; 11_edge_ports.md: R237, R240; 16_mailbox_commands.md: R369. -/
def Obligations.DeviceAndPoolViewCommandsAnswered : Prop :=
  ∀ (s : State) (h : CmdHdr) (p : PortId),
    (((s.port p.val).role = .bound ∨ (s.port p.val).role = .unbound) ∧ (s.port p.val).mld = true ∧ (s.port p.val).dlUp = true →
      (∀ a : List Byte, s.takes (.getLdInfo h p a) h { opcode := 0x5400 } → exec (.getLdInfo h p a) s =
        .next (((s.ticketed h).emit (.notify p.val 10 [0x5400])).respond (.getLdInfo h p a) h.src h.tag (s.ticketOf h.src) rcSuccess a))
      ∧ (∀ a : List Byte, s.takes (.getLdAllocations h p a) h { opcode := 0x5401 } → exec (.getLdAllocations h p a) s =
        .next (((s.ticketed h).emit (.notify p.val 10 [0x5401])).respond (.getLdAllocations h p a) h.src h.tag (s.ticketOf h.src)
          rcSuccess a))
      ∧ (∀ r a : List Byte, s.changeEnds (.setLdAllocations h p r a) h { opcode := 0x5402, changes := true }
          (fun t => t.emit (.notify p.val 10 (0x5402 :: r.map (·.toNat)))) a)
      ∧ (∀ r a : List Byte, s.changeEnds (.tunnelManagementCommand h p r a) h { opcode := 0x5300, changes := true }
          (fun t => t.emit (.notify p.val 10 (0x5300 :: r.map (·.toNat)))) a))
    ∧ (∀ r a : List Byte, ¬ (((s.port p.val).role = .bound ∨ (s.port p.val).role = .unbound) ∧ (s.port p.val).mld = true
          ∧ (s.port p.val).dlUp = true) →
        (s.takes (.getLdInfo h p a) h { opcode := 0x5400 } →
          exec (.getLdInfo h p a) s = .next (s.answered (.getLdInfo h p a) h rcInvalid []))
        ∧ (s.takes (.getLdAllocations h p a) h { opcode := 0x5401 } →
          exec (.getLdAllocations h p a) s = .next (s.answered (.getLdAllocations h p a) h rcInvalid []))
        ∧ (s.takes (.setLdAllocations h p r a) h { opcode := 0x5402, changes := true } →
          exec (.setLdAllocations h p r a) s = .next (s.answered (.setLdAllocations h p r a) h rcInvalid []))
        ∧ (s.takes (.tunnelManagementCommand h p r a) h { opcode := 0x5300, changes := true } →
          exec (.tunnelManagementCommand h p r a) s = .next (s.answered (.tunnelManagementCommand h p r a) h rcInvalid [])))
    ∧ s.queryAnswers (.getDcdInfo h p) h { opcode := 0x5600, bad := (s.port p.val).role != .host } (s.dcdInfo p.val)
    ∧ s.queryAnswers (.getHostDcRegionConfiguration h p) h { opcode := 0x5601, bad := (s.port p.val).role != .host }
        (s.regionBytes p.val)
    ∧ (∀ first n : Nat, s.queryAnswers (.getDcRegionExtentLists h p first n) h
        { opcode := 0x5603, bad := (s.port p.val).role != .host } (s.extentListBytes p.val first n))

/-- The event-record and log commands serve the management function and the pool view alike. For the management function, taken at once, and for a pool view (HOST port with its link up, Bolroth running, no reserved bit 1): Get Event Records returns the named log's records and overflow flag, Clear Event Records clears them, Get and Set Event Interrupt Policy read the policy and write one without a reserved value (with one, the pool view answers Invalid Input), Get Supported Logs names the Command Effects Log, and Get Log returns its bytes. Each answers next, and changes nothing but what it is told to change, its answer and, for the management function, its ticket and journal records (Get Log also takes the free values of the effects words, log entry 1). A pool view that does not take one of the six does nothing without a HOST port whose link is up, answers Busy until Bolroth runs, and Invalid Input to a reserved bit that is 1. Where the spec leaves a point open the statement follows the model's choice (log entries 20, 22 and 47). Rests on 11_edge_ports.md: R237; 16_mailbox_commands.md: R369; 19_observability.md: R430. -/
def Obligations.EventLogCommandsServeBothTargets : Prop :=
  ∀ (s : State) (h : CmdHdr) (p : PoolHdr) (log : EventLog) (all : Bool) (n off len : Nat) (policy : BitVec 40),
    s.queryAnswers (.getEventRecords (.mgmt h) log) h { opcode := 0x0100, len := 1 } (s.obs.mgmtLogs.recordBytes (eventNo log))
    ∧ s.changeEnds (.clearEventRecords (.mgmt h) log all n) h { opcode := 0x0101, len := 6, changes := true }
        (fun t => { t with obs.mgmtLogs := t.obs.mgmtLogs.clear (eventNo log) all n }) []
    ∧ s.queryAnswers (.getEventInterruptPolicy (.mgmt h)) h { opcode := 0x0102 } (leBytes s.obs.mgmtLogs.policy.toNat 5)
    ∧ s.changeEnds (.setEventInterruptPolicy (.mgmt h) policy) h { opcode := 0x0103, len := 5, changes := true, bad := policyBad policy }
        (fun t => { t with obs.mgmtLogs := { t.obs.mgmtLogs with policy := policy } }) []
    ∧ s.queryAnswers (.getSupportedLogs (.mgmt h)) h { opcode := 0x0400 }
        (leBytes 1 8 ++ effectsUuid ++ leBytes (4 * (effectOps (.mgmt h)).length) 4)
    ∧ (s.takes (.getLog (.mgmt h) off len) h { opcode := 0x0401, len := 24 } → exec (.getLog (.mgmt h) off len) s =
        .next (((s.ticketed h).effectsLog (.mgmt h)).1.respond (.getLog (.mgmt h) off len) h.src h.tag (s.ticketOf h.src) rcSuccess
          ((((s.ticketed h).effectsLog (.mgmt h)).2.drop off).take (Nat.min len 2048))))
    ∧ (s.poolTakes p →
        exec (.getEventRecords (.pool p) log) s
            = .next (s.start.poolAnswer p.port.val rcSuccess ((s.edge.pools.get p.port.val).logs.recordBytes (eventNo log)))
        ∧ exec (.clearEventRecords (.pool p) log all n) s
            = .next ((s.start.setLogs (.pool p) ((s.edge.pools.get p.port.val).logs.clear (eventNo log) all n)).poolAnswer
                p.port.val rcSuccess [])
        ∧ exec (.getEventInterruptPolicy (.pool p)) s
            = .next (s.start.poolAnswer p.port.val rcSuccess (leBytes (s.edge.pools.get p.port.val).logs.policy.toNat 5))
        ∧ exec (.setEventInterruptPolicy (.pool p) policy) s
            = .next (if policyBad policy then s.start.poolAnswer p.port.val rcInvalid [] else
                (s.start.setLogs (.pool p) { (s.edge.pools.get p.port.val).logs with policy := policy }).poolAnswer
                  p.port.val rcSuccess [])
        ∧ exec (.getSupportedLogs (.pool p)) s = .next (s.start.poolAnswer p.port.val rcSuccess
            (leBytes 1 8 ++ effectsUuid ++ leBytes (4 * (effectOps (.pool p)).length) 4))
        ∧ exec (.getLog (.pool p) off len) s = .next ((s.start.effectsLog (.pool p)).1.poolAnswer p.port.val
            rcSuccess (((s.start.effectsLog (.pool p)).2.drop off).take (Nat.min len 2048))))
    ∧ (∀ i ∈ [Instr.getEventRecords (.pool p) log, .clearEventRecords (.pool p) log all n, .getEventInterruptPolicy (.pool p),
          .setEventInterruptPolicy (.pool p) policy, .getSupportedLogs (.pool p), .getLog (.pool p) off len],
        s.poolDeclines i p fun t => t)

/-- The pool view reports its region and extents, and takes add responses and releases. On a HOST port with its link up, Bolroth running and no reserved bit 1: Identify Memory Device reports capacities of 0; Get Dynamic Capacity Configuration and Get Dynamic Capacity Extent List report the region and extents; an Add Dynamic Capacity Response that names exactly the oldest unanswered event's extent makes its OFFERED entries ACTIVE, one that omits it makes them EMPTY, and any other extent, or a response with no event pending, is Invalid Input; Release Dynamic Capacity whose extents name ACTIVE entries only makes those RELEASING. A pool view that does not take one of the five does nothing without a HOST port whose link is up, answers Busy until Bolroth runs, and Invalid Input to a reserved bit that is 1. ADD_TIMEOUT, while Bolroth runs, brings fabric time to the oldest event's bound and makes its OFFERED entries EMPTY; with no event pending, or Bolroth not running, it has no effect. Where the spec leaves a point open the statement follows the model's choice (log entries 5, 20, 22, 47, 55 and 68). Rests on 02_address_model.md: R18, R19, R20, R32; 11_edge_ports.md: R237; 18_modes_and_startup.md: R404. -/
def Obligations.PoolViewCommandsAnswered : Prop :=
  ∀ (s : State) (h : PoolHdr),
    (s.poolTakes h →
      exec (.identifyMemoryDevice h) s = .next (s.start.poolAnswer h.port.val rcSuccess (leBytes 0 24))
      ∧ exec (.getDynamicCapacityConfiguration h) s = .next (s.start.poolAnswer h.port.val rcSuccess (s.regionBytes h.port.val))
      ∧ (∀ first n : Nat, exec (.getDynamicCapacityExtentList h first n) s
          = .next (s.start.poolAnswer h.port.val rcSuccess (s.extentListBytes h.port.val first n)))
      ∧ (∀ a : AddEvent, s.oldestAdd h.port.val = some a →
          exec (.addDynamicCapacityResponse h [(BitVec.ofNat 64 (a.extent.dpa * tileBytes), BitVec.ofNat 64 (a.extent.count * tileBytes))]) s
            = (if a.extent.dpa * tileBytes < 2 ^ 64 ∧ a.extent.count * tileBytes < 2 ^ 64 then
                .next ((((((s.start.journal 1 0).moveExtent a.extent .offered fun v => { v with state := .active }).popAdd h.port.val).journal
                  2 0).poolAnswer h.port.val rcSuccess []).finish)
              else .next (s.start.poolAnswer h.port.val rcInvalid []).finish)
          ∧ exec (.addDynamicCapacityResponse h []) s
            = .next (((((s.start.journal 1 0).moveExtent a.extent .offered fun _ => {}).popAdd h.port.val).journal 2 0).poolAnswer
                h.port.val rcSuccess []).finish
          ∧ ∀ l : List (U64 × U64), l ≠ [] →
              (l.map fun x => (x.1.toNat, x.2.toNat)) ≠ [(a.extent.dpa * tileBytes, a.extent.count * tileBytes)] →
              exec (.addDynamicCapacityResponse h l) s = .next (s.start.poolAnswer h.port.val rcInvalid []).finish)
      ∧ (∀ l : List (U64 × U64), s.oldestAdd h.port.val = none →
          exec (.addDynamicCapacityResponse h l) s = .next (s.start.poolAnswer h.port.val rcInvalid []).finish)
      ∧ (∀ l : List (U64 × U64), (l.all fun x => (s.releasedEntries h.port.val x).isSome) = true →
          exec (.releaseDynamicCapacity h l) s = .next ((State.journal { s.start.journal 1 0 with
            tab.tt := (l.filterMap (s.releasedEntries h.port.val)).flatten.foldl (fun t k =>
              t.upd k fun v => { v with state := .releasing }) s.tab.tt
            dp.freed := true } 2 0).poolAnswer h.port.val rcSuccess []).finish)
      ∧ (∀ l : List (U64 × U64), (l.any fun x => (s.releasedEntries h.port.val x).isNone) = true →
          exec (.releaseDynamicCapacity h l) s = .next (s.start.poolAnswer h.port.val rcInvalid []).finish))
    ∧ (∀ (first n : Nat) (i : Instr), i ∈ [Instr.identifyMemoryDevice h, .getDynamicCapacityConfiguration h,
        .getDynamicCapacityExtentList h first n] → s.poolDeclines i h fun t => t)
    ∧ (∀ (l : List (U64 × U64)) (i : Instr), i ∈ [Instr.addDynamicCapacityResponse h l, .releaseDynamicCapacity h l] →
        s.poolDeclines i h State.finish)
    ∧ (∀ (p : PortId) (a : AddEvent), s.oldestAdd p.val = some a → s.bolrothRuns = true →
        exec (.addTimeout p) s = .next ((((((s.start.advanceTo (a.due.getD 0)).journal 1 0).moveExtent a.extent .offered
          fun _ => {}).popAdd p.val).journal 2 0).finish))
    ∧ (∀ p : PortId, s.oldestAdd p.val = none ∨ s.bolrothRuns = false → s.ignores (.addTimeout p))

/-- CONFIG_STAGE_WRITE writes the staged image; TENANT_UNBIND and TENANT_REMOVE commit the current image with the tenant unbound or left out. Taken at once while the commit phase is IDLE or FLIPPED: CONFIG_STAGE_WRITE of up to 2,040 bytes within 64 MiB puts them at their offset of the staged image, which begins in the lowest slot without an image if none is staged, and the staged length grows to reach them; offset 0 with length 0 makes the configuration have no staged image; another offset with length 0 changes no image; a write past 64 MiB answers RESOURCE_EXHAUSTED and changes nothing. In any other phase the answer is STATE_CONFLICT naming the configuration and its phase, and nothing changes. Taken at once with nothing staged, the phase IDLE, an image in force, the old epoch drained, BASE_EPOCH the epoch in force, the tenant in the current image and nothing in the way of its leaving: TENANT_UNBIND or TENANT_REMOVE puts the current image, with that tenant's record unbound or left out, into the free slot, starts its flip and stays in execution. Where the spec leaves a point open the statement follows the model's choice (log entries 16, 46 and 60). Rests on 02_address_model.md: R471; 16_mailbox_commands.md: R370; 17_configuration_epochs.md: R381, R383. -/
def Obligations.StagingAndTenantCommandsBuildImages : Prop :=
  (∀ (s : State) (h : CmdHdr) (off len : U32) (bytes : List Byte),
     let c := s.mgmt.cfg
     let spec : CmdSpec := { opcode := 0xC001, len := 8 + len.toNat, bad := decide (2040 < len.toNat), changes := true,
                             object := some (7, 0) }
     let k := c.staged.getD c.freeSlot
     (c.phase = .idle ∨ c.phase = .flipped →
       (len ≠ 0 → off.toNat + len.toNat ≤ 2 ^ 26 → s.changeEnds (.configStageWrite h off len bytes) h spec
         (fun t => { t.dropStore (0x3A0000000 + 0x4000000 * k + off.toNat) len.toNat with
           mgmt.cfg.staged := some k
           mgmt.cfg.stagedLen := Nat.max (if c.staged.isSome then c.stagedLen else 0) (off.toNat + len.toNat)
           mgmt.cfg.slots := c.slots.set k (patchBytes (c.slots.get k) off.toNat (sliceOf bytes 0 len.toNat)) }) [])
       ∧ (2 ^ 26 < off.toNat + len.toNat → s.takes (.configStageWrite h off len bytes) h spec →
         exec (.configStageWrite h off len bytes) s = .next (s.answered (.configStageWrite h off len bytes) h rcExhausted []))
       ∧ (off ≠ 0 → len = 0 → off.toNat ≤ 2 ^ 26 → s.changeEnds (.configStageWrite h off len bytes) h spec (fun t => t) [])
       ∧ (off = 0 → len = 0 → s.changeEnds (.configStageWrite h off len bytes) h spec
         (fun t => { t with mgmt.cfg.staged := none, mgmt.cfg.stagedLen := 0 }) []))
     ∧ (c.phase ≠ .idle → c.phase ≠ .flipped → s.takes (.configStageWrite h off len bytes) h spec →
         exec (.configStageWrite h off len bytes) s = .next (s.answered (.configStageWrite h off len bytes) h rcConflict
           (s.conflictBytes 7 0 (commitNo c.phase) 0))))
  ∧ (∀ (s : State) (h : CmdHdr) (n : U16) (base : U32) (remove : Bool) (t : TenantRec),
     let c := s.mgmt.cfg
     let u := s.intended h
     let img := u.tenantImage n.toNat remove
     c.staged = none → c.phase = .idle → c.current ≠ none → s.tab.epoch ≠ 0 → c.undrained = none → base = s.tab.epoch →
     u.curPlan.tenant n.toNat = some t →
     (remove = true ∨ t.entry.valid = true → u.checkLeaving ((planOf img).record .tenant n.toNat) n.toNat t.entry.valid = none) →
       (remove = false → s.changeWaits (.tenantUnbind h n base) h
         { opcode := 0xC102, len := 6, bad := decide (4096 ≤ n.toNat), changes := true, object := some (7, 0) }
         (fun v => State.writeShadow { v.dropStore (slotBase c.freeSlot) 0x4000000 with mgmt.cfg.slots := c.slots.set c.freeSlot img }
           c.freeSlot (planOf img)))
       ∧ (remove = true → s.changeWaits (.tenantRemove h n base) h
         { opcode := 0xC103, len := 6, bad := decide (4096 ≤ n.toNat), changes := true, object := some (7, 0) }
         (fun v => State.writeShadow { v.dropStore (slotBase c.freeSlot) 0x4000000 with mgmt.cfg.slots := c.slots.set c.freeSlot img }
           c.freeSlot (planOf img))))

/-- CONFIG_COMMIT writes a valid staged image into the shadow bank, CONFIG_ROLLBACK starts the return to the previous image, or both say why not. Taken at once with an image staged, the phase IDLE, no rolled-back first image in force and the old epoch drained: CONFIG_COMMIT of a staged image that passes every check goes through phases VALIDATING and WRITING into the bank that is not in force, its flip becomes due and the command stays in execution; an image that a check turns down leaves the records of phase VALIDATING and of IDLE, and answers the check's code and validation report. With nothing staged, or the phase not IDLE, the answer is STATE_CONFLICT; while the old epoch is undrained it is STATE_CONFLICT naming the recipe-bank record. Taken at once before the confirm deadline: CONFIG_ROLLBACK of the epoch in force with a previous image and the phase IDLE or FLIPPED starts the rollback and stays in execution, and otherwise answers EPOCH_MISMATCH or STATE_CONFLICT. Where the spec leaves a point open the statement follows the model's choice (log entries 16, 46 and 60). Rests on 16_mailbox_commands.md: R370; 17_configuration_epochs.md: R383, R384, R385, R387. -/
def Obligations.CommitAndRollbackStartTheirWork : Prop :=
  (∀ (s : State) (h : CmdHdr) (base : U32) (dg : BitVec 256),
     let c := s.mgmt.cfg
     let i : Instr := .configCommit h base dg
     let spec : CmdSpec := { opcode := 0xC002, len := 36, changes := true, object := some (7, 0) }
     (c.staged = none ∨ c.phase ≠ .idle ∨ (c.current ≠ none ∧ s.tab.epoch = 0) →
       s.turnsAway i h spec rcConflict (s.conflictBytes 7 0 (commitNo c.phase) 0))
     ∧ (∀ k : Nat, c.staged = some k → c.phase = .idle → ¬ (c.current ≠ none ∧ s.tab.epoch = 0) →
       let img := (s.intended h).readImage k (c.slots.get k) dg
       (c.undrained ≠ none →
         s.turnsAway i h spec rcConflict ((s.intended h).failBytes 0 (undrainedFail (imageRecs img))))
       ∧ (c.undrained = none →
         (∀ p : Plan, (s.intended h).validateImage img c.stagedLen base.toNat (some dg) = .ok p →
           s.changeWaits i h spec (fun t => t.writeShadow k p))
         ∧ (∀ f : CfgFail, (s.intended h).validateImage img c.stagedLen base.toNat (some dg) = .error f →
           s.changeFails i h spec (fun t => (t.setPhase .validating).setPhase .idle) f.code
             (((s.intended h).failBytes 1 f))))))
  ∧ (∀ (s : State) (h : CmdHdr) (epoch : U32), (∀ d, s.mgmt.cfg.confirmDeadline = some d → s.sys.ft < d) →
     let c := s.mgmt.cfg
     let i : Instr := .configRollback h epoch
     let spec : CmdSpec := { opcode := 0xC004, len := 4, changes := true, object := some (7, 0) }
     (c.previous ≠ none → c.phase = .idle ∨ c.phase = .flipped → epoch = s.tab.epoch → s.changeWaits i h spec (fun t => t.startRollback 0))
     ∧ (epoch ≠ s.tab.epoch → s.turnsAway i h spec rcEpoch [])
     ∧ (epoch = s.tab.epoch → c.previous = none ∨ (c.phase ≠ .idle ∧ c.phase ≠ .flipped) →
         s.turnsAway i h spec rcConflict (s.conflictBytes 7 0 (commitNo c.phase) 0)))

/-- CONFIG_CONFIRM of the epoch in force ends its trial in FLIPPED, does nothing in IDLE, and is refused in the other phases. Taken at once before the confirm deadline, CONFIG_CONFIRM tests the phase first: in VALIDATING, WRITING and ROLLING_BACK it answers STATE_CONFLICT, whatever its EPOCH. In FLIPPED and IDLE, an EPOCH other than the current epoch answers EPOCH_MISMATCH. With the current epoch, in FLIPPED it disarms the timer and sets IDLE, and in IDLE it answers Success and changes nothing else. No neighbour is looked at: the answer and the next state are given by the phase and the epoch alone. Rests on 17_configuration_epochs.md: R386. -/
def Obligations.ConfigConfirmActsByPhase : Prop :=
  ∀ (s : State) (h : CmdHdr) (epoch : U32), (∀ d, s.mgmt.cfg.confirmDeadline = some d → s.sys.ft < d) →
    let c := s.mgmt.cfg
    let i : Instr := .configConfirm h epoch
    let spec : CmdSpec := { opcode := 0xC003, len := 4, changes := true, object := some (7, 0) }
    (c.phase = .flipped → epoch = s.tab.epoch → s.changeSettles i h spec
        (fun t => State.setPhase { t with mgmt.cfg.confirmDeadline := none } .idle) [])
    ∧ (c.phase = .idle → epoch = s.tab.epoch → s.changeSettles i h spec (fun t => t) [])
    ∧ (c.phase = .flipped ∨ c.phase = .idle → epoch ≠ s.tab.epoch → s.turnsAway i h spec rcEpoch [])
    ∧ (c.phase = .validating ∨ c.phase = .writing ∨ c.phase = .rollingBack →
        s.turnsAway i h spec rcConflict (s.conflictBytes 7 0 (commitNo c.phase) 0))

/-- EPOCH_FLIP changes every bank select, takes the image's epoch and arms the confirm deadline; otherwise it does nothing. With a flip due to slot k, the phase WRITING and Bolroth running, EPOCH_FLIP answers next with the flip followed by what the new image changes, and after the flip itself the bank select is the other one, neither bank's contents has changed, EPOCH is the image's, the phase is FLIPPED, the current image is slot k and the previous one the image that was current, no flip is due, the confirm deadline stands CONFIRM_S seconds on, and the old epoch is undrained under its low byte. With no flip due it answers next with what the block does of itself. Where the spec leaves a point open the statement follows the model's choice (log entries 5 and 60). Rests on 03_recipe_engine.md: R59; 04_switch_core.md: R83; 17_configuration_epochs.md: R385. -/
def Obligations.FlipPutsTheStagedImageInForce : Prop :=
  ∀ s : State,
    (s.mgmt.cfg.toFlip = none → exec .epochFlip s = .next s.start.finish)
    ∧ ∀ k : Nat, s.mgmt.cfg.toFlip = some k → s.mgmt.cfg.phase = .writing → s.bolrothRuns = true →
      let new := s.start.planAt (some k)
      let u := s.start.flipTo k
      exec .epochFlip s = .next (State.finish ((u.applyFlip s.start.curPlan new s.bank).completeCfg (BitVec.ofNat 32 new.head.epoch)))
      ∧ u.tab.cur = !s.tab.cur ∧ u.tab.bank0 = s.tab.bank0 ∧ u.tab.bank1 = s.tab.bank1
      ∧ u.tab.epoch = BitVec.ofNat 32 new.head.epoch ∧ u.mgmt.cfg.phase = .flipped
      ∧ u.mgmt.cfg.current = some k ∧ u.mgmt.cfg.previous = s.mgmt.cfg.current ∧ u.mgmt.cfg.toFlip = none
      ∧ u.mgmt.cfg.prevEpoch = s.tab.epoch
      ∧ u.mgmt.cfg.confirmDeadline = some (s.sys.ft + new.ident.confirmS * 1000000000)
      ∧ u.mgmt.cfg.undrained = some (BitVec.ofNat 8 s.tab.epoch.toNat, s.tab.epoch, BitVec.ofNat 32 new.head.epoch)

/-- EPOCH_DRAINED, CONFIRM_DEADLINE, ROLLBACK_FLIP and WARM_RESTORE act when their condition holds and otherwise change nothing. EPOCH_DRAINED with an undrained old epoch that counts no live entry ends its draining and logs the two epochs; with a live entry left, or none draining, nothing happens. CONFIRM_DEADLINE in FLIPPED, with Bolroth running, lets fabric time reach the deadline and starts the rollback with cause 1; otherwise nothing happens. ROLLBACK_FLIP in ROLLING_BACK, with Bolroth running and every generation change of the rollback allowed, flips to the previous image's epoch (0 for the empty image), undoes the commit's entries and ends the rollback; otherwise nothing happens. In PROVISION after a warm reset, with a current image that can be read, EPOCH 0 and Bolroth running, WARM_RESTORE answers next with the current image written into the tables, then the live log replayed and MIGRATING and ZEROING entries ended; if the reset came before the confirmation, CONFIRM_LOST is logged with the epoch. Otherwise it changes nothing. Where the spec leaves a point open the statement follows the model's choice (log entries 5, 16 and 60). Rests on 04_switch_core.md: R83; 15_management_plane.md: R343; 17_configuration_epochs.md: R387, R389, R392; 18_modes_and_startup.md: R404. -/
def Obligations.EpochsDrainEndAndAreRestored : Prop :=
  (∀ s : State,
     (∀ (lo : Byte) (old new : U32), s.mgmt.cfg.undrained = some (lo, old, new) →
       (s.dp.live.get lo.toNat = 0 → exec .epochDrained s = .next (State.finish
         (State.log { s.start with mgmt.cfg.undrained := none } 0x0505 0 [(4, old.toNat), (4, new.toNat)])))
       ∧ (s.dp.live.get lo.toNat ≠ 0 → exec .epochDrained s = .next s.start.finish))
     ∧ (∀ d : Nat, s.mgmt.cfg.confirmDeadline = some d → s.mgmt.cfg.phase = .flipped → s.bolrothRuns = true →
         exec .confirmDeadline s = .next (State.finish ((s.start.advanceTo d).startRollback 1)))
     ∧ (s.mgmt.cfg.confirmDeadline = none ∨ s.mgmt.cfg.phase ≠ .flipped ∨ s.bolrothRuns = false →
         exec .confirmDeadline s = .next s.start.finish)
     ∧ (let prev := s.start.planAt s.mgmt.cfg.previous
        let rolled := s.start.curPlan
        (s.mgmt.cfg.phase = .rollingBack → s.bolrothRuns = true → s.start.rollbackReady rolled prev = true →
         exec .rollbackFlip s = .next (State.finish
           (((s.start.flipBanks (BitVec.ofNat 32 prev.head.epoch)).applyRollback rolled prev s.bank).endRollback prev))
         ∧ (s.start.flipBanks (BitVec.ofNat 32 prev.head.epoch)).tab.cur = !s.tab.cur
         ∧ (s.start.flipBanks (BitVec.ofNat 32 prev.head.epoch)).tab.epoch = BitVec.ofNat 32 prev.head.epoch))
     ∧ (s.mgmt.cfg.phase ≠ .rollingBack ∨ s.bolrothRuns = false
           ∨ s.start.rollbackReady s.start.curPlan (s.start.planAt s.mgmt.cfg.previous) = false →
         exec .rollbackFlip s = .next s.start.finish)
     ∧ (s.mgmt.cfg.undrained = none → exec .epochDrained s = .next s.start.finish))
  ∧ (∀ s : State,
     (s.sys.mode = .provision → s.tab.epoch = 0 → s.imageReadable = true → s.sys.warmPending = true → s.bolrothRuns = true →
       let p := s.start.curPlan
       let u := (s.start.restoreImage p).restoreLive p
       exec .warmRestore s = .next (State.finish (if u.mgmt.cfg.confirmLost = true then
         State.log { u with mgmt.cfg.confirmLost := false } 0x0507 1 [(4, p.head.epoch), (1, 0)] else u)))
     ∧ (s.sys.warmPending = false ∨ s.tab.epoch ≠ 0 ∨ s.sys.mode ≠ .provision ∨ s.imageReadable = false ∨ s.bolrothRuns = false → exec .warmRestore s = .next s.start.finish))

/-- DIGEST flits carry this switch's entry and up to four others; received entries go into the table; an evaluation ages them. DIGEST_SEND sends on each ACTIVE trunk one DIGEST flit whose first entry is this switch. DIGEST goes through the checks of a received flit, and once accepted its first five entries go into the gossip table in turn, the sender's own with AGE 0 and the others one older. GOSSIP_EVALUATE outside RESET and PREPARE makes every valid entry one older, saturating at 1,023, and an alarm flag stands exactly when some entry meets its condition; in RESET and PREPARE it changes nothing. Where the spec leaves a point open the statement follows the model's choice (log entries 5 and 49). Rests on 13_trunk_link_layer.md: R305; 15_management_plane.md: R354; 17_configuration_epochs.md: R390, R391. -/
def Obligations.GossipSendsHearsAndAges : Prop :=
  ∀ s : State,
    exec .digestSend s = .next (State.finish (((List.range 8).filter fun t => (s.trunk t).phase == .active).foldl
      (fun (u : State) (t : Nat) =>
        let p := nextEntries u.mgmt.gossip.entries (u.trunk t).gossipNext
        State.sendFlit (u.updTrunk t fun r => { r with gossipNext := p.2 }) t 6 0 false
          (digestWord u.ownEntry :: p.1.map digestWord ++ List.replicate (4 - p.1.length) 0)) s.start))
    ∧ (∀ (t : TrunkId) (hd : FlitHdr) (l : List DigestEntry),
        exec (.digest t hd l) s = .next (State.finish (s.start.flitIn t.val hd true false fun u => u.digestBody l)))
    ∧ (∀ l : List DigestEntry, (s.digestBody l).mgmt.gossip.entries = (l.take 5).zipIdx.foldl (fun t e =>
        applyEntry t e.1 (if e.2 = 0 then 0 else Nat.min 1023 (e.1.age.toNat + 1))) s.mgmt.gossip.entries)
    ∧ (s.sys.mode = .reset ∨ s.sys.mode = .prepare → exec .gossipEvaluate s = .next s.start.finish)
    ∧ (s.sys.mode ≠ .reset → s.sys.mode ≠ .prepare →
        let u := s.start.evaluateGossip
        exec .gossipEvaluate s = .next u.finish
        ∧ u.mgmt.gossip.entries = s.mgmt.gossip.entries.map (fun e =>
            if e.valid = true then { e with age := BitVec.ofNat 10 (Nat.min 1023 (e.age.toNat + 1)) } else e)
        ∧ u.mgmt.gossip.flags = BitVec.ofNat 3 (bitsOf ((List.range 3).map fun k =>
            (u.mgmt.gossip.entries.find? fun e => s.alarms k e).isSome)))

/-- SERVICE_START enters SERVICE or DEGRADED from PROVISION; DRAIN and DRAIN_CANCEL enter and leave DRAIN. Taken at once: SERVICE_START in PROVISION with an epoch in force enters service: afterwards the data plane serves, the mode is DEGRADED if any unit counts as retired and SERVICE if none, and the HOST ports' start is due 10 s on; with EPOCH 0 it names the configuration, in another mode the mode. DRAIN in SERVICE or DEGRADED makes the plan and enters DRAIN; in another mode it refuses. DRAIN_CANCEL in DRAIN aborts the drain's jobs, empties its plan, marks it cancelled and returns to SERVICE or DEGRADED; in another mode it refuses. Where the spec leaves a point open the statement follows the model's choice (log entry 17). Rests on 01_device_overview.md: R13, R16; 16_mailbox_commands.md: R370; 18_modes_and_startup.md: R400, R407, R409. -/
def Obligations.ServiceDrainAndCancelChangeTheMode : Prop :=
  ∀ (s : State) (h : CmdHdr),
    let spec (op : Nat) : CmdSpec := { opcode := op, changes := true }
    (s.sys.mode = .provision →
      (s.tab.epoch ≠ 0 → s.changeSettles (.serviceStart h) h (spec 0xC902) State.enterService []
        ∧ (s.intended h).enterService.sys.mode = s.serviceMode
        ∧ (s.intended h).enterService.sys.served = true
        ∧ (s.intended h).enterService.sys.hostStartDue = some (s.sys.ft + 10000000000))
      ∧ (s.tab.epoch = 0 → s.turnsAway (.serviceStart h) h (spec 0xC902) rcConflict (s.conflictBytes 7 0 0 0)))
    ∧ (s.sys.mode ≠ .provision → s.turnsAway (.serviceStart h) h (spec 0xC902) rcConflict (s.conflictBytes 0 0 0 0))
    ∧ (s.sys.mode = .service ∨ s.sys.mode = .degraded → s.changeSettles (.drain h) h (spec 0xC905)
        (fun t => t.planDrain.setMode .drain) [])
    ∧ (s.sys.mode ≠ .service → s.sys.mode ≠ .degraded →
        s.turnsAway (.drain h) h (spec 0xC905) rcConflict (s.conflictBytes 0 0 0 0))
    ∧ (s.sys.mode = .drain → s.changeSettles (.drainCancel h) h (spec 0xC906)
        (fun t =>
          let u := t.abortJobs drainQp
          let v : State := { u with sys.drain := { u.sys.drain with cancelled := true, plan := [], running := [] } }
          v.setMode v.serviceMode) [])
    ∧ (s.sys.mode ≠ .drain → s.turnsAway (.drainCancel h) h (spec 0xC906) rcConflict (s.conflictBytes 0 0 0 0))

/-- PAIR_RESET boots a standby pair again; HANDOVER starts a handover to a STANDBY_READY pair. Taken at once: PAIR_RESET of a pair that is not ACTIVE, OFF or FENCED makes it BOOTING with the image slot named, and of another answers STATE_CONFLICT naming the pair; HANDOVER with the other pair STANDBY_READY writes its journal record and starts a handover with cause 4, and otherwise names the other pair. While no pair is ACTIVE, the gateway itself serves a PAIR_RESET that nothing refuses, without journal records. Where the spec leaves a point open the statement follows the model's choice (log entries 32 and 38). Rests on 15_management_plane.md: R337, R343, R345; 16_mailbox_commands.md: R370. -/
def Obligations.PairCommandsActOnTheirPair : Prop :=
  ∀ (s : State) (h : CmdHdr) (p : Pair) (slot : Bool),
    let boots (t : State) : State := (t.setPair p .booting).updPair p fun r =>
      { r with imageSlot := slot, imageVersion := 0, applied := 0, since := t.sys.ft }
    let spec (op len : Nat) : CmdSpec := { opcode := op, len := len, changes := true }
    (s.pairState p ≠ .active → s.pairState p ≠ .off → s.pairState p ≠ .fenced →
      s.changeSettles (.pairReset h p slot) h (spec 0xC904 2) boots []
      ∧ (s.hasActive = false → s.sys.mode ≠ .reset → s.sys.mode ≠ .prepare → s.mgmt.resuming = none →
        (∀ r ∈ s.mgmt.running, r.src ≠ h.src) → s.mgmt.stored = [] → s.refusal h (spec 0xC904 2) = none →
        exec (.pairReset h p slot) s = .next (State.finish
          ((boots (s.ticketed h)).respond (.pairReset h p slot) h.src h.tag (s.ticketOf h.src) rcSuccess []))))
    ∧ (s.pairState p = .active ∨ s.pairState p = .off ∨ s.pairState p = .fenced →
        s.turnsAway (.pairReset h p slot) h (spec 0xC904 2) rcConflict
          (s.conflictBytes 6 (pairNo p) (pairStateNo (s.pairState p)) 0))
    ∧ (s.active = some p →
        (s.pairState (otherPair p) = .standbyReady → s.changeSettles (.handover h) h (spec 0xC903 0)
          (fun t => (t.journal 5 0).startHandover 4) [])
        ∧ (s.pairState (otherPair p) ≠ .standbyReady → s.turnsAway (.handover h) h (spec 0xC903 0) rcConflict
          (s.conflictBytes 6 (pairNo (otherPair p)) (pairStateNo (s.pairState (otherPair p))) 0)))

/-- PORT_RETRAIN, UNRESPONSIVE_CLEAR, SCRUB_DIR, CHANNEL_RETIRE and LOG_FREEZE act and answer. Taken at once: PORT_RETRAIN of a port with its link up takes the link down with cause 6, ends containment, trains again and answers PORT_STATUS, and otherwise answers STATE_CONFLICT; UNRESPONSIVE_CLEAR clears the named slot and port flags and frees the named ports' quarantined BITag slots; SCRUB_DIR passes over the named entries and answers the 24-byte summary; CHANNEL_RETIRE of a channel whose pair has both channels retires it with cause 3, and otherwise answers STATE_CONFLICT; LOG_FREEZE freezes the log with cause 1 and stays in execution until the archive copy ends, or answers the last archive slot at once if the log is frozen and archived. Where the spec leaves a point open the statement follows the model's choice (log entries 36, 41 and 65). Rests on 04_switch_core.md: R79; 05_coherence.md: R113; 06_directory_store.md: R131, R132; 16_mailbox_commands.md: R370; 19_observability.md: R427, R472. -/
def Obligations.DiagnosticCommandsAct : Prop :=
  ∀ (s : State) (h : CmdHdr),
    (∀ (p : PortId) (l : LinkTrained),
      let spec : CmdSpec := { opcode := 0xC604, len := 1, changes := true, object := some (8, p.val) }
      let i : Instr := .portRetrain h p l
      ((s.port p.val).dlUp = true → (s.port p.val).role ≠ .disabled → s.takes i h spec →
        let t := ((s.intended h).linkLost p.val 6 false).dpcClear p.val
        let u := if l.width.toNat = 0 then t else t.linkUpEvent p.val l
        exec i s = .next (s.ended u i h rcSuccess (leBytes (u.portStatus p.val) 4)).finish)
      ∧ ((s.port p.val).dlUp = false ∨ (s.port p.val).role = .disabled →
        s.turnsAway i h spec rcConflict (s.conflictBytes 8 p.val (roleNo (s.port p.val).role) 0)))
    ∧ (∀ slots ports : U64, s.changeSettles (.unresponsiveClear h slots ports) h { opcode := 0xC607, len := 16, changes := true }
        (fun t => (bitList ports.toNat 64).foldl (fun u p => u.freeQuarantine p)
          { t with dp.unrespSlots := s.dp.unrespSlots &&& ~~~ slots, dp.unrespPorts := s.dp.unrespPorts &&& ~~~ ports }) [])
    ∧ (∀ first count : U32, s.changeSettles (.scrubDir h first count) h
        { opcode := 0xC602, len := 8, bad := count == 0 || decide (939524096 < first.toNat + count.toNat), changes := true }
        (fun t => (t.scrubPass first.toNat count.toNat).2)
        (leBytes ((s.intended h).scrubPass first.toNat count.toNat).1.word.toNat 24))
    ∧ (∀ c : ChannelId,
      let mate := if c.val < 16 then c.val + 16 else c.val - 16
      let spec : CmdSpec := { opcode := 0xC603, len := 1, changes := true }
      (s.chanOk c.val = true → s.chanOk mate = true →
        s.changeSettles (.channelRetire h c) h spec (fun t => t.retireChannel c.val 3) [])
      ∧ (s.chanOk c.val = false ∨ s.chanOk mate = false →
        s.turnsAway (.channelRetire h c) h spec rcConflict (s.conflictBytes 0xA c.val (if s.chanOk c.val then 0 else 1) 0)))
    ∧ (s.obs.status.frozen = false ∨ s.obs.status.archiving = true →
        s.changeWaits (.logFreeze h) h { opcode := 0xC702, changes := true } (fun t => t.freezeAlways 1))
    ∧ (s.obs.status.frozen = true → s.obs.status.archiving = false →
        s.changeSettles (.logFreeze h) h { opcode := 0xC702, changes := true } (fun t => t)
          [BitVec.ofNat 8 (s.obs.status.archiveNext - 1).toNat])

/-- QUEUE_ENABLE, QUEUE_RESET, QUEUE_SHUTDOWN and TENANT_QUIESCE enable and stop queue pairs; TILE_MOVED_RELEASE frees an unused place. Taken at once on a DISABLED queue pair, not being enabled, of a bound tenant that no command is removing, with a well-formed setup whose jobs the tenant may run, QUEUE_ENABLE enables it and answers the new QP_GEN, or, while a transaction of an older generation lives and a GEN change waits for it, stays in execution; of a pair not DISABLED, already being enabled or of an unbound tenant it answers STATE_CONFLICT. QUEUE_RESET and QUEUE_SHUTDOWN of a queue pair that is ENABLED or halted start its stop and stay in execution; QUEUE_SHUTDOWN of a DISABLED one answers QP_GEN at once, QUEUE_RESET of one neither ENABLED nor halted answers STATE_CONFLICT. TENANT_QUIESCE stops every queue pair of the tenant that is not DISABLED when none of them is STOPPING, held by a command or followed by an older generation, and succeeds at once if there is none. TILE_MOVED_RELEASE on a MOVED entry that forwards to another rank through which no outstanding transaction was forwarded and for which no zeroing is ordered yet orders its zeroing, or writes it as LOST, without forwarding target, with its member's link down; in every other case the answer is STATE_CONFLICT naming the tile and its state. Where the spec leaves a point open the statement follows the model's choice (log entries 61, 62 and 85). Rests on 09_work_queues.md: R180, R183, R184, R196, R199; 10_migration_and_mirroring.md: R217; 16_mailbox_commands.md: R370. -/
def Obligations.QueueAndTileCommandsAct : Prop :=
  (∀ (s : State) (h : CmdHdr),
     (∀ u : QueueSetup,
       let q := u.qp.toNat
       let k := s.qp q
       let t := s.bank.tenants.get k.tenant
       let spec : CmdSpec := { opcode := 0xC201, len := 41, scope := s.qpScope q, bad := !setupOk u, changes := true, object := some (2, q) }
       (k.state = .disabled → k.enabling = none → t.valid = true → s.leavingBy k.tenant = none →
         u.jobMask.toNat &&& jobMaskOf t.privileged = u.jobMask.toNat →
         (s.oldGenLive q = false → s.changeSettles (.queueEnable h u) h spec
           (fun v => v.enableNow q u) [(((s.intended h).enableNow q u).qp q).qpGen])
         ∧ (s.oldGenLive q = true → k.genDeferred = true → s.changeWaits (.queueEnable h u) h spec
           (fun v => v.updQp q fun k => { k with enabling := some (u, s.ticketOf h.src) })))
       ∧ (k.state ≠ .disabled ∨ k.enabling ≠ none ∨ t.valid = false →
         s.turnsAway (.queueEnable h u) h spec rcConflict (s.conflictBytes 2 q (qpNo k.state) 0)))
     ∧ (∀ (qp : U16) (tail : HostRead U32),
       let q := qp.toNat
       let k := s.qp q
       let spec (op : Nat) : CmdSpec := { opcode := op, len := 2, scope := s.qpScope q, bad := decide (4095 < q), changes := true, object := some (2, q) }
       ((k.state = .enabled ∨ k.state = .haltedMalformed ∨ k.state = .haltedError) → s.oldGenLive q = false →
         s.changeWaits (.queueReset h qp tail) h (spec 0xC202) (fun t => t.stopQp q .reset tail (s.ticketOf h.src))
         ∧ s.changeWaits (.queueShutdown h qp tail) h (spec 0xC203) (fun t => t.stopQp q .shutdown tail (s.ticketOf h.src)))
       ∧ (k.state = .disabled → s.changeSettles (.queueShutdown h qp tail) h (spec 0xC203) (fun t => t) [k.qpGen])
       ∧ (k.state ≠ .enabled → k.state ≠ .haltedMalformed → k.state ≠ .haltedError →
         s.turnsAway (.queueReset h qp tail) h (spec 0xC202) rcConflict (s.conflictBytes 2 q (qpNo k.state) 0)))
     ∧ (∀ (tenant : U16) (tails : List (U16 × U32)),
       let n := tenant.toNat
       let live := (s.qpsOf n).filter fun q => (s.qp q).state != .disabled
       let spec : CmdSpec := { opcode := 0xC205, len := 2, scope := .tenant n, bad := decide (4095 < n), changes := true, object := some (1, n) }
       (live = [] → s.changeSettles (.tenantQuiesce h tenant tails) h spec (fun t => t) [])
       ∧ (live ≠ [] → (∀ q ∈ live, (s.qp q).state ≠ .stopping ∧ s.oldGenLive q = false ∧ s.holder (some (2, q)) = none) →
         s.changeWaits (.tenantQuiesce h tenant tails) h spec (fun t => live.foldl (fun t q =>
           t.stopQp q .quiesce (match tails.find? fun e => e.1.toNat == q with
             | some e => .ok e.2
             | none => .failed) (s.ticketOf h.src)) t))))
  ∧ (∀ (s : State) (h : CmdHdr) (tile : U32),
     let n := tile.toNat
     let e := s.tile n
     let i : Instr := .tileMovedRelease h tile
     let spec : CmdSpec := { opcode := 0xC303, len := 4, bad := decide (2 ^ 19 ≤ n), changes := true, object := some (3, n) }
     (e.state = .moved → e.fwdRank ≠ s.rank → s.forwardedThrough n = false → s.wq.zeros.any (·.tile == n) = false →
       (s.linkUp e.pPort = true → s.changeSettles i h spec (fun t => t.orderZero n) [])
       ∧ (s.linkUp e.pPort = false → s.changeSettles i h spec (fun t =>
         t.writeTile n { e with state := .lost, fwdRank := 0, fwdTile := 0 }) []))
     ∧ (e.state ≠ .moved ∨ e.fwdRank = s.rank ∨ s.forwardedThrough n = true ∨ s.wq.zeros.any (·.tile == n) = true →
         s.turnsAway i h spec rcConflict (s.conflictBytes 3 n (htNo e.state) 0)))

/-- SLOT_POWER_ON, SLOT_POWER_OFF and SLOT_CLEAR_FAULT set FM_ON and leave LATCHED. Taken at once: SLOT_POWER_ON sets the channel's FM_ON unless the channel is IDLE or LATCHED, or already on for a BOUND port, where it answers STATE_CONFLICT; SLOT_POWER_OFF, forced or of a port neither BOUND nor a member in use, clears FM_ON and lets the channel follow, and otherwise answers STATE_CONFLICT; SLOT_CLEAR_FAULT takes a LATCHED channel to SEATED with a retry count of 0, and of another answers STATE_CONFLICT. Where the spec leaves a point open the statement follows the model's choice (log entry 35). Rests on 14_slot_power.md: R317, R329, R332; 16_mailbox_commands.md: R370. -/
def Obligations.SlotPowerCommandsActOnTheirChannel : Prop :=
  ∀ (s : State) (h : CmdHdr) (n : PortId),
    let c := s.chan n.val
    let spec (op len : Nat) : CmdSpec := { opcode := op, len := len, changes := true, object := some (4, n.val) }
    let conflicts := s.conflictBytes 4 n.val (slotNo c.state) 0
    let off := (s.port n.val).role = .bound ∧ c.fmOn = true ∨ c.state = .idle ∨ c.state = .latched
    (¬ off → s.changeSettles (.slotPowerOn h n) h (spec 0xC401 1)
        (fun t => t.updChan n.val fun c => { c with fmOn := true }) [])
    ∧ (off → s.turnsAway (.slotPowerOn h n) h (spec 0xC401 1) rcConflict conflicts)
    ∧ (∀ force : Bool,
      let held := (s.port n.val).role = .bound ∨ (s.port n.val).role = .poolMember ∧ s.memberInUse n.val = true
      (force = true ∨ ¬ held → s.changeSettles (.slotPowerOff h n force) h (spec 0xC402 2)
        (fun t => (t.updChan n.val fun c => { c with fmOn := false }).settleSlot n.val) [])
      ∧ (force = false → held → s.turnsAway (.slotPowerOff h n force) h (spec 0xC402 2) rcConflict conflicts))
    ∧ (c.state = .latched → s.changeSettles (.slotClearFault h n) h (spec 0xC403 1)
        (fun t => t.updChan n.val fun c => { c with state := .seated, retry := 0 }) [])
    ∧ (c.state ≠ .latched → s.turnsAway (.slotClearFault h n) h (spec 0xC403 1) rcConflict conflicts)

/-- A good token enables debug until its expiry and replaces the challenge; disabling, expiry and DEBUG_DISABLE_N end it. Taken at once with debug disabled, DEBUG_ENABLE with a token that passes every check enables debug for the token's key until DURATION_S seconds on, enables checker 75 and replaces the challenge, and with any other token answers LOCKED and changes nothing; with debug enabled it answers STATE_CONFLICT. DEBUG_DISABLE that nothing refuses, DEBUG_EXPIRY with debug enabled (after fabric time has reached the expiry) and DEBUG_DISABLE_N end debug: afterwards it is neither enabled nor held. DBG_ACCESS with debug disabled selects its instruction and shifts out status bit 3 with the data of the last access, and starts nothing; with debug enabled and space 1 to 3 it does the same and makes its access as master 2 of the crossbar. In RESET it selects nothing, in PREPARE BYPASS. Where the spec leaves a point open the statement follows the model's choice (log entries 5, 25, 27 and 56). Rests on 15_management_plane.md: R352; 16_mailbox_commands.md: R371; 20_security_and_debug.md: R445, R446, R447, R448. -/
def Obligations.DebugStartsAndEnds : Prop :=
  ∀ s : State,
    (∀ (h : CmdHdr) (secured : Bool) (t : Token),
      let spec : CmdSpec := { opcode := 0xC801, len := 256, changes := true }
      (s.mgmt.dbg.enabled = false →
        (s.tokenOk h.src secured t = true → s.changeSettles (.debugEnable h secured t) h spec (fun v => v.startDebug t) [])
        ∧ (s.tokenOk h.src secured t = false → s.turnsAway (.debugEnable h secured t) h spec rcLocked []))
      ∧ (s.mgmt.dbg.enabled = true → s.turnsAway (.debugEnable h secured t) h spec rcConflict (s.conflictBytes 0 0 0 0))
      ∧ (s.startDebug t).mgmt.dbg.enabled = true
      ∧ (s.startDebug t).mgmt.dbg.key = (t.keyIndex == 1)
      ∧ (s.tab.checkers.wf = true → ((s.startDebug t).tab.checkers.get 75).enabled = true)
      ∧ (s.startDebug t).mgmt.dbg.expiry = s.sys.ft + t.durationS.toNat * 1000000000
      ∧ (s.startDebug t).mgmt.challenge = Config.randomChallenge s.mgmt.challengeNo
      ∧ (s.startDebug t).mgmt.challengeNo = s.mgmt.challengeNo + 1)
    ∧ (∀ h : CmdHdr, s.sys.mode ≠ .reset → s.sys.mode ≠ .prepare → s.mgmt.resuming = none →
        (∀ r ∈ s.mgmt.running, r.src ≠ h.src) → s.mgmt.stored = [] → s.refusal h { opcode := 0xC802 } = none →
        exec (.debugDisable h) s = .next (State.finish
          ((s.ticketed h).endDebug.respond (.debugDisable h) h.src h.tag (s.ticketOf h.src) rcSuccess [])))
    ∧ (s.mgmt.dbg.enabled = true →
        exec .debugExpiry s = .next (State.finish (s.start.advanceTo s.mgmt.dbg.expiry).endDebug)
        ∧ (s.sys.ft < s.mgmt.dbg.expiry → s.mgmt.dbg.expiry < 2 ^ 64 →
            (s.start.advanceTo s.mgmt.dbg.expiry).sys.ft = s.mgmt.dbg.expiry))
    ∧ (s.mgmt.dbg.enabled = false → exec .debugExpiry s = .next s.start.finish)
    ∧ exec .debugDisableN s = .next s.start.endDebug.telemLogs.refresh
    ∧ (s.mgmt.dbg.enabled = true → s.endDebug.mgmt.dbg.enabled = false ∧ s.endDebug.mgmt.dbg.hold = false)
    ∧ (∀ (w : Bool) (sp : BitVec 3) (hold : Bool) (a : BitVec 51) (d : U64),
        (s.sys.mode = .reset → exec (.dbgAccess w sp hold a d) s = .next s.start.finish)
        ∧ (s.sys.mode = .prepare → exec (.dbgAccess w sp hold a d) s = .next (State.finish { s.start with mgmt.tap := .bypass }))
        ∧ (s.sys.mode ≠ .reset → s.sys.mode ≠ .prepare → s.mgmt.dbg.enabled = false →
          exec (.dbgAccess w sp hold a d) s = .next s.start.bridgeShift.finish)
        ∧ (s.sys.mode ≠ .reset → s.sys.mode ≠ .prepare → s.mgmt.dbg.enabled = true → 0 < sp.toNat → sp.toNat ≤ 3 →
          exec (.dbgAccess w sp hold a d) s = .next (State.finish (State.bridgeAnswer
            ((s.start.bridgeShift.bridgeBegin w (a.toNat / 8 * 8)).crossbarAccess 2 sp.toNat (a.toNat / 8 * 8) w 8 d.toNat hold)))))
    ∧ s.start.bridgeShift.obs.out = [.tap (s.mgmt.dbg.status.toNat % 8 + (if s.mgmt.dbg.enabled then 0 else 8)
        + 2 ^ 64 * s.mgmt.dbg.data.toNat)]

/-- IDE_KEY_REFRESH and IDE_REFRESH renew the keys of ports that Bolroth has a session with; IDE_KM programs a host port's own. Taken at once: IDE_KEY_REFRESH of a port that is not HOST and whose device Bolroth has a session with refreshes its keys, and of another answers STATE_CONFLICT. IDE_REFRESH with a refresh period set and Bolroth running lets fabric time reach the end of the period, notes it and refreshes every such port that runs IDE; with the period 0 it changes nothing. In an established session of its own DOE mailbox, a HOST port with its link up takes a key into the set named, and the switch to a set that holds no key is answered with failure; a request over MCTP, or for another port, is answered with a status and changes no key. Where the spec leaves a point open the statement follows the model's choice (log entries 5, 26 and 50). Rests on 11_edge_ports.md: R244; 16_mailbox_commands.md: R370; 20_security_and_debug.md: R443. -/
def Obligations.IdeKeysAreRefreshed : Prop :=
  ∀ s : State,
    (∀ (h : CmdHdr) (p : PortId),
      let spec : CmdSpec := { opcode := 0xC803, len := 1, changes := true, object := some (8, p.val) }
      ((s.port p.val).role ≠ .host → s.deviceSession p.val = true →
        s.changeSettles (.ideKeyRefresh h p) h spec (fun t => t.refreshKeys p.val) [])
      ∧ ((s.port p.val).role = .host ∨ s.deviceSession p.val = false →
        s.turnsAway (.ideKeyRefresh h p) h spec rcConflict (s.conflictBytes 8 p.val (roleNo (s.port p.val).role) 0)))
    ∧ (s.tab.policy.ideRefreshS = 0 → exec .ideRefresh s = .next s.start.finish)
    ∧ (s.tab.policy.ideRefreshS ≠ 0 → s.bolrothRuns = true →
        exec .ideRefresh s = .next (State.finish
          (s.start.advanceTo (s.mgmt.ideRefreshed + s.tab.policy.ideRefreshS * 1000000000)).refreshAll))
    ∧ (∀ (q : SpdmSrc) (k : Fin 16), s.bolrothRuns = true → s.sys.mode ≠ .reset → s.sys.mode ≠ .prepare →
        (s.mgmt.spdm.get (spdmNo q)).version = true → (s.mgmt.spdm.get (spdmNo q)).caps = true →
        (s.mgmt.spdm.get (spdmNo q)).algs = true →
        (s.mgmt.sessions.get k.val).src = some q → (s.mgmt.sessions.get k.val).finished = true →
        (∀ p : PortId, exec (.vendorDefinedRequest q k (.query p)) s = .next (State.finish (s.start.emit
          (.spdm q 0x7E (leBytes 1 1 ++ leBytes p.val 2 ++ leBytes (s.port p.val).ide 1)))))
        ∧ (∀ key : IdeSlot, s.ideKmStatus q key.port.val = 0 →
          exec (.vendorDefinedRequest q k (.program key)) s = .next (State.finish (State.emit
            { s.start with mgmt.keys := s.mgmt.keys.set (ideKey key) { filled := true } }
            (.spdm q 0x7E (leBytes 3 1 ++ leBytes (ideKey key) 2 ++ leBytes 0 1)))))
        ∧ (∀ key : IdeSlot, (s.mgmt.keys.get (ideKey key)).filled = false →
          exec (.vendorDefinedRequest q k (.go key)) s = .next (State.finish (s.start.emit
            (.spdm q 0x7E (leBytes 5 1 ++ leBytes (ideKey key) 2 ++ leBytes 4 1))))))
    ∧ (∀ (c : CmdSrc) (p : Nat), s.ideKmStatus (.mctp c) p = 2)

/-- TAP instructions: BYPASS, IDCODE and SAMPLE_PRELOAD outside RESET; the scan instructions and FUSE_PROG only early in PREPARE. Outside RESET, BYPASS, IDCODE and SAMPLE_PRELOAD select themselves, IDCODE shifting out its value; in RESET each of these instructions, the scan instructions and FUSE_PROG leave everything as it was. In PREPARE after a cold reset and before step 8, EXTEST, CLAMP, HIGHZ, EXTEST_PULSE and EXTEST_TRAIN select themselves, set BSCAN_USED, clear the key store with its challenge, sessions and keys, and stop PREPARE; FUSE_PROG burns DEBUG_KEY_HASH[1] while it is blank and otherwise acts as BYPASS. Elsewhere outside RESET they act as BYPASS. Where the spec leaves a point open the statement follows the model's choice (log entry 25). Rests on 20_security_and_debug.md: R434, R449. -/
def Obligations.TapInstructionsActByMode : Prop :=
  ∀ s : State,
    let sel (t : TapInstr) : State := { s.start with mgmt.tap := t }
    let scan (t : TapInstr) : State := { s.start with
      mgmt.tap := t, mgmt.bscanUsed := true, mgmt.keystoreReady := false, mgmt.challenge := 0, mgmt.sessions := .empty
      mgmt.keys := .empty, sys.stopped := true }
    (s.sys.mode ≠ .reset →
      exec .bypass s = .next (sel .bypass) ∧ exec .samplePreload s = .next (sel .samplePreload)
      ∧ exec .idcode s = .next (State.emit (sel .idcode) (.tap 0xB0640A6B))
      ∧ (s.scanPhase = false → exec .extest s = .next (sel .bypass) ∧ exec .clamp s = .next (sel .bypass)
        ∧ exec .highz s = .next (sel .bypass) ∧ exec .extestPulse s = .next (sel .bypass)
        ∧ exec .extestTrain s = .next (sel .bypass) ∧ ∀ hash, exec (.fuseProg hash) s = .next (sel .bypass))
      ∧ (s.scanPhase = true → exec .extest s = .next (scan .extest) ∧ exec .clamp s = .next (scan .clamp)
        ∧ exec .highz s = .next (scan .highz) ∧ exec .extestPulse s = .next (scan .extestPulse)
        ∧ exec .extestTrain s = .next (scan .extestTrain)
        ∧ ∀ hash, (s.mgmt.fuses.debugKey1 = none → exec (.fuseProg hash) s = .next
              { s.start with mgmt.tap := .fuseProg, mgmt.fuses := { s.mgmt.fuses with debugKey1 := some hash } })
          ∧ (s.mgmt.fuses.debugKey1 ≠ none → exec (.fuseProg hash) s = .next (sel .bypass))))
    ∧ (s.sys.mode = .reset → ∀ hash, ∀ i ∈ [Instr.bypass, .idcode, .samplePreload, .extest, .clamp, .highz, .extestPulse,
        .extestTrain, .fuseProg hash], exec i s = .next s.start)

/-- SPDM: version, capabilities and algorithms are negotiated in order; certificates, digests and measurements are answered. While Bolroth runs: GET_VERSION answers version 1.2 and restarts the negotiation; GET_CAPABILITIES after it and NEGOTIATE_ALGORITHMS after both answer the responder's flags and its one suite and are remembered; out of order each is answered with UnexpectedRequest. Once negotiated, GET_DIGESTS and GET_CERTIFICATE answer from the chains of slots 0 and 1, CHALLENGE of slot 0 signs the chain's digest with a fresh nonce, GET_MEASUREMENTS answers the count, one or all of the nine measurements, and SET_CERTIFICATE stores the owner chain of slot 1 in PROVISION over I3C only. Nothing else of the machine changes. (The message codes are the model's reading of SPDM 1.2, log entry 24.) Where the spec leaves a point open the statement follows the model's choice (log entries 24 and 56). Rests on 20_security_and_debug.md: R440, R441, R442. -/
def Obligations.SpdmNegotiatesAndAnswers : Prop :=
  ∀ (s : State) (q : SpdmSrc), s.bolrothRuns = true → s.sys.mode ≠ .reset → s.sys.mode ≠ .prepare →
    let c := s.mgmt.spdm.get (spdmNo q)
    let refused (code : Nat) : Host.Outcome State Fault Refusal := .next (s.start.emit (.spdm q 0x7F [BitVec.ofNat 8 code]))
    let noted (v : Spdm) : State := { s.start with mgmt.spdm := s.mgmt.spdm.set (spdmNo q) v }
    exec (.getVersion q) s = .next (State.emit (noted { version := true }) (.spdm q 0x04 (leBytes 0x1200 2)))
    ∧ (c.version = true → exec (.getCapabilities q) s =
        .next (State.emit (noted { c with caps := true }) (.spdm q 0x61 (leBytes spdmFlags 4))))
    ∧ (c.version = false → exec (.getCapabilities q) s = refused 4)
    ∧ (c.version = true → c.caps = true → exec (.negotiateAlgorithms q) s = .next (State.emit (noted { c with algs := true })
        (.spdm q 0x63 (leBytes 0x80 4 ++ leBytes 2 4 ++ leBytes 0x10 2 ++ leBytes 2 2))))
    ∧ (c.caps = false → exec (.negotiateAlgorithms q) s = refused 4)
    ∧ (c.version = true → c.caps = true → c.algs = true →
      exec (.getDigests q) s = .next (s.start.emit (.spdm q 0x01
          (let slots := (List.range 2).filter fun k => k == 0 || !(s.chain k).isEmpty
           leBytes (slots.foldl (fun n k => n + 2 ^ k) 0) 1 ++ slots.flatMap fun k => hash384 (s.chain k))))
      ∧ (∀ (slot : Fin 8) (off len : Nat), (slot.val = 0 ∨ s.chain slot.val ≠ []) → off ≤ (s.chain slot.val).length →
          let part := ((s.chain slot.val).drop off).take len
          exec (.getCertificate q slot off len) s = .next (s.start.emit (.spdm q 0x02 (leBytes slot.val 1 ++ leBytes part.length 2
            ++ leBytes ((s.chain slot.val).length - off - part.length) 2 ++ part))))
      ∧ (∀ nonce : BitVec 256, exec (.challenge q 0 nonce) s =
          let body := hash384 Config.deviceChain ++ leBytes (Config.free s.freeCtr) 32
          .next (State.emit { s.start with freeCtr := s.freeCtr + 1 }
            (.spdm q 0x03 (body ++ deviceSignature (leBytes nonce.toNat 32 ++ body)))))
      ∧ (∀ signed : Bool,
          let sign (l : List Byte) : Out := .spdm q 0x60 (l ++ if signed then deviceSignature l else [])
          exec (.getMeasurements q 0 signed) s = .next (s.start.emit (sign (leBytes 9 1)))
          ∧ exec (.getMeasurements q 0xFF signed) s =
              .next (s.start.emit (sign (measurementIndexes.flatMap s.measurementBlock)))
          ∧ exec (.getMeasurements q 7 signed) s = .next (s.start.emit (sign (s.measurementBlock 7)))
          ∧ exec (.getMeasurements q 9 signed) s = refused 1)
      ∧ (∀ (k : Fin 2) (l : List Byte), q = .mctp (.i3c k) → s.sys.mode = .provision →
          exec (.setCertificate q 1 l) s = .next (State.emit { s.start with mgmt.ownerChain := l } (.spdm q 0x6E (leBytes 1 1))))
      ∧ (∀ (p : PortId) (l : List Byte), q = .doe p → exec (.setCertificate q 1 l) s = refused 1))

/-- SPDM sessions: KEY_EXCHANGE takes the lowest free of 16, FINISH establishes, END_SESSION clears; another's session is refused. While Bolroth runs and the connection is negotiated: KEY_EXCHANGE opens the lowest free session slot for its transport, or answers Busy if all 16 are taken; FINISH of a session of the same transport that is not established establishes it; HEARTBEAT and KEY_UPDATE of an established one are answered, and END_SESSION clears its slot. A request for a session that is not its transport's is answered with InvalidSession and changes nothing. Where the spec leaves a point open the statement follows the model's choice (log entry 24). Rests on 20_security_and_debug.md: R435, R440. -/
def Obligations.SpdmSessionsOpenAndClose : Prop :=
  ∀ (s : State) (q : SpdmSrc), s.bolrothRuns = true → s.sys.mode ≠ .reset → s.sys.mode ≠ .prepare →
    (s.mgmt.spdm.get (spdmNo q)).version = true → (s.mgmt.spdm.get (spdmNo q)).caps = true →
        (s.mgmt.spdm.get (spdmNo q)).algs = true →
    (∀ k : Nat, s.freeSession = some k → exec (.keyExchange q) s = .next (State.emit
        { s.start with mgmt.sessions := s.mgmt.sessions.set k { src := some q } } (.spdm q 0x64 (leBytes k 2))))
    ∧ (s.freeSession = none → exec (.keyExchange q) s = .next (s.start.emit (.spdm q 0x7F [3])))
    ∧ (∀ k : Fin 16, (s.mgmt.sessions.get k.val).src = some q →
      ((s.mgmt.sessions.get k.val).finished = false → exec (.finish q k) s = .next (State.emit
          { s.start with mgmt.sessions := s.mgmt.sessions.upd k.val fun v => { v with finished := true } } (.spdm q 0x65 [])))
      ∧ ((s.mgmt.sessions.get k.val).finished = true →
        exec (.heartbeat q k) s = .next (s.start.emit (.spdm q 0x68 []))
        ∧ exec (.keyUpdate q k) s = .next (s.start.emit (.spdm q 0x69 []))
        ∧ exec (.endSession q k) s = .next (State.emit
          { s.start with mgmt.sessions := s.mgmt.sessions.set k.val {} } (.spdm q 0x6C []))))
    ∧ (∀ k : Fin 16, (s.mgmt.sessions.get k.val).src ≠ some q →
      ∀ i ∈ [Instr.finish q k, .heartbeat q k, .keyUpdate q k, .endSession q k],
        exec i s = .next (s.start.emit (.spdm q 0x7F [2])))

/-- I3C ports take and lose a dynamic address, answer the common command codes outside RESET, and keep their lengths in range. Outside RESET, ENTDAA gives a port without a dynamic address the address offered, sending the 48-bit ID, BCR 06 and DCR 00, and leaves one that has an address as it is; RSTDAA takes the address away. An addressed port answers GETPID, GETBCR, GETDCR, GETSTATUS (PREPARE_STEP and SAFE_CAUSE in the high byte), GETMWL and GETMRL; ENEC and DISEC with event bit 0 enable and disable its in-band interrupts; SETMWL and SETMRL take a length from 69 to 4,096 B and leave the length as it was for any other. Nothing else changes. Without an address these ten commands, and in RESET all twelve, change nothing. Set Endpoint ID, while Bolroth is free, keeps an assignable EID for its transport and answers Invalid Input to any other; otherwise it changes nothing. Where the spec leaves a point open the statement follows the model's choice (log entries 5 and 23). Rests on 15_management_plane.md: R353, R355; 18_modes_and_startup.md: R412; 19_observability.md: R430. -/
def Obligations.I3cPortsAnswerCommonCommands : Prop :=
  ∀ (s : State) (k : Fin 2),
    (s.sys.mode ≠ .reset →
      (∀ a : BitVec 7, ((s.i3c k).dynAddr = none → exec (.entdaa k a) s = .next (State.emit
          (s.start.updI3c k fun i => { i with dynAddr := some a })
          (.i3c k.val (leBytes Config.provisionedId.toNat 6 ++ [0x06, 0x00]))))
        ∧ ((s.i3c k).dynAddr ≠ none → exec (.entdaa k a) s = .next s.start))
      ∧ exec (.rstdaa k) s = .next (s.start.updI3c k fun i => { i with dynAddr := none })
      ∧ ((s.i3c k).dynAddr ≠ none →
        let answers (i : Instr) (l : List Byte) : Prop := exec i s = .next (s.start.emit (.i3c k.val l))
        answers (.getpid k) (leBytes Config.provisionedId.toNat 6) ∧ answers (.getbcr k) [0x06] ∧ answers (.getdcr k) [0x00]
        ∧ answers (.getstatus k) (leBytes (pack [(4, b2n (if k = 0 then s.obs.alert0 else s.obs.alert1).isSome), (4, 0),
            (4, s.sys.status.prepareStep.toNat), (4, s.sys.status.safeCause.toNat)]) 2)
        ∧ answers (.getmwl k) (leBytes (s.i3c k).mwl.toNat 2) ∧ answers (.getmrl k) (leBytes (s.i3c k).mrl.toNat 2 ++ [5])
        ∧ (∀ e : Byte, exec (.enec k e) s = .next
            (if e.toNat.testBit 0 then s.start.updI3c k fun i => { i with ibiEnabled := true } else s.start))
        ∧ (∀ e : Byte, exec (.disec k e) s = .next
            (if e.toNat.testBit 0 then s.start.updI3c k fun i => { i with ibiEnabled := false } else s.start))
        ∧ (∀ n : U16, (69 ≤ n.toNat ∧ n.toNat ≤ 4096 →
              exec (.setmwl k n) s = .next (s.start.updI3c k fun i => { i with mwl := n })
              ∧ exec (.setmrl k n) s = .next (s.start.updI3c k fun i => { i with mrl := n }))
          ∧ (n.toNat < 69 ∨ 4096 < n.toNat → exec (.setmwl k n) s = .next s.start ∧ exec (.setmrl k n) s = .next s.start))))
    ∧ (s.sys.mode = .reset ∨ (s.i3c k).dynAddr = none → ∀ n : U16, ∀ e : Byte,
        ∀ i ∈ [Instr.getpid k, .getbcr k, .getdcr k, .getstatus k, .getmwl k, .getmrl k, .enec k e, .disec k e, .setmwl k n,
          .setmrl k n], exec i s = .next s.start)
    ∧ (s.sys.mode = .reset → ∀ a : BitVec 7, exec (.entdaa k a) s = .next s.start ∧ exec (.rstdaa k) s = .next s.start)
    ∧ (∀ (src : CmdSrc) (eid : Byte), s.sys.mode ≠ .reset → s.sys.mode ≠ .prepare → s.executorFree = true →
        (8 ≤ eid.toNat → eid ≠ 0xFF → exec (.setEndpointId src eid) s = .next
          (State.emit { s.start with mgmt.eids := s.mgmt.eids.set (srcNo src) eid } (.answer src 0 0 rcSuccess [eid])))
        ∧ (eid.toNat < 8 ∨ eid = 0xFF → exec (.setEndpointId src eid) s = .next (s.start.emit (.answer src 0 0 rcInvalid [eid]))))
    ∧ (∀ (src : CmdSrc) (eid : Byte), s.sys.mode = .reset ∨ s.sys.mode = .prepare ∨ s.executorFree = false →
        exec (.setEndpointId src eid) s = .next s.start)

/-- Each trip event trips its channel in the states of its rule when its condition holds, and otherwise does nothing. SHORT_IN_RAMP and RAMP_TIMEOUT trip a channel in RAMP (the timeout once fabric time has reached its end), CURRENT_LIMIT and BREAKER one that is ON (the breaker when the sample's current has reached the point's), FAST_TRIP and CHANNEL_FAULT one in RAMP, ON or STOPPING, UNDERVOLTAGE and OVERVOLTAGE one in RAMP or ON with VIN beyond its bound; in another state or without the condition the event changes nothing. A trip is recorded: SLOT_FAULT takes the causes beside those it had, with the sampled current and voltage and the time in limitation in units of 10 µs, at most 65,535. Where the spec leaves a point open the statement follows the model's choice (log entries 5, 34 and 35). Rests on 14_slot_power.md: R321, R323, R324, R325, R326. -/
def Obligations.SlotTripsNeedTheirStateAndCondition : Prop :=
  ∀ (s : State) (n : PortId) (m : SlotSample) (pt : Fin 8),
    let c := s.chan n.val
    let p := s.slotParam n.val
    let trips (i : Instr) (cause point : Nat) (limit : Option Nat) : Prop :=
      s.settlesTo i (s.start.slotTrip n.val m cause point limit)
    (c.state = .ramp → trips (.shortInRamp n m) 0 0 (some p.rampFault)
      ∧ s.settlesTo (.rampTimeout n m) ((s.start.advanceTo c.timer).slotTrip n.val m 4 0 none))
    ∧ (c.state ≠ .ramp → s.ignores (.shortInRamp n m) ∧ s.ignores (.rampTimeout n m))
    ∧ (c.state = .on → trips (.currentLimit n m) 1 0 (some p.onFault)
      ∧ (shuntCode p (p.curve.getD pt.val (0, 0)).1 ≤ m.current.toNat → trips (.breaker n pt m) 2 pt.val none))
    ∧ (c.state ≠ .on ∨ m.current.toNat < shuntCode p (p.curve.getD pt.val (0, 0)).1 → s.ignores (.breaker n pt m))
    ∧ (c.state ≠ .on → s.ignores (.currentLimit n m))
    ∧ (c.state = .ramp ∨ c.state = .on ∨ c.state = .stopping →
        trips (.fastTrip n m) 3 0 none ∧ trips (.channelFault n m) 8 0 none)
    ∧ (c.state ≠ .ramp → c.state ≠ .on → c.state ≠ .stopping → s.ignores (.fastTrip n m) ∧ s.ignores (.channelFault n m))
    ∧ (c.state = .ramp ∨ c.state = .on →
      (m.vin.toNat < 4 * p.vinUv → trips (.undervoltage n m) 5 0 none)
      ∧ (4 * p.vinOv < m.vin.toNat → trips (.overvoltage n m) 6 0 none))
    ∧ (4 * p.vinUv ≤ m.vin.toNat ∨ (c.state ≠ .ramp ∧ c.state ≠ .on) → s.ignores (.undervoltage n m))
    ∧ (m.vin.toNat ≤ 4 * p.vinOv ∨ (c.state ≠ .ramp ∧ c.state ≠ .on) → s.ignores (.overvoltage n m))
    ∧ (s.slots.chans.wf = true → ∀ causes point onTime : Nat,
        let r := (s.recordTrip n.val causes point onTime).chan n.val
        r.fault = c.fault ||| BitVec.ofNat 9 causes ∧ r.tripI = c.current ∧ r.tripVout = c.vout
          ∧ r.onTime = BitVec.ofNat 16 (Nat.min (onTime / 10) 65535) ∧ r.state = c.state)

/-- Seating, power-good, removal, cool-down, PERST_LEAD and the retry reset move a channel as their rules say. PRSNT_N_LOW is noted. SEAT_DEBOUNCE in SEATING with the pin low lets fabric time reach the end of the debounce and makes the channel SEATED and present, its FM_ON as its role gives, and tells the hosts of a BOUND port. PG_ASSERT in RAMP, or ON without power-good, with the power-good conditions, takes the sample and makes it ON with power-good; PG_DEASSERT with power-good lost clears it. REMOVED with the gate driven is recorded, turns the gate off and takes the link down with cause 1; a channel that is SEATING, SEATED, COOLDOWN or LATCHED becomes IDLE, and the hosts of a BOUND port are told if the card was present. COOLDOWN_END lets fabric time reach the end of the cool-down and, unless VIN must return first, marks it over. PERST_LEAD in STOPPING turns the gate off. RETRY_COUNT_RESET with power-good sets the count to 0 1 s after power-good. VIN_WITHIN_WINDOW takes the sample. Without its condition each event changes nothing else. Where the spec leaves a point open the statement follows the model's choice (log entries 5, 34 and 35). Rests on 14_slot_power.md: R316, R317, R318, R326, R327, R328, R331. -/
def Obligations.SlotSeatingPowerGoodAndRemoval : Prop :=
  ∀ (s : State) (n : PortId) (m : SlotSample),
    let c := s.chan n.val
    let t := s.start.sampleSlot n.val m
    s.settlesTo (.prsntNLow n) (s.start.updChan n.val fun c => { c with prsntLow := true })
    ∧ (c.state = .seating → c.prsntLow = true →
        let v := ((s.start.advanceTo c.timer).updChan n.val fun c => { c with
          state := .seated, present := true
          fmOn := match c.role with
            | .poolMember => (s.slotParam n.val).autoOn
            | .unbound => false
            | _ => c.fmOn }).updPort n.val fun k => { k with memberFailed := false }
        s.settlesTo (.seatDebounce n) (if c.role = .bound then v.notifyVppbs n.val 0 [1] else v))
    ∧ (c.state ≠ .seating ∨ c.prsntLow = false → s.ignores (.seatDebounce n))
    ∧ (let good := 19 * m.vin.toNat ≤ 20 * m.vout.toNat ∧ m.gateOk = true ∧ m.limiting = false
       (c.state = .ramp ∨ c.state = .on ∧ c.pg = false → good → s.settlesTo (.pgAssert n m)
          (t.updChan n.val fun c => { c with state := .on, pg := true, pgAt := s.sys.ft, faultTicks := 0 }))
       ∧ ((c.state ≠ .ramp ∧ c.state ≠ .on) ∨ ¬ good → s.ignores (.pgAssert n m)))
    ∧ (let bad := 10 * m.vout.toNat < 9 * m.vin.toNat ∨ m.gateOk = false ∧ m.limiting = false
       (c.pg = true → bad → s.settlesTo (.pgDeassert n m) (t.updChan n.val fun c => { c with pg := false }))
       ∧ (c.pg = false ∨ ¬ bad → s.ignores (.pgDeassert n m)))
    ∧ (let out := s.start.updChan n.val fun c => { c with prsntLow := false }
       s.settlesTo (.removed n m) (out.slotGone n.val m)
       ∧ (∀ v : State, (v.chan n.val).state = .ramp ∨ (v.chan n.val).state = .on ∨ (v.chan n.val).state = .stopping →
          v.slotGone n.val m = (((v.sampleSlot n.val m).recordTrip n.val (m.causes.toNat ||| 0x80) 0 m.faultTicks).updChan n.val fun c =>
            { c.gateOff .idle with present := false }).linkLost n.val 1 true)
       ∧ (∀ v : State, (v.chan n.val).state = .seating ∨ (v.chan n.val).state = .seated ∨ (v.chan n.val).state = .cooldown
            ∨ (v.chan n.val).state = .latched →
          let w := v.updChan n.val fun c => { c.gateOff .idle with present := false }
          v.slotGone n.val m = if (v.chan n.val).present = true ∧ (v.chan n.val).role = .bound then w.notifyVppbs n.val 0 [0] else w)
       ∧ (∀ v : State, (v.chan n.val).state = .idle → v.slotGone n.val m = v))
    ∧ (c.state = .cooldown → c.cooled = false →
        let v := (s.start.advanceTo c.timer).sampleSlot n.val m
        s.settlesTo (.cooldownEnd n m) (if c.waitVin = true ∧ ¬ vinOk (s.slotParam n.val) m.vin = true then v
          else v.updChan n.val fun c => { c with cooled := true, waitVin := false }))
    ∧ (c.state ≠ .cooldown ∨ c.cooled = true → s.ignores (.cooldownEnd n m))
    ∧ (c.state = .stopping → s.settlesTo (.perstLead n) ((s.start.advanceTo c.timer).updChan n.val fun c => c.gateOff .seated))
    ∧ (c.state ≠ .stopping → s.ignores (.perstLead n))
    ∧ (c.pg = true → s.settlesTo (.retryCountReset n)
        ((s.start.advanceTo (c.pgAt + 1000000000)).updChan n.val fun c => { c with retry := 0 }))
    ∧ (c.pg = false → s.ignores (.retryCountReset n))
    ∧ s.settlesTo (.vinWithinWindow n m) (t.settleSlot n.val)
end

