-- ==== Sys2Proof/Laws/State.lean ====
section
/-! SUPPORT. One lemma per field and update: what each update of the state leaves as it was, so that no proof unfolds a
record update. -/

namespace Sys2Proof.Machine

variable (s : State)

@[simp] theorem State.emit_sys (o : Out) : (s.emit o).sys = s.sys := rfl
@[simp] theorem State.emit_tab (o : Out) : (s.emit o).tab = s.tab := rfl
@[simp] theorem State.emit_dp (o : Out) : (s.emit o).dp = s.dp := rfl
@[simp] theorem State.emit_dir (o : Out) : (s.emit o).dir = s.dir := rfl
@[simp] theorem State.emit_wq (o : Out) : (s.emit o).wq = s.wq := rfl
@[simp] theorem State.emit_edge (o : Out) : (s.emit o).edge = s.edge := rfl
@[simp] theorem State.emit_trk (o : Out) : (s.emit o).trk = s.trk := rfl
@[simp] theorem State.emit_slots (o : Out) : (s.emit o).slots = s.slots := rfl
@[simp] theorem State.emit_mgmt (o : Out) : (s.emit o).mgmt = s.mgmt := rfl
@[simp] theorem State.emit_freeCtr (o : Out) : (s.emit o).freeCtr = s.freeCtr := rfl
@[simp] theorem State.emit_pending (o : Out) : (s.emit o).pending = s.pending := rfl

@[simp] theorem State.free_sys : (s.free.2).sys = s.sys := rfl
@[simp] theorem State.free_obs : (s.free.2).obs = s.obs := rfl
@[simp] theorem State.free_tab : (s.free.2).tab = s.tab := rfl
@[simp] theorem State.free_dp : (s.free.2).dp = s.dp := rfl
@[simp] theorem State.free_dir : (s.free.2).dir = s.dir := rfl
@[simp] theorem State.free_wq : (s.free.2).wq = s.wq := rfl
@[simp] theorem State.free_edge : (s.free.2).edge = s.edge := rfl
@[simp] theorem State.free_trk : (s.free.2).trk = s.trk := rfl
@[simp] theorem State.free_slots : (s.free.2).slots = s.slots := rfl
@[simp] theorem State.free_mgmt : (s.free.2).mgmt = s.mgmt := rfl
@[simp] theorem State.free_pending : (s.free.2).pending = s.pending := rfl

@[simp] theorem State.start_sys : (s.start).sys = s.sys := rfl
@[simp] theorem State.start_tab : (s.start).tab = s.tab := rfl
@[simp] theorem State.start_dp : (s.start).dp = s.dp := rfl
@[simp] theorem State.start_dir : (s.start).dir = s.dir := rfl
@[simp] theorem State.start_wq : (s.start).wq = s.wq := rfl
@[simp] theorem State.start_edge : (s.start).edge = s.edge := rfl
@[simp] theorem State.start_trk : (s.start).trk = s.trk := rfl
@[simp] theorem State.start_slots : (s.start).slots = s.slots := rfl
@[simp] theorem State.start_mgmt : (s.start).mgmt = s.mgmt := rfl
@[simp] theorem State.start_freeCtr : (s.start).freeCtr = s.freeCtr := rfl
@[simp] theorem State.start_pending : (s.start).pending = s.pending := rfl

@[simp] theorem State.dropStore_sys (b n : Nat) : (s.dropStore b n).sys = s.sys := rfl
@[simp] theorem State.dropStore_obs (b n : Nat) : (s.dropStore b n).obs = s.obs := rfl
@[simp] theorem State.dropStore_tab (b n : Nat) : (s.dropStore b n).tab = s.tab := rfl
@[simp] theorem State.dropStore_dp (b n : Nat) : (s.dropStore b n).dp = s.dp := rfl
@[simp] theorem State.dropStore_wq (b n : Nat) : (s.dropStore b n).wq = s.wq := rfl
@[simp] theorem State.dropStore_edge (b n : Nat) : (s.dropStore b n).edge = s.edge := rfl
@[simp] theorem State.dropStore_trk (b n : Nat) : (s.dropStore b n).trk = s.trk := rfl
@[simp] theorem State.dropStore_slots (b n : Nat) : (s.dropStore b n).slots = s.slots := rfl
@[simp] theorem State.dropStore_freeCtr (b n : Nat) : (s.dropStore b n).freeCtr = s.freeCtr := rfl
@[simp] theorem State.dropStore_pending (b n : Nat) : (s.dropStore b n).pending = s.pending := rfl

@[simp] theorem State.count_sys (c n : Nat) : (s.count c n).sys = s.sys := rfl
@[simp] theorem State.count_tab (c n : Nat) : (s.count c n).tab = s.tab := rfl
@[simp] theorem State.count_dp (c n : Nat) : (s.count c n).dp = s.dp := rfl
@[simp] theorem State.count_dir (c n : Nat) : (s.count c n).dir = s.dir := rfl
@[simp] theorem State.count_wq (c n : Nat) : (s.count c n).wq = s.wq := rfl
@[simp] theorem State.count_edge (c n : Nat) : (s.count c n).edge = s.edge := rfl
@[simp] theorem State.count_trk (c n : Nat) : (s.count c n).trk = s.trk := rfl
@[simp] theorem State.count_slots (c n : Nat) : (s.count c n).slots = s.slots := rfl
@[simp] theorem State.count_mgmt (c n : Nat) : (s.count c n).mgmt = s.mgmt := rfl
@[simp] theorem State.count_freeCtr (c n : Nat) : (s.count c n).freeCtr = s.freeCtr := rfl
@[simp] theorem State.count_pending (c n : Nat) : (s.count c n).pending = s.pending := rfl

@[simp] theorem State.countPort_sys (p i : Nat) : (s.countPort p i).sys = s.sys := rfl
@[simp] theorem State.countPort_tab (p i : Nat) : (s.countPort p i).tab = s.tab := rfl
@[simp] theorem State.countPort_dp (p i : Nat) : (s.countPort p i).dp = s.dp := rfl
@[simp] theorem State.countPort_dir (p i : Nat) : (s.countPort p i).dir = s.dir := rfl
@[simp] theorem State.countPort_wq (p i : Nat) : (s.countPort p i).wq = s.wq := rfl
@[simp] theorem State.countPort_edge (p i : Nat) : (s.countPort p i).edge = s.edge := rfl
@[simp] theorem State.countPort_trk (p i : Nat) : (s.countPort p i).trk = s.trk := rfl
@[simp] theorem State.countPort_slots (p i : Nat) : (s.countPort p i).slots = s.slots := rfl
@[simp] theorem State.countPort_mgmt (p i : Nat) : (s.countPort p i).mgmt = s.mgmt := rfl
@[simp] theorem State.countPort_freeCtr (p i : Nat) : (s.countPort p i).freeCtr = s.freeCtr := rfl
@[simp] theorem State.countPort_pending (p i : Nat) : (s.countPort p i).pending = s.pending := rfl

@[simp] theorem State.countTrunk_sys (t i : Nat) : (s.countTrunk t i).sys = s.sys := rfl
@[simp] theorem State.countTrunk_tab (t i : Nat) : (s.countTrunk t i).tab = s.tab := rfl
@[simp] theorem State.countTrunk_dp (t i : Nat) : (s.countTrunk t i).dp = s.dp := rfl
@[simp] theorem State.countTrunk_dir (t i : Nat) : (s.countTrunk t i).dir = s.dir := rfl
@[simp] theorem State.countTrunk_wq (t i : Nat) : (s.countTrunk t i).wq = s.wq := rfl
@[simp] theorem State.countTrunk_edge (t i : Nat) : (s.countTrunk t i).edge = s.edge := rfl
@[simp] theorem State.countTrunk_trk (t i : Nat) : (s.countTrunk t i).trk = s.trk := rfl
@[simp] theorem State.countTrunk_slots (t i : Nat) : (s.countTrunk t i).slots = s.slots := rfl
@[simp] theorem State.countTrunk_mgmt (t i : Nat) : (s.countTrunk t i).mgmt = s.mgmt := rfl
@[simp] theorem State.countTrunk_freeCtr (t i : Nat) : (s.countTrunk t i).freeCtr = s.freeCtr := rfl
@[simp] theorem State.countTrunk_pending (t i : Nat) : (s.countTrunk t i).pending = s.pending := rfl

@[simp] theorem State.countGlobal_sys (g : Nat) : (s.countGlobal g).sys = s.sys := rfl
@[simp] theorem State.countGlobal_tab (g : Nat) : (s.countGlobal g).tab = s.tab := rfl
@[simp] theorem State.countGlobal_dp (g : Nat) : (s.countGlobal g).dp = s.dp := rfl
@[simp] theorem State.countGlobal_dir (g : Nat) : (s.countGlobal g).dir = s.dir := rfl
@[simp] theorem State.countGlobal_wq (g : Nat) : (s.countGlobal g).wq = s.wq := rfl
@[simp] theorem State.countGlobal_edge (g : Nat) : (s.countGlobal g).edge = s.edge := rfl
@[simp] theorem State.countGlobal_trk (g : Nat) : (s.countGlobal g).trk = s.trk := rfl
@[simp] theorem State.countGlobal_slots (g : Nat) : (s.countGlobal g).slots = s.slots := rfl
@[simp] theorem State.countGlobal_mgmt (g : Nat) : (s.countGlobal g).mgmt = s.mgmt := rfl
@[simp] theorem State.countGlobal_freeCtr (g : Nat) : (s.countGlobal g).freeCtr = s.freeCtr := rfl
@[simp] theorem State.countGlobal_pending (g : Nat) : (s.countGlobal g).pending = s.pending := rfl

@[simp] theorem State.updPort_sys (p : Nat) (f : PortState → PortState) : (s.updPort p f).sys = s.sys := rfl
@[simp] theorem State.updPort_obs (p : Nat) (f : PortState → PortState) : (s.updPort p f).obs = s.obs := rfl
@[simp] theorem State.updPort_tab (p : Nat) (f : PortState → PortState) : (s.updPort p f).tab = s.tab := rfl
@[simp] theorem State.updPort_dp (p : Nat) (f : PortState → PortState) : (s.updPort p f).dp = s.dp := rfl
@[simp] theorem State.updPort_dir (p : Nat) (f : PortState → PortState) : (s.updPort p f).dir = s.dir := rfl
@[simp] theorem State.updPort_wq (p : Nat) (f : PortState → PortState) : (s.updPort p f).wq = s.wq := rfl
@[simp] theorem State.updPort_trk (p : Nat) (f : PortState → PortState) : (s.updPort p f).trk = s.trk := rfl
@[simp] theorem State.updPort_slots (p : Nat) (f : PortState → PortState) : (s.updPort p f).slots = s.slots := rfl
@[simp] theorem State.updPort_mgmt (p : Nat) (f : PortState → PortState) : (s.updPort p f).mgmt = s.mgmt := rfl
@[simp] theorem State.updPort_freeCtr (p : Nat) (f : PortState → PortState) : (s.updPort p f).freeCtr = s.freeCtr := rfl
@[simp] theorem State.updPort_pending (p : Nat) (f : PortState → PortState) : (s.updPort p f).pending = s.pending := rfl

@[simp] theorem State.updTrunk_sys (t : Nat) (f : Trunk → Trunk) : (s.updTrunk t f).sys = s.sys := rfl
@[simp] theorem State.updTrunk_obs (t : Nat) (f : Trunk → Trunk) : (s.updTrunk t f).obs = s.obs := rfl
@[simp] theorem State.updTrunk_tab (t : Nat) (f : Trunk → Trunk) : (s.updTrunk t f).tab = s.tab := rfl
@[simp] theorem State.updTrunk_dp (t : Nat) (f : Trunk → Trunk) : (s.updTrunk t f).dp = s.dp := rfl
@[simp] theorem State.updTrunk_dir (t : Nat) (f : Trunk → Trunk) : (s.updTrunk t f).dir = s.dir := rfl
@[simp] theorem State.updTrunk_wq (t : Nat) (f : Trunk → Trunk) : (s.updTrunk t f).wq = s.wq := rfl
@[simp] theorem State.updTrunk_edge (t : Nat) (f : Trunk → Trunk) : (s.updTrunk t f).edge = s.edge := rfl
@[simp] theorem State.updTrunk_slots (t : Nat) (f : Trunk → Trunk) : (s.updTrunk t f).slots = s.slots := rfl
@[simp] theorem State.updTrunk_mgmt (t : Nat) (f : Trunk → Trunk) : (s.updTrunk t f).mgmt = s.mgmt := rfl
@[simp] theorem State.updTrunk_freeCtr (t : Nat) (f : Trunk → Trunk) : (s.updTrunk t f).freeCtr = s.freeCtr := rfl
@[simp] theorem State.updTrunk_pending (t : Nat) (f : Trunk → Trunk) : (s.updTrunk t f).pending = s.pending := rfl

@[simp] theorem State.updMig_sys (k : Nat) (f : MigSlot → MigSlot) : (s.updMig k f).sys = s.sys := rfl
@[simp] theorem State.updMig_obs (k : Nat) (f : MigSlot → MigSlot) : (s.updMig k f).obs = s.obs := rfl
@[simp] theorem State.updMig_tab (k : Nat) (f : MigSlot → MigSlot) : (s.updMig k f).tab = s.tab := rfl
@[simp] theorem State.updMig_dp (k : Nat) (f : MigSlot → MigSlot) : (s.updMig k f).dp = s.dp := rfl
@[simp] theorem State.updMig_dir (k : Nat) (f : MigSlot → MigSlot) : (s.updMig k f).dir = s.dir := rfl
@[simp] theorem State.updMig_edge (k : Nat) (f : MigSlot → MigSlot) : (s.updMig k f).edge = s.edge := rfl
@[simp] theorem State.updMig_trk (k : Nat) (f : MigSlot → MigSlot) : (s.updMig k f).trk = s.trk := rfl
@[simp] theorem State.updMig_slots (k : Nat) (f : MigSlot → MigSlot) : (s.updMig k f).slots = s.slots := rfl
@[simp] theorem State.updMig_mgmt (k : Nat) (f : MigSlot → MigSlot) : (s.updMig k f).mgmt = s.mgmt := rfl
@[simp] theorem State.updMig_freeCtr (k : Nat) (f : MigSlot → MigSlot) : (s.updMig k f).freeCtr = s.freeCtr := rfl
@[simp] theorem State.updMig_pending (k : Nat) (f : MigSlot → MigSlot) : (s.updMig k f).pending = s.pending := rfl

@[simp] theorem State.updQp_sys (q : Nat) (f : Qp → Qp) : (s.updQp q f).sys = s.sys := rfl
@[simp] theorem State.updQp_obs (q : Nat) (f : Qp → Qp) : (s.updQp q f).obs = s.obs := rfl
@[simp] theorem State.updQp_tab (q : Nat) (f : Qp → Qp) : (s.updQp q f).tab = s.tab := rfl
@[simp] theorem State.updQp_dp (q : Nat) (f : Qp → Qp) : (s.updQp q f).dp = s.dp := rfl
@[simp] theorem State.updQp_dir (q : Nat) (f : Qp → Qp) : (s.updQp q f).dir = s.dir := rfl
@[simp] theorem State.updQp_edge (q : Nat) (f : Qp → Qp) : (s.updQp q f).edge = s.edge := rfl
@[simp] theorem State.updQp_trk (q : Nat) (f : Qp → Qp) : (s.updQp q f).trk = s.trk := rfl
@[simp] theorem State.updQp_slots (q : Nat) (f : Qp → Qp) : (s.updQp q f).slots = s.slots := rfl
@[simp] theorem State.updQp_mgmt (q : Nat) (f : Qp → Qp) : (s.updQp q f).mgmt = s.mgmt := rfl
@[simp] theorem State.updQp_freeCtr (q : Nat) (f : Qp → Qp) : (s.updQp q f).freeCtr = s.freeCtr := rfl
@[simp] theorem State.updQp_pending (q : Nat) (f : Qp → Qp) : (s.updQp q f).pending = s.pending := rfl

@[simp] theorem State.updZero_sys (n : Nat) (f : ZeroJob → ZeroJob) : (s.updZero n f).sys = s.sys := rfl
@[simp] theorem State.updZero_obs (n : Nat) (f : ZeroJob → ZeroJob) : (s.updZero n f).obs = s.obs := rfl
@[simp] theorem State.updZero_tab (n : Nat) (f : ZeroJob → ZeroJob) : (s.updZero n f).tab = s.tab := rfl
@[simp] theorem State.updZero_dp (n : Nat) (f : ZeroJob → ZeroJob) : (s.updZero n f).dp = s.dp := rfl
@[simp] theorem State.updZero_dir (n : Nat) (f : ZeroJob → ZeroJob) : (s.updZero n f).dir = s.dir := rfl
@[simp] theorem State.updZero_edge (n : Nat) (f : ZeroJob → ZeroJob) : (s.updZero n f).edge = s.edge := rfl
@[simp] theorem State.updZero_trk (n : Nat) (f : ZeroJob → ZeroJob) : (s.updZero n f).trk = s.trk := rfl
@[simp] theorem State.updZero_slots (n : Nat) (f : ZeroJob → ZeroJob) : (s.updZero n f).slots = s.slots := rfl
@[simp] theorem State.updZero_mgmt (n : Nat) (f : ZeroJob → ZeroJob) : (s.updZero n f).mgmt = s.mgmt := rfl
@[simp] theorem State.updZero_freeCtr (n : Nat) (f : ZeroJob → ZeroJob) : (s.updZero n f).freeCtr = s.freeCtr := rfl
@[simp] theorem State.updZero_pending (n : Nat) (f : ZeroJob → ZeroJob) : (s.updZero n f).pending = s.pending := rfl

@[simp] theorem State.updChan_sys (n : Nat) (f : Channel → Channel) : (s.updChan n f).sys = s.sys := rfl
@[simp] theorem State.updChan_obs (n : Nat) (f : Channel → Channel) : (s.updChan n f).obs = s.obs := rfl
@[simp] theorem State.updChan_tab (n : Nat) (f : Channel → Channel) : (s.updChan n f).tab = s.tab := rfl
@[simp] theorem State.updChan_dp (n : Nat) (f : Channel → Channel) : (s.updChan n f).dp = s.dp := rfl
@[simp] theorem State.updChan_dir (n : Nat) (f : Channel → Channel) : (s.updChan n f).dir = s.dir := rfl
@[simp] theorem State.updChan_wq (n : Nat) (f : Channel → Channel) : (s.updChan n f).wq = s.wq := rfl
@[simp] theorem State.updChan_edge (n : Nat) (f : Channel → Channel) : (s.updChan n f).edge = s.edge := rfl
@[simp] theorem State.updChan_trk (n : Nat) (f : Channel → Channel) : (s.updChan n f).trk = s.trk := rfl
@[simp] theorem State.updChan_mgmt (n : Nat) (f : Channel → Channel) : (s.updChan n f).mgmt = s.mgmt := rfl
@[simp] theorem State.updChan_freeCtr (n : Nat) (f : Channel → Channel) : (s.updChan n f).freeCtr = s.freeCtr := rfl
@[simp] theorem State.updChan_pending (n : Nat) (f : Channel → Channel) : (s.updChan n f).pending = s.pending := rfl

@[simp] theorem State.putTxn_sys (i : Nat) (t : Txn) : (s.putTxn i t).sys = s.sys := rfl
@[simp] theorem State.putTxn_obs (i : Nat) (t : Txn) : (s.putTxn i t).obs = s.obs := rfl
@[simp] theorem State.putTxn_tab (i : Nat) (t : Txn) : (s.putTxn i t).tab = s.tab := rfl
@[simp] theorem State.putTxn_dir (i : Nat) (t : Txn) : (s.putTxn i t).dir = s.dir := rfl
@[simp] theorem State.putTxn_wq (i : Nat) (t : Txn) : (s.putTxn i t).wq = s.wq := rfl
@[simp] theorem State.putTxn_edge (i : Nat) (t : Txn) : (s.putTxn i t).edge = s.edge := rfl
@[simp] theorem State.putTxn_trk (i : Nat) (t : Txn) : (s.putTxn i t).trk = s.trk := rfl
@[simp] theorem State.putTxn_slots (i : Nat) (t : Txn) : (s.putTxn i t).slots = s.slots := rfl
@[simp] theorem State.putTxn_mgmt (i : Nat) (t : Txn) : (s.putTxn i t).mgmt = s.mgmt := rfl
@[simp] theorem State.putTxn_freeCtr (i : Nat) (t : Txn) : (s.putTxn i t).freeCtr = s.freeCtr := rfl
@[simp] theorem State.putTxn_pending (i : Nat) (t : Txn) : (s.putTxn i t).pending = s.pending := rfl

@[simp] theorem State.updTxn_sys (i : Nat) (f : Txn → Txn) : (s.updTxn i f).sys = s.sys := rfl
@[simp] theorem State.updTxn_obs (i : Nat) (f : Txn → Txn) : (s.updTxn i f).obs = s.obs := rfl
@[simp] theorem State.updTxn_tab (i : Nat) (f : Txn → Txn) : (s.updTxn i f).tab = s.tab := rfl
@[simp] theorem State.updTxn_dir (i : Nat) (f : Txn → Txn) : (s.updTxn i f).dir = s.dir := rfl
@[simp] theorem State.updTxn_wq (i : Nat) (f : Txn → Txn) : (s.updTxn i f).wq = s.wq := rfl
@[simp] theorem State.updTxn_edge (i : Nat) (f : Txn → Txn) : (s.updTxn i f).edge = s.edge := rfl
@[simp] theorem State.updTxn_trk (i : Nat) (f : Txn → Txn) : (s.updTxn i f).trk = s.trk := rfl
@[simp] theorem State.updTxn_slots (i : Nat) (f : Txn → Txn) : (s.updTxn i f).slots = s.slots := rfl
@[simp] theorem State.updTxn_mgmt (i : Nat) (f : Txn → Txn) : (s.updTxn i f).mgmt = s.mgmt := rfl
@[simp] theorem State.updTxn_freeCtr (i : Nat) (f : Txn → Txn) : (s.updTxn i f).freeCtr = s.freeCtr := rfl
@[simp] theorem State.updTxn_pending (i : Nat) (f : Txn → Txn) : (s.updTxn i f).pending = s.pending := rfl

@[simp] theorem State.updLink_obs (j : Nat) (f : DieLink → DieLink) : (s.updLink j f).obs = s.obs := rfl
@[simp] theorem State.updLink_tab (j : Nat) (f : DieLink → DieLink) : (s.updLink j f).tab = s.tab := rfl
@[simp] theorem State.updLink_dp (j : Nat) (f : DieLink → DieLink) : (s.updLink j f).dp = s.dp := rfl
@[simp] theorem State.updLink_dir (j : Nat) (f : DieLink → DieLink) : (s.updLink j f).dir = s.dir := rfl
@[simp] theorem State.updLink_wq (j : Nat) (f : DieLink → DieLink) : (s.updLink j f).wq = s.wq := rfl
@[simp] theorem State.updLink_edge (j : Nat) (f : DieLink → DieLink) : (s.updLink j f).edge = s.edge := rfl
@[simp] theorem State.updLink_trk (j : Nat) (f : DieLink → DieLink) : (s.updLink j f).trk = s.trk := rfl
@[simp] theorem State.updLink_slots (j : Nat) (f : DieLink → DieLink) : (s.updLink j f).slots = s.slots := rfl
@[simp] theorem State.updLink_mgmt (j : Nat) (f : DieLink → DieLink) : (s.updLink j f).mgmt = s.mgmt := rfl
@[simp] theorem State.updLink_freeCtr (j : Nat) (f : DieLink → DieLink) : (s.updLink j f).freeCtr = s.freeCtr := rfl
@[simp] theorem State.updLink_pending (j : Nat) (f : DieLink → DieLink) : (s.updLink j f).pending = s.pending := rfl

@[simp] theorem State.updI3c_sys (k : Fin 2) (f : I3c → I3c) : (s.updI3c k f).sys = s.sys := by unfold State.updI3c; split <;> rfl
@[simp] theorem State.updI3c_obs (k : Fin 2) (f : I3c → I3c) : (s.updI3c k f).obs = s.obs := by unfold State.updI3c; split <;> rfl
@[simp] theorem State.updI3c_tab (k : Fin 2) (f : I3c → I3c) : (s.updI3c k f).tab = s.tab := by unfold State.updI3c; split <;> rfl
@[simp] theorem State.updI3c_dp (k : Fin 2) (f : I3c → I3c) : (s.updI3c k f).dp = s.dp := by unfold State.updI3c; split <;> rfl
@[simp] theorem State.updI3c_dir (k : Fin 2) (f : I3c → I3c) : (s.updI3c k f).dir = s.dir := by unfold State.updI3c; split <;> rfl
@[simp] theorem State.updI3c_wq (k : Fin 2) (f : I3c → I3c) : (s.updI3c k f).wq = s.wq := by unfold State.updI3c; split <;> rfl
@[simp] theorem State.updI3c_edge (k : Fin 2) (f : I3c → I3c) : (s.updI3c k f).edge = s.edge := by unfold State.updI3c; split <;> rfl
@[simp] theorem State.updI3c_trk (k : Fin 2) (f : I3c → I3c) : (s.updI3c k f).trk = s.trk := by unfold State.updI3c; split <;> rfl
@[simp] theorem State.updI3c_slots (k : Fin 2) (f : I3c → I3c) : (s.updI3c k f).slots = s.slots := by unfold State.updI3c; split <;> rfl
@[simp] theorem State.updI3c_freeCtr (k : Fin 2) (f : I3c → I3c) : (s.updI3c k f).freeCtr = s.freeCtr := by unfold State.updI3c; split <;> rfl
@[simp] theorem State.updI3c_pending (k : Fin 2) (f : I3c → I3c) : (s.updI3c k f).pending = s.pending := by unfold State.updI3c; split <;> rfl

@[simp] theorem State.updPair_obs (p : Pair) (f : PairRegs → PairRegs) : (s.updPair p f).obs = s.obs := by cases p <;> rfl
@[simp] theorem State.updPair_tab (p : Pair) (f : PairRegs → PairRegs) : (s.updPair p f).tab = s.tab := by cases p <;> rfl
@[simp] theorem State.updPair_dp (p : Pair) (f : PairRegs → PairRegs) : (s.updPair p f).dp = s.dp := by cases p <;> rfl
@[simp] theorem State.updPair_dir (p : Pair) (f : PairRegs → PairRegs) : (s.updPair p f).dir = s.dir := by cases p <;> rfl
@[simp] theorem State.updPair_wq (p : Pair) (f : PairRegs → PairRegs) : (s.updPair p f).wq = s.wq := by cases p <;> rfl
@[simp] theorem State.updPair_edge (p : Pair) (f : PairRegs → PairRegs) : (s.updPair p f).edge = s.edge := by cases p <;> rfl
@[simp] theorem State.updPair_trk (p : Pair) (f : PairRegs → PairRegs) : (s.updPair p f).trk = s.trk := by cases p <;> rfl
@[simp] theorem State.updPair_slots (p : Pair) (f : PairRegs → PairRegs) : (s.updPair p f).slots = s.slots := by cases p <;> rfl
@[simp] theorem State.updPair_mgmt (p : Pair) (f : PairRegs → PairRegs) : (s.updPair p f).mgmt = s.mgmt := by cases p <;> rfl
@[simp] theorem State.updPair_freeCtr (p : Pair) (f : PairRegs → PairRegs) : (s.updPair p f).freeCtr = s.freeCtr := by cases p <;> rfl
@[simp] theorem State.updPair_pending (p : Pair) (f : PairRegs → PairRegs) : (s.updPair p f).pending = s.pending := by cases p <;> rfl

@[simp] theorem State.setPair_obs (p : Pair) (st : PairState) : (s.setPair p st).obs = s.obs := by cases p <;> rfl
@[simp] theorem State.setPair_tab (p : Pair) (st : PairState) : (s.setPair p st).tab = s.tab := by cases p <;> rfl
@[simp] theorem State.setPair_dp (p : Pair) (st : PairState) : (s.setPair p st).dp = s.dp := by cases p <;> rfl
@[simp] theorem State.setPair_dir (p : Pair) (st : PairState) : (s.setPair p st).dir = s.dir := by cases p <;> rfl
@[simp] theorem State.setPair_wq (p : Pair) (st : PairState) : (s.setPair p st).wq = s.wq := by cases p <;> rfl
@[simp] theorem State.setPair_edge (p : Pair) (st : PairState) : (s.setPair p st).edge = s.edge := by cases p <;> rfl
@[simp] theorem State.setPair_trk (p : Pair) (st : PairState) : (s.setPair p st).trk = s.trk := by cases p <;> rfl
@[simp] theorem State.setPair_slots (p : Pair) (st : PairState) : (s.setPair p st).slots = s.slots := by cases p <;> rfl
@[simp] theorem State.setPair_mgmt (p : Pair) (st : PairState) : (s.setPair p st).mgmt = s.mgmt := by cases p <;> rfl
@[simp] theorem State.setPair_freeCtr (p : Pair) (st : PairState) : (s.setPair p st).freeCtr = s.freeCtr := by cases p <;> rfl
@[simp] theorem State.setPair_pending (p : Pair) (st : PairState) : (s.setPair p st).pending = s.pending := by cases p <;> rfl

@[simp] theorem State.journal_obs (a b c : Nat) : (s.journal a b c).obs = s.obs := rfl
@[simp] theorem State.journal_tab (a b c : Nat) : (s.journal a b c).tab = s.tab := rfl
@[simp] theorem State.journal_dp (a b c : Nat) : (s.journal a b c).dp = s.dp := rfl
@[simp] theorem State.journal_wq (a b c : Nat) : (s.journal a b c).wq = s.wq := rfl
@[simp] theorem State.journal_edge (a b c : Nat) : (s.journal a b c).edge = s.edge := rfl
@[simp] theorem State.journal_trk (a b c : Nat) : (s.journal a b c).trk = s.trk := rfl
@[simp] theorem State.journal_slots (a b c : Nat) : (s.journal a b c).slots = s.slots := rfl
@[simp] theorem State.journal_freeCtr (a b c : Nat) : (s.journal a b c).freeCtr = s.freeCtr := rfl
@[simp] theorem State.journal_pending (a b c : Nat) : (s.journal a b c).pending = s.pending := rfl

@[simp] theorem State.setPhase_obs (p : Phase) : (s.setPhase p).obs = s.obs := rfl
@[simp] theorem State.setPhase_tab (p : Phase) : (s.setPhase p).tab = s.tab := rfl
@[simp] theorem State.setPhase_dp (p : Phase) : (s.setPhase p).dp = s.dp := rfl
@[simp] theorem State.setPhase_wq (p : Phase) : (s.setPhase p).wq = s.wq := rfl
@[simp] theorem State.setPhase_edge (p : Phase) : (s.setPhase p).edge = s.edge := rfl
@[simp] theorem State.setPhase_trk (p : Phase) : (s.setPhase p).trk = s.trk := rfl
@[simp] theorem State.setPhase_slots (p : Phase) : (s.setPhase p).slots = s.slots := rfl
@[simp] theorem State.setPhase_freeCtr (p : Phase) : (s.setPhase p).freeCtr = s.freeCtr := rfl
@[simp] theorem State.setPhase_pending (p : Phase) : (s.setPhase p).pending = s.pending := rfl

@[simp] theorem State.issueTicket_sys (c : CmdSrc) : ((s.issueTicket c).2).sys = s.sys := rfl
@[simp] theorem State.issueTicket_tab (c : CmdSrc) : ((s.issueTicket c).2).tab = s.tab := rfl
@[simp] theorem State.issueTicket_dp (c : CmdSrc) : ((s.issueTicket c).2).dp = s.dp := rfl
@[simp] theorem State.issueTicket_dir (c : CmdSrc) : ((s.issueTicket c).2).dir = s.dir := rfl
@[simp] theorem State.issueTicket_wq (c : CmdSrc) : ((s.issueTicket c).2).wq = s.wq := rfl
@[simp] theorem State.issueTicket_edge (c : CmdSrc) : ((s.issueTicket c).2).edge = s.edge := rfl
@[simp] theorem State.issueTicket_trk (c : CmdSrc) : ((s.issueTicket c).2).trk = s.trk := rfl
@[simp] theorem State.issueTicket_slots (c : CmdSrc) : ((s.issueTicket c).2).slots = s.slots := rfl
@[simp] theorem State.issueTicket_freeCtr (c : CmdSrc) : ((s.issueTicket c).2).freeCtr = s.freeCtr := rfl
@[simp] theorem State.issueTicket_pending (c : CmdSrc) : ((s.issueTicket c).2).pending = s.pending := rfl

@[simp] theorem State.countRefused_sys (c : CmdSrc) : (s.countRefused c).sys = s.sys := by cases c <;> rfl
@[simp] theorem State.countRefused_tab (c : CmdSrc) : (s.countRefused c).tab = s.tab := by cases c <;> rfl
@[simp] theorem State.countRefused_dp (c : CmdSrc) : (s.countRefused c).dp = s.dp := by cases c <;> rfl
@[simp] theorem State.countRefused_dir (c : CmdSrc) : (s.countRefused c).dir = s.dir := by cases c <;> rfl
@[simp] theorem State.countRefused_wq (c : CmdSrc) : (s.countRefused c).wq = s.wq := by cases c <;> rfl
@[simp] theorem State.countRefused_edge (c : CmdSrc) : (s.countRefused c).edge = s.edge := by cases c <;> rfl
@[simp] theorem State.countRefused_trk (c : CmdSrc) : (s.countRefused c).trk = s.trk := by cases c <;> rfl
@[simp] theorem State.countRefused_slots (c : CmdSrc) : (s.countRefused c).slots = s.slots := by cases c <;> rfl
@[simp] theorem State.countRefused_mgmt (c : CmdSrc) : (s.countRefused c).mgmt = s.mgmt := by cases c <;> rfl
@[simp] theorem State.countRefused_freeCtr (c : CmdSrc) : (s.countRefused c).freeCtr = s.freeCtr := by cases c <;> rfl
@[simp] theorem State.countRefused_pending (c : CmdSrc) : (s.countRefused c).pending = s.pending := by cases c <;> rfl

@[simp] theorem State.advanceTo_tab (t : Nat) : (s.advanceTo t).tab = s.tab := by unfold State.advanceTo; split <;> rfl
@[simp] theorem State.advanceTo_dp (t : Nat) : (s.advanceTo t).dp = s.dp := by unfold State.advanceTo; split <;> rfl
@[simp] theorem State.advanceTo_dir (t : Nat) : (s.advanceTo t).dir = s.dir := by unfold State.advanceTo; split <;> rfl
@[simp] theorem State.advanceTo_wq (t : Nat) : (s.advanceTo t).wq = s.wq := by unfold State.advanceTo; split <;> rfl
@[simp] theorem State.advanceTo_edge (t : Nat) : (s.advanceTo t).edge = s.edge := by unfold State.advanceTo; split <;> rfl
@[simp] theorem State.advanceTo_trk (t : Nat) : (s.advanceTo t).trk = s.trk := by unfold State.advanceTo; split <;> rfl
@[simp] theorem State.advanceTo_slots (t : Nat) : (s.advanceTo t).slots = s.slots := by unfold State.advanceTo; split <;> rfl
@[simp] theorem State.advanceTo_mgmt (t : Nat) : (s.advanceTo t).mgmt = s.mgmt := by unfold State.advanceTo; split <;> rfl
@[simp] theorem State.advanceTo_freeCtr (t : Nat) : (s.advanceTo t).freeCtr = s.freeCtr := by unfold State.advanceTo; split <;> rfl
@[simp] theorem State.advanceTo_pending (t : Nat) : (s.advanceTo t).pending = s.pending := by unfold State.advanceTo; split <;> rfl

@[simp] theorem State.pass_tab (d : Nat) : (s.pass d).tab = s.tab := by simp [State.pass]
@[simp] theorem State.pass_dp (d : Nat) : (s.pass d).dp = s.dp := by simp [State.pass]
@[simp] theorem State.pass_dir (d : Nat) : (s.pass d).dir = s.dir := by simp [State.pass]
@[simp] theorem State.pass_wq (d : Nat) : (s.pass d).wq = s.wq := by simp [State.pass]
@[simp] theorem State.pass_edge (d : Nat) : (s.pass d).edge = s.edge := by simp [State.pass]
@[simp] theorem State.pass_trk (d : Nat) : (s.pass d).trk = s.trk := by simp [State.pass]
@[simp] theorem State.pass_slots (d : Nat) : (s.pass d).slots = s.slots := by simp [State.pass]
@[simp] theorem State.pass_mgmt (d : Nat) : (s.pass d).mgmt = s.mgmt := by simp [State.pass]
@[simp] theorem State.pass_freeCtr (d : Nat) : (s.pass d).freeCtr = s.freeCtr := by simp [State.pass]
@[simp] theorem State.pass_pending (d : Nat) : (s.pass d).pending = s.pending := by simp [State.pass]

@[simp] theorem State.reachDeadline_tab (d : BitVec 20) : (s.reachDeadline d).tab = s.tab := by unfold State.reachDeadline; dsimp only; split <;> simp
@[simp] theorem State.reachDeadline_dp (d : BitVec 20) : (s.reachDeadline d).dp = s.dp := by unfold State.reachDeadline; dsimp only; split <;> simp
@[simp] theorem State.reachDeadline_dir (d : BitVec 20) : (s.reachDeadline d).dir = s.dir := by unfold State.reachDeadline; dsimp only; split <;> simp
@[simp] theorem State.reachDeadline_wq (d : BitVec 20) : (s.reachDeadline d).wq = s.wq := by unfold State.reachDeadline; dsimp only; split <;> simp
@[simp] theorem State.reachDeadline_edge (d : BitVec 20) : (s.reachDeadline d).edge = s.edge := by unfold State.reachDeadline; dsimp only; split <;> simp
@[simp] theorem State.reachDeadline_trk (d : BitVec 20) : (s.reachDeadline d).trk = s.trk := by unfold State.reachDeadline; dsimp only; split <;> simp
@[simp] theorem State.reachDeadline_slots (d : BitVec 20) : (s.reachDeadline d).slots = s.slots := by unfold State.reachDeadline; dsimp only; split <;> simp
@[simp] theorem State.reachDeadline_mgmt (d : BitVec 20) : (s.reachDeadline d).mgmt = s.mgmt := by unfold State.reachDeadline; dsimp only; split <;> simp
@[simp] theorem State.reachDeadline_freeCtr (d : BitVec 20) : (s.reachDeadline d).freeCtr = s.freeCtr := by unfold State.reachDeadline; dsimp only; split <;> simp
@[simp] theorem State.reachDeadline_pending (d : BitVec 20) : (s.reachDeadline d).pending = s.pending := by unfold State.reachDeadline; dsimp only; split <;> simp

/-- `t` differs from `s` in what is observed alone. -/
theorem State.obs_only {s t : State} (h : t = { s with obs := t.obs }) :
    t.sys = s.sys ∧ t.tab = s.tab ∧ t.dp = s.dp ∧ t.dir = s.dir ∧ t.wq = s.wq ∧ t.edge = s.edge ∧ t.trk = s.trk
      ∧ t.slots = s.slots ∧ t.mgmt = s.mgmt ∧ t.freeCtr = s.freeCtr ∧ t.pending = s.pending := by
  rw [h]; simp

theorem State.notifyLog_eq (l : EventLogs) (p i : Nat) : s.notifyLog l p i = { s with obs := (s.notifyLog l p i).obs } := by
  unfold State.notifyLog; split <;> rfl

theorem State.foldl_obs {α : Type} (f : State → α → State) (hf : ∀ s a, f s a = { s with obs := (f s a).obs }) (l : List α) :
    ∀ s, l.foldl f s = { s with obs := (l.foldl f s).obs } := by
  induction l with
  | nil => intro s; rfl
  | cons a l ih => intro s; simp only [List.foldl_cons]; rw [ih (f s a)]; generalize (List.foldl f (f s a) l).obs = o; rw [hf s a]

theorem State.mgmtEvent_eq (i kind : Nat) (d : List Nat) : s.mgmtEvent i kind d = { s with obs := (s.mgmtEvent i kind d).obs } := by
  unfold State.mgmtEvent; dsimp only
  rw [State.foldl_obs _ (fun s a => State.notifyLog_eq s _ _ _)]

theorem State.writeEntry_eq (t : U16) (v : Nat) (a : BitVec 128) :
    s.writeEntry t v a = { s with obs := (s.writeEntry t v a).obs } := by
  unfold State.writeEntry; dsimp only
  split <;> split <;> first | rfl | rw [State.mgmtEvent_eq]

theorem State.freezeNow_eq (c u : Nat) : s.freezeNow c u = { s with obs := (s.freezeNow c u).obs } := by
  unfold State.freezeNow; dsimp only; rw [State.writeEntry_eq]

theorem State.freezeAlways_eq (c : Nat) : s.freezeAlways c = { s with obs := (s.freezeAlways c).obs } := by
  unfold State.freezeAlways; dsimp only
  split
  · split <;> rfl
  · exact State.freezeNow_eq ..

theorem State.freezeDue_eq : s.freezeDue = { s with obs := s.freezeDue.obs } := by
  unfold State.freezeDue
  split
  · exact State.freezeNow_eq ..
  · rfl

theorem State.freezeMaskable_eq (c : Nat) : s.freezeMaskable c = { s with obs := (s.freezeMaskable c).obs } := by
  unfold State.freezeMaskable
  split
  · rfl
  · split <;> rfl

/-- Logging an event changes what is observed alone. -/
theorem State.log_eq (t : U16) (v : Nat) (a : List (Nat × Nat)) : s.log t v a = { s with obs := (s.log t v a).obs } := by
  unfold State.log; dsimp only
  split
  · rw [State.freezeDue_eq]; rfl
  · split
    · rw [State.writeEntry_eq, State.freezeDue_eq]
    · rw [State.writeEntry_eq, State.freezeDue_eq]

@[simp] theorem State.notifyLog_sys (l : EventLogs) (p i : Nat) : (s.notifyLog l p i).sys = s.sys := by rw [State.notifyLog_eq]
@[simp] theorem State.notifyLog_tab (l : EventLogs) (p i : Nat) : (s.notifyLog l p i).tab = s.tab := by rw [State.notifyLog_eq]
@[simp] theorem State.notifyLog_dp (l : EventLogs) (p i : Nat) : (s.notifyLog l p i).dp = s.dp := by rw [State.notifyLog_eq]
@[simp] theorem State.notifyLog_dir (l : EventLogs) (p i : Nat) : (s.notifyLog l p i).dir = s.dir := by rw [State.notifyLog_eq]
@[simp] theorem State.notifyLog_wq (l : EventLogs) (p i : Nat) : (s.notifyLog l p i).wq = s.wq := by rw [State.notifyLog_eq]
@[simp] theorem State.notifyLog_edge (l : EventLogs) (p i : Nat) : (s.notifyLog l p i).edge = s.edge := by rw [State.notifyLog_eq]
@[simp] theorem State.notifyLog_trk (l : EventLogs) (p i : Nat) : (s.notifyLog l p i).trk = s.trk := by rw [State.notifyLog_eq]
@[simp] theorem State.notifyLog_slots (l : EventLogs) (p i : Nat) : (s.notifyLog l p i).slots = s.slots := by rw [State.notifyLog_eq]
@[simp] theorem State.notifyLog_mgmt (l : EventLogs) (p i : Nat) : (s.notifyLog l p i).mgmt = s.mgmt := by rw [State.notifyLog_eq]
@[simp] theorem State.notifyLog_freeCtr (l : EventLogs) (p i : Nat) : (s.notifyLog l p i).freeCtr = s.freeCtr := by rw [State.notifyLog_eq]
@[simp] theorem State.notifyLog_pending (l : EventLogs) (p i : Nat) : (s.notifyLog l p i).pending = s.pending := by rw [State.notifyLog_eq]

@[simp] theorem State.mgmtEvent_sys (i k : Nat) (d : List Nat) : (s.mgmtEvent i k d).sys = s.sys := by rw [State.mgmtEvent_eq]
@[simp] theorem State.mgmtEvent_tab (i k : Nat) (d : List Nat) : (s.mgmtEvent i k d).tab = s.tab := by rw [State.mgmtEvent_eq]
@[simp] theorem State.mgmtEvent_dp (i k : Nat) (d : List Nat) : (s.mgmtEvent i k d).dp = s.dp := by rw [State.mgmtEvent_eq]
@[simp] theorem State.mgmtEvent_dir (i k : Nat) (d : List Nat) : (s.mgmtEvent i k d).dir = s.dir := by rw [State.mgmtEvent_eq]
@[simp] theorem State.mgmtEvent_wq (i k : Nat) (d : List Nat) : (s.mgmtEvent i k d).wq = s.wq := by rw [State.mgmtEvent_eq]
@[simp] theorem State.mgmtEvent_edge (i k : Nat) (d : List Nat) : (s.mgmtEvent i k d).edge = s.edge := by rw [State.mgmtEvent_eq]
@[simp] theorem State.mgmtEvent_trk (i k : Nat) (d : List Nat) : (s.mgmtEvent i k d).trk = s.trk := by rw [State.mgmtEvent_eq]
@[simp] theorem State.mgmtEvent_slots (i k : Nat) (d : List Nat) : (s.mgmtEvent i k d).slots = s.slots := by rw [State.mgmtEvent_eq]
@[simp] theorem State.mgmtEvent_mgmt (i k : Nat) (d : List Nat) : (s.mgmtEvent i k d).mgmt = s.mgmt := by rw [State.mgmtEvent_eq]
@[simp] theorem State.mgmtEvent_freeCtr (i k : Nat) (d : List Nat) : (s.mgmtEvent i k d).freeCtr = s.freeCtr := by rw [State.mgmtEvent_eq]
@[simp] theorem State.mgmtEvent_pending (i k : Nat) (d : List Nat) : (s.mgmtEvent i k d).pending = s.pending := by rw [State.mgmtEvent_eq]

@[simp] theorem State.writeEntry_sys (t : U16) (v : Nat) (a : BitVec 128) : (s.writeEntry t v a).sys = s.sys := by rw [State.writeEntry_eq]
@[simp] theorem State.writeEntry_tab (t : U16) (v : Nat) (a : BitVec 128) : (s.writeEntry t v a).tab = s.tab := by rw [State.writeEntry_eq]
@[simp] theorem State.writeEntry_dp (t : U16) (v : Nat) (a : BitVec 128) : (s.writeEntry t v a).dp = s.dp := by rw [State.writeEntry_eq]
@[simp] theorem State.writeEntry_dir (t : U16) (v : Nat) (a : BitVec 128) : (s.writeEntry t v a).dir = s.dir := by rw [State.writeEntry_eq]
@[simp] theorem State.writeEntry_wq (t : U16) (v : Nat) (a : BitVec 128) : (s.writeEntry t v a).wq = s.wq := by rw [State.writeEntry_eq]
@[simp] theorem State.writeEntry_edge (t : U16) (v : Nat) (a : BitVec 128) : (s.writeEntry t v a).edge = s.edge := by rw [State.writeEntry_eq]
@[simp] theorem State.writeEntry_trk (t : U16) (v : Nat) (a : BitVec 128) : (s.writeEntry t v a).trk = s.trk := by rw [State.writeEntry_eq]
@[simp] theorem State.writeEntry_slots (t : U16) (v : Nat) (a : BitVec 128) : (s.writeEntry t v a).slots = s.slots := by rw [State.writeEntry_eq]
@[simp] theorem State.writeEntry_mgmt (t : U16) (v : Nat) (a : BitVec 128) : (s.writeEntry t v a).mgmt = s.mgmt := by rw [State.writeEntry_eq]
@[simp] theorem State.writeEntry_freeCtr (t : U16) (v : Nat) (a : BitVec 128) : (s.writeEntry t v a).freeCtr = s.freeCtr := by rw [State.writeEntry_eq]
@[simp] theorem State.writeEntry_pending (t : U16) (v : Nat) (a : BitVec 128) : (s.writeEntry t v a).pending = s.pending := by rw [State.writeEntry_eq]

@[simp] theorem State.freezeNow_sys (c u : Nat) : (s.freezeNow c u).sys = s.sys := by rw [State.freezeNow_eq]
@[simp] theorem State.freezeNow_tab (c u : Nat) : (s.freezeNow c u).tab = s.tab := by rw [State.freezeNow_eq]
@[simp] theorem State.freezeNow_dp (c u : Nat) : (s.freezeNow c u).dp = s.dp := by rw [State.freezeNow_eq]
@[simp] theorem State.freezeNow_dir (c u : Nat) : (s.freezeNow c u).dir = s.dir := by rw [State.freezeNow_eq]
@[simp] theorem State.freezeNow_wq (c u : Nat) : (s.freezeNow c u).wq = s.wq := by rw [State.freezeNow_eq]
@[simp] theorem State.freezeNow_edge (c u : Nat) : (s.freezeNow c u).edge = s.edge := by rw [State.freezeNow_eq]
@[simp] theorem State.freezeNow_trk (c u : Nat) : (s.freezeNow c u).trk = s.trk := by rw [State.freezeNow_eq]
@[simp] theorem State.freezeNow_slots (c u : Nat) : (s.freezeNow c u).slots = s.slots := by rw [State.freezeNow_eq]
@[simp] theorem State.freezeNow_mgmt (c u : Nat) : (s.freezeNow c u).mgmt = s.mgmt := by rw [State.freezeNow_eq]
@[simp] theorem State.freezeNow_freeCtr (c u : Nat) : (s.freezeNow c u).freeCtr = s.freeCtr := by rw [State.freezeNow_eq]
@[simp] theorem State.freezeNow_pending (c u : Nat) : (s.freezeNow c u).pending = s.pending := by rw [State.freezeNow_eq]

@[simp] theorem State.freezeAlways_sys (c : Nat) : (s.freezeAlways c).sys = s.sys := by rw [State.freezeAlways_eq]
@[simp] theorem State.freezeAlways_tab (c : Nat) : (s.freezeAlways c).tab = s.tab := by rw [State.freezeAlways_eq]
@[simp] theorem State.freezeAlways_dp (c : Nat) : (s.freezeAlways c).dp = s.dp := by rw [State.freezeAlways_eq]
@[simp] theorem State.freezeAlways_dir (c : Nat) : (s.freezeAlways c).dir = s.dir := by rw [State.freezeAlways_eq]
@[simp] theorem State.freezeAlways_wq (c : Nat) : (s.freezeAlways c).wq = s.wq := by rw [State.freezeAlways_eq]
@[simp] theorem State.freezeAlways_edge (c : Nat) : (s.freezeAlways c).edge = s.edge := by rw [State.freezeAlways_eq]
@[simp] theorem State.freezeAlways_trk (c : Nat) : (s.freezeAlways c).trk = s.trk := by rw [State.freezeAlways_eq]
@[simp] theorem State.freezeAlways_slots (c : Nat) : (s.freezeAlways c).slots = s.slots := by rw [State.freezeAlways_eq]
@[simp] theorem State.freezeAlways_mgmt (c : Nat) : (s.freezeAlways c).mgmt = s.mgmt := by rw [State.freezeAlways_eq]
@[simp] theorem State.freezeAlways_freeCtr (c : Nat) : (s.freezeAlways c).freeCtr = s.freeCtr := by rw [State.freezeAlways_eq]
@[simp] theorem State.freezeAlways_pending (c : Nat) : (s.freezeAlways c).pending = s.pending := by rw [State.freezeAlways_eq]

@[simp] theorem State.freezeDue_sys : (s.freezeDue).sys = s.sys := by rw [State.freezeDue_eq]
@[simp] theorem State.freezeDue_tab : (s.freezeDue).tab = s.tab := by rw [State.freezeDue_eq]
@[simp] theorem State.freezeDue_dp : (s.freezeDue).dp = s.dp := by rw [State.freezeDue_eq]
@[simp] theorem State.freezeDue_dir : (s.freezeDue).dir = s.dir := by rw [State.freezeDue_eq]
@[simp] theorem State.freezeDue_wq : (s.freezeDue).wq = s.wq := by rw [State.freezeDue_eq]
@[simp] theorem State.freezeDue_edge : (s.freezeDue).edge = s.edge := by rw [State.freezeDue_eq]
@[simp] theorem State.freezeDue_trk : (s.freezeDue).trk = s.trk := by rw [State.freezeDue_eq]
@[simp] theorem State.freezeDue_slots : (s.freezeDue).slots = s.slots := by rw [State.freezeDue_eq]
@[simp] theorem State.freezeDue_mgmt : (s.freezeDue).mgmt = s.mgmt := by rw [State.freezeDue_eq]
@[simp] theorem State.freezeDue_freeCtr : (s.freezeDue).freeCtr = s.freeCtr := by rw [State.freezeDue_eq]
@[simp] theorem State.freezeDue_pending : (s.freezeDue).pending = s.pending := by rw [State.freezeDue_eq]

@[simp] theorem State.freezeMaskable_sys (c : Nat) : (s.freezeMaskable c).sys = s.sys := by rw [State.freezeMaskable_eq]
@[simp] theorem State.freezeMaskable_tab (c : Nat) : (s.freezeMaskable c).tab = s.tab := by rw [State.freezeMaskable_eq]
@[simp] theorem State.freezeMaskable_dp (c : Nat) : (s.freezeMaskable c).dp = s.dp := by rw [State.freezeMaskable_eq]
@[simp] theorem State.freezeMaskable_dir (c : Nat) : (s.freezeMaskable c).dir = s.dir := by rw [State.freezeMaskable_eq]
@[simp] theorem State.freezeMaskable_wq (c : Nat) : (s.freezeMaskable c).wq = s.wq := by rw [State.freezeMaskable_eq]
@[simp] theorem State.freezeMaskable_edge (c : Nat) : (s.freezeMaskable c).edge = s.edge := by rw [State.freezeMaskable_eq]
@[simp] theorem State.freezeMaskable_trk (c : Nat) : (s.freezeMaskable c).trk = s.trk := by rw [State.freezeMaskable_eq]
@[simp] theorem State.freezeMaskable_slots (c : Nat) : (s.freezeMaskable c).slots = s.slots := by rw [State.freezeMaskable_eq]
@[simp] theorem State.freezeMaskable_mgmt (c : Nat) : (s.freezeMaskable c).mgmt = s.mgmt := by rw [State.freezeMaskable_eq]
@[simp] theorem State.freezeMaskable_freeCtr (c : Nat) : (s.freezeMaskable c).freeCtr = s.freeCtr := by rw [State.freezeMaskable_eq]
@[simp] theorem State.freezeMaskable_pending (c : Nat) : (s.freezeMaskable c).pending = s.pending := by rw [State.freezeMaskable_eq]

@[simp] theorem State.log_sys (t : U16) (v : Nat) (a : List (Nat × Nat)) : (s.log t v a).sys = s.sys := by rw [State.log_eq]
@[simp] theorem State.log_tab (t : U16) (v : Nat) (a : List (Nat × Nat)) : (s.log t v a).tab = s.tab := by rw [State.log_eq]
@[simp] theorem State.log_dp (t : U16) (v : Nat) (a : List (Nat × Nat)) : (s.log t v a).dp = s.dp := by rw [State.log_eq]
@[simp] theorem State.log_dir (t : U16) (v : Nat) (a : List (Nat × Nat)) : (s.log t v a).dir = s.dir := by rw [State.log_eq]
@[simp] theorem State.log_wq (t : U16) (v : Nat) (a : List (Nat × Nat)) : (s.log t v a).wq = s.wq := by rw [State.log_eq]
@[simp] theorem State.log_edge (t : U16) (v : Nat) (a : List (Nat × Nat)) : (s.log t v a).edge = s.edge := by rw [State.log_eq]
@[simp] theorem State.log_trk (t : U16) (v : Nat) (a : List (Nat × Nat)) : (s.log t v a).trk = s.trk := by rw [State.log_eq]
@[simp] theorem State.log_slots (t : U16) (v : Nat) (a : List (Nat × Nat)) : (s.log t v a).slots = s.slots := by rw [State.log_eq]
@[simp] theorem State.log_mgmt (t : U16) (v : Nat) (a : List (Nat × Nat)) : (s.log t v a).mgmt = s.mgmt := by rw [State.log_eq]
@[simp] theorem State.log_freeCtr (t : U16) (v : Nat) (a : List (Nat × Nat)) : (s.log t v a).freeCtr = s.freeCtr := by rw [State.log_eq]
@[simp] theorem State.log_pending (t : U16) (v : Nat) (a : List (Nat × Nat)) : (s.log t v a).pending = s.pending := by rw [State.log_eq]

@[simp] theorem State.poolEvent_sys (p i k : Nat) (d : List Nat) : (s.poolEvent p i k d).sys = s.sys := by simp [State.poolEvent]
@[simp] theorem State.poolEvent_tab (p i k : Nat) (d : List Nat) : (s.poolEvent p i k d).tab = s.tab := by simp [State.poolEvent]
@[simp] theorem State.poolEvent_dp (p i k : Nat) (d : List Nat) : (s.poolEvent p i k d).dp = s.dp := by simp [State.poolEvent]
@[simp] theorem State.poolEvent_dir (p i k : Nat) (d : List Nat) : (s.poolEvent p i k d).dir = s.dir := by simp [State.poolEvent]
@[simp] theorem State.poolEvent_wq (p i k : Nat) (d : List Nat) : (s.poolEvent p i k d).wq = s.wq := by simp [State.poolEvent]
@[simp] theorem State.poolEvent_trk (p i k : Nat) (d : List Nat) : (s.poolEvent p i k d).trk = s.trk := by simp [State.poolEvent]
@[simp] theorem State.poolEvent_slots (p i k : Nat) (d : List Nat) : (s.poolEvent p i k d).slots = s.slots := by simp [State.poolEvent]
@[simp] theorem State.poolEvent_mgmt (p i k : Nat) (d : List Nat) : (s.poolEvent p i k d).mgmt = s.mgmt := by simp [State.poolEvent]
@[simp] theorem State.poolEvent_freeCtr (p i k : Nat) (d : List Nat) : (s.poolEvent p i k d).freeCtr = s.freeCtr := by simp [State.poolEvent]
@[simp] theorem State.poolEvent_pending (p i k : Nat) (d : List Nat) : (s.poolEvent p i k d).pending = s.pending := by simp [State.poolEvent]

@[simp] theorem State.setMode_tab (m : Mode) : (s.setMode m).tab = s.tab := by unfold State.setMode; split <;> simp
@[simp] theorem State.setMode_dp (m : Mode) : (s.setMode m).dp = s.dp := by unfold State.setMode; split <;> simp
@[simp] theorem State.setMode_dir (m : Mode) : (s.setMode m).dir = s.dir := by unfold State.setMode; split <;> simp
@[simp] theorem State.setMode_wq (m : Mode) : (s.setMode m).wq = s.wq := by unfold State.setMode; split <;> simp
@[simp] theorem State.setMode_edge (m : Mode) : (s.setMode m).edge = s.edge := by unfold State.setMode; split <;> simp
@[simp] theorem State.setMode_trk (m : Mode) : (s.setMode m).trk = s.trk := by unfold State.setMode; split <;> simp
@[simp] theorem State.setMode_slots (m : Mode) : (s.setMode m).slots = s.slots := by unfold State.setMode; split <;> simp
@[simp] theorem State.setMode_mgmt (m : Mode) : (s.setMode m).mgmt = s.mgmt := by unfold State.setMode; split <;> simp
@[simp] theorem State.setMode_freeCtr (m : Mode) : (s.setMode m).freeCtr = s.freeCtr := by unfold State.setMode; split <;> simp
@[simp] theorem State.setMode_pending (m : Mode) : (s.setMode m).pending = s.pending := by unfold State.setMode; split <;> simp

@[simp] theorem State.respond_sys (i : Instr) (c : CmdSrc) (g : BitVec 24) (t r : Nat) (p : List Byte) : (s.respond i c g t r p).sys = s.sys := by unfold State.respond; cases c <;> first | rfl | (dsimp only; split <;> rfl)
@[simp] theorem State.respond_tab (i : Instr) (c : CmdSrc) (g : BitVec 24) (t r : Nat) (p : List Byte) : (s.respond i c g t r p).tab = s.tab := by unfold State.respond; cases c <;> first | rfl | (dsimp only; split <;> rfl)
@[simp] theorem State.respond_dp (i : Instr) (c : CmdSrc) (g : BitVec 24) (t r : Nat) (p : List Byte) : (s.respond i c g t r p).dp = s.dp := by unfold State.respond; cases c <;> first | rfl | (dsimp only; split <;> rfl)
@[simp] theorem State.respond_dir (i : Instr) (c : CmdSrc) (g : BitVec 24) (t r : Nat) (p : List Byte) : (s.respond i c g t r p).dir = s.dir := by unfold State.respond; cases c <;> first | rfl | (dsimp only; split <;> rfl)
@[simp] theorem State.respond_wq (i : Instr) (c : CmdSrc) (g : BitVec 24) (t r : Nat) (p : List Byte) : (s.respond i c g t r p).wq = s.wq := by unfold State.respond; cases c <;> first | rfl | (dsimp only; split <;> rfl)
@[simp] theorem State.respond_edge (i : Instr) (c : CmdSrc) (g : BitVec 24) (t r : Nat) (p : List Byte) : (s.respond i c g t r p).edge = s.edge := by unfold State.respond; cases c <;> first | rfl | (dsimp only; split <;> rfl)
@[simp] theorem State.respond_trk (i : Instr) (c : CmdSrc) (g : BitVec 24) (t r : Nat) (p : List Byte) : (s.respond i c g t r p).trk = s.trk := by unfold State.respond; cases c <;> first | rfl | (dsimp only; split <;> rfl)
@[simp] theorem State.respond_slots (i : Instr) (c : CmdSrc) (g : BitVec 24) (t r : Nat) (p : List Byte) : (s.respond i c g t r p).slots = s.slots := by unfold State.respond; cases c <;> first | rfl | (dsimp only; split <;> rfl)
@[simp] theorem State.respond_freeCtr (i : Instr) (c : CmdSrc) (g : BitVec 24) (t r : Nat) (p : List Byte) : (s.respond i c g t r p).freeCtr = s.freeCtr := by unfold State.respond; cases c <;> first | rfl | (dsimp only; split <;> rfl)
@[simp] theorem State.respond_pending (i : Instr) (c : CmdSrc) (g : BitVec 24) (t r : Nat) (p : List Byte) : (s.respond i c g t r p).pending = s.pending := by unfold State.respond; cases c <;> first | rfl | (dsimp only; split <;> rfl)

@[simp] theorem State.hold_sys (r : Running) (o l : Nat) : (s.hold r o l).sys = s.sys := by unfold State.hold; dsimp only; split <;> rfl
@[simp] theorem State.hold_obs (r : Running) (o l : Nat) : (s.hold r o l).obs = s.obs := by unfold State.hold; dsimp only; split <;> rfl
@[simp] theorem State.hold_tab (r : Running) (o l : Nat) : (s.hold r o l).tab = s.tab := by unfold State.hold; dsimp only; split <;> rfl
@[simp] theorem State.hold_dp (r : Running) (o l : Nat) : (s.hold r o l).dp = s.dp := by unfold State.hold; dsimp only; split <;> rfl
@[simp] theorem State.hold_dir (r : Running) (o l : Nat) : (s.hold r o l).dir = s.dir := by unfold State.hold; dsimp only; split <;> rfl
@[simp] theorem State.hold_wq (r : Running) (o l : Nat) : (s.hold r o l).wq = s.wq := by unfold State.hold; dsimp only; split <;> rfl
@[simp] theorem State.hold_edge (r : Running) (o l : Nat) : (s.hold r o l).edge = s.edge := by unfold State.hold; dsimp only; split <;> rfl
@[simp] theorem State.hold_trk (r : Running) (o l : Nat) : (s.hold r o l).trk = s.trk := by unfold State.hold; dsimp only; split <;> rfl
@[simp] theorem State.hold_slots (r : Running) (o l : Nat) : (s.hold r o l).slots = s.slots := by unfold State.hold; dsimp only; split <;> rfl
@[simp] theorem State.hold_freeCtr (r : Running) (o l : Nat) : (s.hold r o l).freeCtr = s.freeCtr := by unfold State.hold; dsimp only; split <;> rfl
@[simp] theorem State.hold_pending (r : Running) (o l : Nat) : (s.hold r o l).pending = s.pending := by unfold State.hold; dsimp only; split <;> rfl

/-! ### What the journal leaves of its two groups -/

@[simp] theorem State.journal_cfg (a b c : Nat) : (s.journal a b c).mgmt.cfg = s.mgmt.cfg := rfl
@[simp] theorem State.journal_mode (a b c : Nat) : (s.journal a b c).sys.mode = s.sys.mode := rfl
@[simp] theorem State.journal_ft (a b c : Nat) : (s.journal a b c).sys.ft = s.sys.ft := rfl
@[simp] theorem State.setPhase_phase (p : Phase) : (s.setPhase p).mgmt.cfg = { s.mgmt.cfg with phase := p } := rfl
@[simp] theorem State.setPhase_mode (p : Phase) : (s.setPhase p).sys.mode = s.sys.mode := rfl
@[simp] theorem State.setPhase_ft (p : Phase) : (s.setPhase p).sys.ft = s.sys.ft := rfl

end Sys2Proof.Machine
end

