-- ==== Sys2Proof/Laws/Command.lean ====
section
/-! SUPPORT. What a management command that Bolroth takes at once does, whatever its action. -/

namespace Sys2Proof.Machine

variable {s : State}

/-- Whether a command is refused hangs on the tables, the mode and the commands in execution alone. -/
theorem State.refusal_congr {s t : State} (h : CmdHdr) (c : CmdSpec) (e1 : t.tab = s.tab) (e2 : t.sys.mode = s.sys.mode)
    (e3 : t.mgmt.running = s.mgmt.running) : t.refusal h c = none ↔ s.refusal h c = none := by
  have f1 : t.isFm = s.isFm := by funext x; cases x <;> simp [State.isFm, e1]
  have f2 : t.ownsTenant = s.ownsTenant := by
    funext x n
    cases x <;> simp [State.ownsTenant, State.bank, e1]
  have f3 : t.modeAccepts = s.modeAccepts := by funext x; simp [State.modeAccepts, e2]
  have f4 : t.holder = s.holder := by funext x; cases x <;> simp [State.holder, e3]
  unfold State.refusal
  simp only [f1, f2, f3, f4, e1]
  generalize (match h.src with
    | .trunk _ => !s.tab.policy.trunkFm
    | _ => false) = a
  generalize (match c.scope with
    | .tenant n => !s.ownsTenant h.src n
    | _ => false) = b
  generalize s.holder c.object = o
  repeat' split
  all_goals simp_all

/-- A ticket changes nothing that the checks of a command look at. -/
theorem State.refusal_ticketed (h : CmdHdr) (c : CmdSpec) : (s.ticketed h).refusal h c = none ↔ s.refusal h c = none :=
  State.refusal_congr h c rfl rfl rfl

/-- A ticket leaves the management function's event logs. -/
@[simp] theorem State.ticketed_mgmtLogs (h : CmdHdr) : (s.ticketed h).obs.mgmtLogs = s.obs.mgmtLogs := rfl

/-- A command that Bolroth takes at once gets its ticket and runs. -/
theorem State.takes_execute {i : Instr} {h : CmdHdr} {c : CmdSpec} (ht : s.takes i h c) (run : State → Nat → CmdRes) :
    s.start.command i h c none run = (s.ticketed h).execute i h c (s.ticketOf h.src) run := by
  obtain ⟨h1, h2, h3, h4, h5, h6, h7, h8⟩ := ht
  have a : s.start.mgmt.running.find? (·.src == h.src) = none := by
    rw [List.find?_eq_none]
    intro r hr
    simpa using (h4 r hr).1
  have b : (s.start.mgmt.stored.find? fun r => r.src == h.src && r.tag == h.tag && r.instr == i
      && decide (s.start.sys.ft ≤ r.done + 1000000000)) = none := by
    rw [List.find?_eq_none]
    intro r hr
    simp only [Bool.and_eq_true, beq_iff_eq]
    rintro ⟨⟨⟨x, y⟩, z⟩, w⟩
    exact absurd (of_decide_eq_true w) (Nat.not_le_of_lt (h5 r hr x y z))
  have d : s.start.mgmt.running.all (·.started) = true := by
    rw [List.all_eq_true]
    intro r hr
    exact (h4 r hr).2
  unfold State.command
  rw [if_neg (by simp [h1, h2])]
  simp only [State.start_mgmt] at a b d
  simp only [State.start_mgmt, h3, a, b]
  have e : (s.start.issueTicket h.src).1 = (s.ticketOf h.src) := rfl
  have f2 : ((s.start.issueTicket h.src).2.executorFree && (s.start.issueTicket h.src).2.mgmt.running.all (·.started)) = true := by
    have g : (s.start.issueTicket h.src).2.executorFree = s.executorFree := rfl
    rw [g, h7]
    exact d
  show (if (s.start.issueTicket h.src).2.sys.handover.isSome = true then _ else _) = _
  rw [if_neg (by simp [h6]), if_pos f2]
  rfl

/-- A command without INTENT that ends at once is answered. -/
theorem State.takes_done {i : Instr} {h : CmdHdr} {c : CmdSpec} (ht : s.takes i h c) (hc : c.changes = false)
    (run : State → Nat → CmdRes) (t : State) (code : Nat) (p : List Byte)
    (hr : run (s.ticketed h) (s.ticketOf h.src) = .done t code p) :
    s.start.command i h c none run = t.respond i h.src h.tag (s.ticketOf h.src) code p := by
  rw [State.takes_execute ht]
  unfold State.execute
  rw [(State.refusal_ticketed h c).2 ht.2.2.2.2.2.2.2]
  simp only [hc, hr, Bool.false_eq_true, if_false, false_and]

/-- A command that changes nothing and ends at once is answered. -/
theorem State.takes_read {i : Instr} {h : CmdHdr} {c : CmdSpec} (ht : s.takes i h c) (hc : c.changes = false)
    (run : State → Nat → CmdRes) (code : Nat) (p : List Byte)
    (hr : run (s.ticketed h) (s.ticketOf h.src) = .done (s.ticketed h) code p) :
    s.start.command i h c none run = s.answered i h code p :=
  State.takes_done ht hc run _ code p hr

/-- A command that changes state and ends well leaves its INTENT record, its change, its END record and its answer. -/
theorem State.takes_change {i : Instr} {h : CmdHdr} {c : CmdSpec} (ht : s.takes i h c) (hc : c.changes = true)
    (run : State → Nat → CmdRes) (t : State) (code : Nat) (p : List Byte) (hcode : code = rcSuccess)
    (hr : run (s.intended h) (s.ticketOf h.src) = .done t code p) :
    s.start.command i h c none run = s.ended t i h code p := by
  rw [State.takes_execute ht]
  unfold State.execute
  rw [(State.refusal_ticketed h c).2 ht.2.2.2.2.2.2.2]
  have : run ((s.ticketed h).journal 1 (s.ticketOf h.src)) (s.ticketOf h.src) = .done t code p := hr
  simp only [hc, if_true, this]
  rw [if_neg (by simp [hcode])]
  rfl

/-- An L command that starts holds its source until it completes. -/
theorem State.takes_wait {i : Instr} {h : CmdHdr} {c : CmdSpec} (ht : s.takes i h c) (hc : c.changes = true)
    (run : State → Nat → CmdRes) (t : State) (hr : run (s.intended h) (s.ticketOf h.src) = .wait t) :
    s.start.command i h c none run = s.waiting t i h c := by
  rw [State.takes_execute ht]
  unfold State.execute
  rw [(State.refusal_ticketed h c).2 ht.2.2.2.2.2.2.2]
  have : run ((s.ticketed h).journal 1 (s.ticketOf h.src)) (s.ticketOf h.src) = .wait t := hr
  simp only [State.waiting, hc, if_true, this]

/-- A commit that validation turns down keeps what it wrote of its phases, and is ended and answered (R384). -/
theorem State.takes_failed {i : Instr} {h : CmdHdr} {c : CmdSpec} (ht : s.takes i h c) (hc : c.changes = true)
    (run : State → Nat → CmdRes) (t : State) (code : Nat) (p : List Byte)
    (hr : run (s.intended h) (s.ticketOf h.src) = .failed t code p) :
    s.start.command i h c none run = s.ended t i h code p := by
  rw [State.takes_execute ht]
  unfold State.execute
  rw [(State.refusal_ticketed h c).2 ht.2.2.2.2.2.2.2]
  have : run ((s.ticketed h).journal 1 (s.ticketOf h.src)) (s.ticketOf h.src) = .failed t code p := hr
  simp only [hc, if_true, this]
  rfl

/-- A command that its own rules turn away leaves no INTENT record, and is answered. -/
theorem State.takes_refuse {i : Instr} {h : CmdHdr} {c : CmdSpec} (ht : s.takes i h c) (hc : c.changes = true)
    (run : State → Nat → CmdRes) (code : Nat) (p : List Byte) (hcode : code ≠ rcSuccess)
    (hr : run (s.intended h) (s.ticketOf h.src) = .done (s.intended h) code p) :
    s.start.command i h c none run = s.answered i h code p := by
  rw [State.takes_execute ht]
  unfold State.execute
  rw [(State.refusal_ticketed h c).2 ht.2.2.2.2.2.2.2]
  have : run ((s.ticketed h).journal 1 (s.ticketOf h.src)) (s.ticketOf h.src) = .done (s.intended h) code p := hr
  simp only [hc, if_true, this]
  rw [if_pos ⟨trivial, hcode⟩]
  rfl

end Sys2Proof.Machine
end

