-- ==== Sys2Proof/Laws/Fold.lean ====
section
/-! SUPPORT. What a fold over a list keeps. -/

namespace Sys2Proof.Laws

/-- A fold whose steps keep p keeps p. -/
theorem foldl_keep {σ α β : Type} (p : σ → β) {f : σ → α → σ} (h : ∀ s x, p (f s x) = p s) (l : List α) (s : σ) :
    p (l.foldl f s) = p s := by
  induction l generalizing s with
  | nil => rfl
  | cons x l ih => rw [List.foldl_cons, ih, h]

/-- A fold whose steps keep a property keeps it. -/
theorem foldl_inv {σ α : Type} (P : σ → Prop) {f : σ → α → σ} (h : ∀ s x, P s → P (f s x)) (l : List α) (s : σ) (h0 : P s) :
    P (l.foldl f s) := by
  induction l generalizing s with
  | nil => exact h0
  | cons x l ih => exact ih _ (h s x h0)

end Sys2Proof.Laws
end

