-- ==== Sys2Proof/Laws/Modes.lean ====
section
/-! SUPPORT. The mode and the retired units: what `setMode`, `settleMode` and `startTrunk` do. -/

namespace Sys2Proof.Machine

variable {s : State}

/-- A change of mode changes the mode, and no other field of the group. -/
@[simp] theorem State.setMode_sys (m : Mode) : (s.setMode m).sys = { s.sys with mode := m } := by
  unfold State.setMode
  split
  · rename_i h; rw [← h]
  · simp

/-- The retired units hang on the directory, the trunks, the ports, the pairs and the die-to-die links alone. -/
theorem State.retiredWord_congr {t u : State} (h1 : t.dir.retired = u.dir.retired) (h2 : t.trk = u.trk) (h3 : t.edge = u.edge)
    (h4 : t.sys.pairRetired = u.sys.pairRetired) (h5 : t.sys.dieLost = u.sys.dieLost) : t.retiredWord = u.retiredWord := by
  unfold State.retiredWord State.membersRetired State.port State.trunk
  rw [h1, h2, h3, h4, h5]

/-- A change of mode retires no unit. -/
@[simp] theorem State.setMode_retiredWord (m : Mode) : (s.setMode m).retiredWord = s.retiredWord :=
  State.retiredWord_congr (by simp) (by simp) (by simp) (by simp) (by simp)

/-- A change of mode does not change which of SERVICE and DEGRADED is due. -/
@[simp] theorem State.setMode_serviceMode (m : Mode) : (s.setMode m).serviceMode = s.serviceMode := by
  unfold State.serviceMode; rw [State.setMode_retiredWord]

/-- From SERVICE or DEGRADED the mode settles on the one that is due, and otherwise stays. -/
theorem State.settleMode_sys : s.settleMode.sys = { s.sys with mode :=
    if s.sys.mode = .service ∨ s.sys.mode = .degraded then s.serviceMode else s.sys.mode } := by
  unfold State.settleMode
  split
  · simp
  · rfl

@[simp] theorem State.startTrunk_sys (t : Nat) : (s.startTrunk t).sys = s.sys := by
  unfold State.startTrunk; split <;> rfl
@[simp] theorem State.startTrunk_edge (t : Nat) : (s.startTrunk t).edge = s.edge := by
  unfold State.startTrunk; split <;> rfl
@[simp] theorem State.startTrunk_dir (t : Nat) : (s.startTrunk t).dir = s.dir := by
  unfold State.startTrunk; split <;> rfl

/-- The check of the archive slots touches the archives, the crossbar's bytes and the copies' differing bits alone. -/
theorem State.checkArchives_keep {α : Type} (p : State → α)
    (h : ∀ (t : State) a m f g, p { t with obs.archives := a, mgmt.store := m, dir.flip0 := f, dir.flip1 := g } = p t) :
    p s.checkArchives = p s := by
  refine Laws.foldl_keep p (fun t k => ?_) _ s
  split
  · rfl
  · exact h t _ _ _ _

end Sys2Proof.Machine
end

