-- ==== Sys2Proof/Laws/Face.lean ====
section
/-! SUPPORT. What the invariant of the pins and the mode looks at, and what leaves it as it is. -/

namespace Sys2Proof.Machine

variable {s : State}

/-- What `State.inv` looks at. -/
def State.face (s : State) : Pins × Mode × Bool × Bool × Nat :=
  (s.sys.pins, s.sys.mode, s.sys.thermal.warn, s.sys.thermal.trip, s.retiredWord)

/-- The state that a command's action leads to. -/
def CmdRes.state : CmdRes → State
  | .done s _ _ => s
  | .wait s => s
  | .failed s _ _ => s

/-- States of one face agree on the invariant. -/
theorem State.inv_congr {t : State} (h : t.face = s.face) : t.inv ↔ s.inv := by
  simp only [State.face, Prod.mk.injEq] at h
  obtain ⟨h1, h2, h3, h4, h5⟩ := h
  simp only [State.inv, State.pinsAgree, State.modeAgrees, State.pinsNow, h1, h2, h3, h4, h5]

theorem State.face_congr {t u : State} (h : t.sys = u.sys) (h1 : t.dir = u.dir) (h2 : t.trk = u.trk)
    (h3 : t.edge = u.edge) : t.face = u.face := by
  unfold State.face
  rw [State.retiredWord_congr (by rw [h1]) h2 h3 (by rw [h]) (by rw [h]), h]

theorem State.face_sys {t u : State} (h : t.sys.pins = u.sys.pins) (h4 : t.sys.mode = u.sys.mode)
    (h5 : t.sys.thermal.warn = u.sys.thermal.warn) (h6 : t.sys.thermal.trip = u.sys.thermal.trip)
    (h7 : t.sys.pairRetired = u.sys.pairRetired) (h8 : t.sys.dieLost = u.sys.dieLost)
    (h1 : t.dir.retired = u.dir.retired) (h2 : t.trk = u.trk)
    (h3 : t.edge = u.edge) : t.face = u.face := by
  unfold State.face
  rw [State.retiredWord_congr h1 h2 h3 h7 h8, h, h4, h5, h6]

@[simp] theorem State.emit_face (o : Out) : (s.emit o).face = s.face := State.face_congr rfl rfl rfl rfl
@[simp] theorem State.start_face : s.start.face = s.face := State.face_congr rfl rfl rfl rfl
@[simp] theorem State.free_face : s.free.2.face = s.face := State.face_congr rfl rfl rfl rfl
@[simp] theorem State.byteValues_face (l : List (Option Byte)) : (s.byteValues l).2.face = s.face := by
  unfold State.byteValues
  rcases h : (l.any (·.isNone)) <;> simp
@[simp] theorem State.countPort_face (p i : Nat) : (s.countPort p i).face = s.face := State.face_congr rfl rfl rfl rfl
@[simp] theorem State.countTrunk_face (p i : Nat) : (s.countTrunk p i).face = s.face := State.face_congr rfl rfl rfl rfl
@[simp] theorem State.countGlobal_face (g : Nat) : (s.countGlobal g).face = s.face := State.face_congr rfl rfl rfl rfl
@[simp] theorem State.countRefused_face (c : CmdSrc) : (s.countRefused c).face = s.face := by cases c <;> simp [State.countRefused]
@[simp] theorem State.issueTicket_face (c : CmdSrc) : (s.issueTicket c).2.face = s.face := State.face_congr rfl rfl rfl rfl
@[simp] theorem State.log_face (t : U16) (v : Nat) (a : List (Nat × Nat)) : (s.log t v a).face = s.face :=
  State.face_congr (by simp) (by simp) (by simp) (by simp)
@[simp] theorem State.journal_face (a b c : Nat) : (s.journal a b c).face = s.face :=
  State.face_sys rfl rfl rfl rfl rfl rfl rfl rfl rfl
@[simp] theorem State.respond_face (i : Instr) (c : CmdSrc) (g : BitVec 24) (t r : Nat) (p : List Byte) :
    (s.respond i c g t r p).face = s.face := State.face_congr (by simp) (by simp) (by simp) (by simp)
@[simp] theorem State.hold_face (r : Running) (o l : Nat) : (s.hold r o l).face = s.face :=
  State.face_congr (by simp) (by simp) (by simp) (by simp)
@[simp] theorem State.mgmt_face (m : Mgmt) : ({ s with mgmt := m } : State).face = s.face := State.face_congr rfl rfl rfl rfl
@[simp] theorem State.updI3c_face (k : Fin 2) (f : I3c → I3c) : (s.updI3c k f).face = s.face :=
  State.face_congr (by simp) (by simp) (by simp) (by simp)

/-- A refusal counts at most. -/
theorem State.refusal_face {h : CmdHdr} {c : CmdSpec} {r : State × Nat × List Byte} (e : s.refusal h c = some r) :
    r.1.face = s.face := by
  unfold State.refusal at e
  dsimp only at e
  repeat' split at e
  all_goals first
    | (cases e; simp)
    | cases e

/-- Executing a command leaves the face as its action does. -/
theorem State.execute_face (i : Instr) (h : CmdHdr) (c : CmdSpec) (k : Nat) (run : State → Nat → CmdRes)
    (hr : ∀ t n, (run t n).state.face = t.face) : (s.execute i h c k run).face = s.face := by
  unfold State.execute
  split
  · rename_i e; simpa using State.refusal_face e
  · have a := hr (if c.changes = true then s.journal 1 k else s) k
    have b : (if c.changes = true then s.journal 1 k else s).face = s.face := by split <;> simp
    split <;> rename_i e <;> rw [e] at a <;> simp only [CmdRes.state] at a
    · split
      · simp
      · split <;> simpa using a.trans b
    · split <;> simpa using a.trans b
    · simpa using a.trans b

/-- A command leaves the face as its action does. -/
theorem State.command_face (i : Instr) (h : CmdHdr) (c : CmdSpec) (run : State → Nat → CmdRes)
    (hr : ∀ t n, (run t n).state.face = t.face) : (s.command i h c none run).face = s.face := by
  unfold State.command
  split
  · rfl
  split
  · rw [State.execute_face _ _ _ _ _ hr]; simp
  split
  · split <;> simp
  split
  · simp
  dsimp only
  split
  · simp
  split
  · rw [State.execute_face _ _ _ _ _ hr]; simp
  · simp

/-- Taking up the duration events leaves the face. -/
@[simp] theorem State.updateConds_face : s.updateConds.face = s.face := by
  unfold State.updateConds; dsimp only; exact State.face_congr rfl rfl rfl rfl
/-- Choosing the leader leaves the face. -/
@[simp] theorem State.settleLeader_face : s.settleLeader.face = s.face := by
  unfold State.settleLeader; dsimp only; exact State.face_sys rfl rfl rfl rfl rfl rfl rfl rfl rfl

/-- After `settleMode` the mode agrees with the retired units. -/
theorem State.settleMode_modeAgrees : s.settleMode.modeAgrees := by
  have h : s.settleMode.retiredWord = s.retiredWord := by
    unfold State.settleMode; split <;> simp
  unfold State.modeAgrees
  rw [h, State.settleMode_sys]
  dsimp only
  by_cases a : s.sys.mode = .service ∨ s.sys.mode = .degraded
  · rw [if_pos a]; unfold State.serviceMode; split <;> simp_all
  · rw [if_neg a]; rw [not_or] at a; exact ⟨fun x => absurd x a.1, fun x => absurd x a.2⟩

/-- States of one face agree on the mode. -/
theorem State.modeAgrees_congr {t : State} (h : t.face = s.face) : t.modeAgrees ↔ s.modeAgrees := by
  simp only [State.face, Prod.mk.injEq] at h
  obtain ⟨h1, h2, h3, h4, h5⟩ := h
  simp only [State.modeAgrees, h2, h5]

/-- Driving the pins by the state makes the invariant of a mode that agrees. -/
theorem State.pinned_inv (h : s.modeAgrees) : ({ s with sys.pins := s.pinsNow } : State).inv := by
  have hr : ({ s with sys.pins := s.pinsNow } : State).retiredWord = s.retiredWord := State.retiredWord_congr rfl rfl rfl rfl rfl
  refine ⟨rfl, ?_⟩
  unfold State.modeAgrees at h ⊢
  rw [hr]
  exact h

/-- `refresh` leaves the invariant, whatever it starts from. -/
theorem State.refresh_inv : s.refresh.inv := by
  unfold State.refresh
  generalize ((s.expireDebug.settleMembers.checkStandby .a).checkStandby .b) = u
  apply State.pinned_inv
  rw [State.modeAgrees_congr State.updateConds_face, State.modeAgrees_congr State.settleLeader_face]
  exact State.settleMode_modeAgrees

/-- So does `finish`. -/
theorem State.finish_inv : s.finish.inv := by
  unfold State.finish; dsimp only; exact State.refresh_inv

theorem act_inv {f : State → State} {t : State} (h : act f s = .next t) : t.inv := by
  unfold act at h; injection h with h; rw [← h]; exact State.finish_inv

theorem quiet_inv {f : State → State} {t : State} (h : quiet f s = .next t) : t.inv := by
  unfold quiet at h; injection h with h; rw [← h]; exact State.refresh_inv

/-- A command from which nothing further follows keeps the invariant if its effect leaves the face. -/
theorem plain_inv {f : State → State} (hf : ∀ u : State, (f u).face = u.face) {t : State} (hs : s.inv)
    (h : plain f s = .next t) : t.inv := by
  unfold plain at h; injection h with h; rw [← h, State.inv_congr (hf _), State.inv_congr State.start_face]; exact hs
/-! ### The forms of plain commands -/

@[simp] theorem State.obs_face (o : Obs) : ({ s with obs := o } : State).face = s.face := State.face_congr rfl rfl rfl rfl
@[simp] theorem State.tab_face (o : Tables) : ({ s with tab := o } : State).face = s.face := State.face_congr rfl rfl rfl rfl
@[simp] theorem State.updPair_face (p : Pair) (f : PairRegs → PairRegs) : (s.updPair p f).face = s.face := by
  cases p <;> exact State.face_sys rfl rfl rfl rfl rfl rfl rfl rfl rfl
/-- The ports alone count of the edge. -/
theorem State.edge_face (e : Edge) (h : e.ports = s.edge.ports) : ({ s with edge := e } : State).face = s.face := by
  unfold State.face State.retiredWord State.membersRetired State.port State.trunk; dsimp only; rw [h]

@[simp] theorem State.setLogs_face (t : EventTarget) (l : EventLogs) : (s.setLogs t l).face = s.face := by
  cases t
  · simp [State.setLogs]
  · exact State.edge_face _ rfl
@[simp] theorem State.effectsLog_face (t : EventTarget) : (s.effectsLog t).1.face = s.face := by
  unfold State.effectsLog
  exact Laws.foldl_keep (fun a : State × List Byte => a.1.face) (by intro a x; simp) _ _
@[simp] theorem State.poolAnswer_face (p c : Nat) (l : List Byte) : (s.poolAnswer p c l).face = s.face := State.emit_face _
@[simp] theorem State.tapLoad_face (i : TapInstr) : (s.tapLoad i).face = s.face := by unfold State.tapLoad; split <;> simp
@[simp] theorem State.slotTicks_face : s.slotTicks.face = s.face := by
  unfold State.slotTicks; dsimp only; split
  · rfl
  · exact State.face_congr rfl rfl rfl rfl
@[simp] theorem State.spdmError_face (q : SpdmSrc) (c : Nat) : (s.spdmError q c).face = s.face := State.emit_face _

theorem State.poolCommand_face (p : PoolHdr) (run : State → State) (h : ∀ u, (run u).face = u.face) :
    (s.poolCommand p run).face = s.face := by
  unfold State.poolCommand; dsimp only; repeat' split
  all_goals simp [h]
theorem State.eventCommand_face (i : Instr) (t : EventTarget) (o l : Nat) (c b : Bool) (run : State → State × List Byte)
    (h : ∀ u, (run u).1.face = u.face) : (s.eventCommand i t o l c b run).face = s.face := by
  unfold State.eventCommand
  split
  · exact State.command_face _ _ _ _ fun t _ => h t
  · exact State.poolCommand_face _ _ fun t => by simp [h]
theorem State.ccc_face (k : Fin 2) (a : Bool) (run : State → State) (h : ∀ u, (run u).face = u.face) :
    (s.ccc k a run).face = s.face := by
  unfold State.ccc; split <;> simp [h]
@[simp] theorem State.cccRead_face (k : Fin 2) (f : State → List Byte) : (s.cccRead k f).face = s.face :=
  State.ccc_face _ _ _ fun _ => by simp
theorem State.spdm_face (q : SpdmSrc) (n : Bool) (run : State → State) (h : ∀ u, (run u).face = u.face) :
    (s.spdm q n run).face = s.face := by
  unfold State.spdm; dsimp only; repeat' split
  all_goals simp [h]
theorem State.inSession_face (q : SpdmSrc) (k : Nat) (n : Bool) (run : State → State) (h : ∀ u, (run u).face = u.face) :
    (s.inSession q k n run).face = s.face :=
  State.spdm_face _ _ _ fun u => by dsimp only; split <;> simp [h]

end Sys2Proof.Machine
end

