-- ==== Sys2Proof/Laws/Tbl.lean ====
section
/-! SUPPORT. The laws of tables: a read after a write, and that every write keeps the one canonical form. -/

namespace Sys2Proof.Machine

variable {α : Type} [DecidableEq α] {d : α}

theorem cellsGet_set_same (k : Nat) (v : α) : ∀ l : List (Nat × α), ∀ lo, cellsOk d lo l = true →
    (cellsGet k (cellsSet d k v l)).getD d = v
  | [], _, _ => by
    unfold cellsSet
    split <;> simp_all [cellsGet]
  | (j, w) :: rest, lo, h => by
    have hr : cellsOk d (some j) rest = true := by
      simp only [cellsOk, Bool.and_eq_true] at h
      exact h.2
    unfold cellsSet
    split
    · rename_i hj
      simp only [cellsGet, Nat.ne_of_lt hj, if_false]
      exact cellsGet_set_same k v rest _ hr
    · split
      · rename_i hj
        split
        · rename_i hv
          rw [cellsGet_absent k rest j hr (by omega), hv]
          rfl
        · simp [cellsGet]
      · split
        · rename_i hj hk hv
          have : j ≠ k := hk
          simp only [cellsGet, this, if_false]
          rw [cellsGet_absent k rest j hr (by omega), hv]
          rfl
        · simp [cellsGet]
where
  /-- A key not above the bound of a rising list is not listed. -/
  cellsGet_absent (k : Nat) : ∀ (l : List (Nat × α)) (lo : Nat), cellsOk d (some lo) l = true → k ≤ lo →
      cellsGet k l = none
    | [], _, _, _ => rfl
    | (j, w) :: rest, lo, h, hk => by
      simp only [cellsOk, Bool.and_eq_true, decide_eq_true_eq] at h
      have : j ≠ k := by omega
      simp only [cellsGet, this, if_false]
      exact cellsGet_absent k rest j h.2 (by omega)

theorem cellsGet_set_other (k i : Nat) (v : α) (hi : i ≠ k) : ∀ l : List (Nat × α),
    cellsGet i (cellsSet d k v l) = cellsGet i l
  | [] => by
    unfold cellsSet
    split <;> simp [cellsGet, hi.symm]
  | (j, w) :: rest => by
    unfold cellsSet
    split
    · simp only [cellsGet]
      rw [cellsGet_set_other k i v hi rest]
    · split
      · rename_i hj
        have : j ≠ i := by omega
        split <;> simp [cellsGet, this, hi.symm]
      · split <;> simp [cellsGet, hi.symm]

theorem cellsOk_set (k : Nat) (v : α) : ∀ (l : List (Nat × α)) (lo : Option Nat), cellsOk d lo l = true →
    (∀ n, lo = some n → n < k) → cellsOk d lo (cellsSet d k v l) = true
  | [], lo, _, hlo => by
    unfold cellsSet
    split
    · rfl
    · cases lo with
      | none => simp_all [cellsOk]
      | some n => simp_all [cellsOk]
  | (j, w) :: rest, lo, h, hlo => by
    simp only [cellsOk, Bool.and_eq_true, decide_eq_true_eq] at h
    unfold cellsSet
    split
    · rename_i hj
      simp only [cellsOk, Bool.and_eq_true, decide_eq_true_eq]
      exact ⟨⟨h.1.1, h.1.2⟩, cellsOk_set k v rest (some j) h.2 (by intro n hn; cases hn; exact hj)⟩
    · split
      · rename_i hj
        subst hj
        split
        · exact cellsOk_weaken rest lo j h.2 (by
            intro n hn
            have := h.1.1
            rw [hn] at this
            simpa using this)
        · rename_i hv
          simp only [cellsOk, Bool.and_eq_true, decide_eq_true_eq]
          exact ⟨⟨h.1.1, hv⟩, h.2⟩
      · split
        · simp only [cellsOk, Bool.and_eq_true, decide_eq_true_eq]
          exact h
        · rename_i hj hk hv
          simp only [cellsOk, Bool.and_eq_true, decide_eq_true_eq]
          refine ⟨⟨?_, hv⟩, ⟨?_, h.1.2⟩, h.2⟩
          · cases lo with
            | none => rfl
            | some n => simpa using hlo n rfl
          · omega
where
  /-- A rising list above j also rises above anything below j. -/
  cellsOk_weaken (l : List (Nat × α)) (lo : Option Nat) (j : Nat) (h : cellsOk d (some j) l = true)
      (hlo : ∀ n, lo = some n → n < j) : cellsOk d lo l = true := by
    cases l with
    | nil => rfl
    | cons c rest =>
      obtain ⟨i, w⟩ := c
      simp only [cellsOk, Bool.and_eq_true, decide_eq_true_eq] at h ⊢
      refine ⟨⟨?_, h.1.2⟩, h.2⟩
      cases lo with
      | none => rfl
      | some n => have := hlo n rfl; simp; omega

/-- Reading the entry just written gives the value written. -/
theorem Tbl.get_set_same (t : Tbl d) (k : Nat) (v : α) (h : t.wf = true) : (t.set k v).get k = v :=
  cellsGet_set_same k v t.cells none h

/-- A write leaves every other entry as it was. -/
@[simp] theorem Tbl.get_set_other (t : Tbl d) (k i : Nat) (v : α) (hi : i ≠ k) : (t.set k v).get i = t.get i := by
  unfold Tbl.get Tbl.set
  rw [cellsGet_set_other k i v hi]

/-- Every write keeps the canonical form. -/
theorem Tbl.wf_set (t : Tbl d) (k : Nat) (v : α) (h : t.wf = true) : (t.set k v).wf = true :=
  cellsOk_set k v t.cells none h (by intro n hn; cases hn)

theorem Tbl.wf_upd (t : Tbl d) (k : Nat) (f : α → α) (h : t.wf = true) : (t.upd k f).wf = true := Tbl.wf_set t k _ h

/-- Entry k after it has been changed by f. -/
theorem Tbl.get_upd_same (t : Tbl d) (k : Nat) (f : α → α) (h : t.wf = true) : (t.upd k f).get k = f (t.get k) :=
  Tbl.get_set_same t k _ h

@[simp] theorem Tbl.get_upd_other (t : Tbl d) (k i : Nat) (f : α → α) (hi : i ≠ k) : (t.upd k f).get i = t.get i :=
  Tbl.get_set_other t k i _ hi

omit [DecidableEq α] in
@[simp] theorem Tbl.get_empty (k : Nat) : (Tbl.empty : Tbl d).get k = d := rfl

@[simp] theorem Tbl.wf_empty : (Tbl.empty : Tbl d).wf = true := rfl

omit [DecidableEq α] in
/-- An index that is not listed holds the default. -/
theorem Tbl.get_of_not_key (t : Tbl d) (k : Nat) (h : k ∉ t.keys) : t.get k = d := by
  have hk : ∀ l : List (Nat × α), k ∉ l.map (·.1) → cellsGet k l = none := by
    intro l
    induction l with
    | nil => intro _; rfl
    | cons c l ih =>
      intro hn
      simp only [List.map_cons, List.mem_cons, not_or] at hn
      unfold cellsGet
      rw [if_neg (fun e => hn.1 e.symm)]
      exact ih hn.2
  unfold Tbl.get
  rw [hk t.cells h]
  rfl

/-- The keys above a bound: none of them is the bound or below it. -/
theorem cellsOk_above : ∀ (l : List (Nat × α)) (lo k : Nat), cellsOk d (some lo) l = true → k ∈ l.map (·.1) → lo < k
  | [], _, _, _, hk => by simp at hk
  | (j, w) :: rest, lo, k, h, hk => by
    simp only [cellsOk, Bool.and_eq_true, decide_eq_true_eq] at h
    simp only [List.map_cons, List.mem_cons] at hk
    rcases hk with rfl | hk
    · exact h.1.1
    · exact Nat.lt_trans h.1.1 (cellsOk_above rest j k h.2 hk)

/-- In a table in canonical form, the indices found are the listed ones whose value satisfies the condition. -/
theorem Tbl.mem_find (t : Tbl d) (p : Nat → α → Bool) (k : Nat) (h : t.wf = true) :
    k ∈ t.find p ↔ k ∈ t.keys ∧ p k (t.get k) = true := by
  have key : ∀ (l : List (Nat × α)) (lo : Option Nat), cellsOk d lo l = true →
      (k ∈ (l.filter fun c => p c.1 c.2).map (·.1) ↔ k ∈ l.map (·.1) ∧ p k ((cellsGet k l).getD d) = true) := by
    intro l
    induction l with
    | nil => intro _ _; simp
    | cons c l ih =>
      intro lo hl
      obtain ⟨j, w⟩ := c
      simp only [cellsOk, Bool.and_eq_true] at hl
      have hrest := ih (some j) hl.2
      by_cases hj : j = k
      · subst hj
        have hnot : j ∉ l.map (·.1) := fun hm => Nat.lt_irrefl _ (cellsOk_above l j j hl.2 hm)
        have hnot2 : j ∉ (l.filter fun c => p c.1 c.2).map (·.1) := fun hm => hnot (hrest.1 hm).1
        simp only [List.filter_cons, cellsGet, if_true, List.map_cons, List.mem_cons, true_or, true_and, Option.getD_some]
        by_cases hp : p j w = true
        · simp [hp]
        · simp only [hp, if_neg, Bool.false_eq_true, iff_false, not_false_eq_true]
          simpa using hnot2
      · have hk : k ≠ j := fun e => hj e.symm
        simp only [cellsGet, hj, if_false, List.map_cons, List.mem_cons, hk, false_or]
        rw [← hrest]
        simp only [List.filter_cons]
        split
        · simp [hk]
        · rfl
  exact key t.cells none h

/-- A table filled from a list of indices holds the values given there. -/
theorem Tbl.get_foldl_set (f : Nat → α) (k : Nat) : ∀ (ks : List Nat) (t : Tbl d), t.wf = true →
    ((ks.foldl (fun t i => t.set i (f i)) t).get k = if k ∈ ks then f k else t.get k)
      ∧ (ks.foldl (fun t i => t.set i (f i)) t).wf = true
  | [], t, h => by simp [h]
  | i :: ks, t, h => by
    have ih := Tbl.get_foldl_set f k ks (t.set i (f i)) (t.wf_set i (f i) h)
    refine ⟨?_, ih.2⟩
    rw [List.foldl_cons, ih.1]
    by_cases hk : k ∈ ks
    · simp [hk]
    · by_cases hi : k = i
      · subst hi; simp [hk, t.get_set_same k (f k) h]
      · simp [hk, hi]

end Sys2Proof.Machine
end

