-- ==== Sys2Proof/Tests/Slice0.lean ====
section
/-! SUPPORT. Tests: ill-formed commands that the bounds refuse, one step of commands on small states with the results the
spec states, and for every statement with hypotheses a state and operands that meet them. What rests on a signature or a
hash of the spec's cryptography cannot be decided here, as that is left open (log entry 56): the witnesses then meet the other
hypotheses. -/

namespace Sys2Proof.Tests

open Sys2Proof Sys2Proof.Machine

set_option Elab.async false

/-! ### States to test on -/

/-- In SERVICE with pair A ACTIVE and every rail good. -/
def up : State := { State.reset with sys.mode := .service, sys.pairA := .active, sys.railPg := 0xF, sys.served := true }
/-- A command of the fabric manager. -/
def fm : CmdHdr := { src := .i3c 0 }
/-- `up` with port 3 as given. -/
def withPort (k : PortState) : State := up.updPort 3 fun _ => k
/-- `up` with port 3 a HOST port with its link up and a PORT record. -/
def hostUp : State := { withPort { role := .host, dlUp := true, width := 4, widthNow := 4, flit := 3, busMaster := true } with
  tab.ports := up.tab.ports.set 3 { present := true, role := .host, width := 4, txnQuota := 100, cellLimit := List.replicate 8 100 } }
/-- `up` with trunk 2 as given. -/
def withTrunk (k : Trunk) : State := up.updTrunk 2 fun _ => k
/-- `up` with queue pair 5 as given. -/
def withQp (k : Qp) : State := up.updQp 5 fun _ => k
/-- `hostUp` with queue pair 5 of that port as given. -/
def hostQp (k : Qp) : State := hostUp.updQp 5 fun _ => { k with hostPort := 3, state := .enabled }
/-- `up` with migration slot 7 as given. -/
def withMig (m : MigSlot) : State := up.updMig 7 fun _ => m
/-- `up` with slot-power channel 3 as given. -/
def withChan (c : Channel) : State := up.updChan 3 fun _ => c
/-- `up` with member port 3, whose enabled slot-power channel is as given. -/
def withSlot (c : Channel) : State := { (withPort { role := .poolMember }).updChan 3 fun _ => { c with role := .poolMember } with
  slots.params := up.slots.params.set 3 { present := true, enable := true } }
/-- `up` with transaction 9 as given. -/
def withTxn (t : Txn) : State := up.putTxn 9 t
/-- `up` with configuration versions as given. -/
def withCfg (c : Versions) : State := { up with mgmt.cfg := c }
/-- `up` in another mode. -/
def inMode (m : Mode) : State := { up with sys.mode := m }
/-- Both slots of the flash with a first word of zeros. -/
def noImages : State := { up with
  mgmt.flash := [0, 1, 2, 3, 0x2000000, 0x2000001, 0x2000002, 0x2000003].foldl (fun t a => t.set a (some 0)) .empty }

/-- The state after a command. -/
def after (c : Instr) (s : State) : State :=
  match exec c s with
  | .next t => t
  | _ => s

/-! ### The bounds of operands -/

theorem test_wf_header : (Instr.identify { src := .i3c 0, len := 2 ^ 21 }).wf = false := by decide
theorem test_wf_header_in_range : (Instr.identify { src := .i3c 0, len := 2 ^ 21 - 1 }).wf = true := by decide
theorem test_wf_header_of_target : (Instr.getSupportedLogs (.mgmt { src := .i3c 0, len := 2 ^ 21 })).wf = false := by decide
theorem test_wf_register_write : (Instr.registerWrite .csr 0 9 0).wf = false ∧ (Instr.registerWrite .csr 0 0 0).wf = false := by
  decide
theorem test_wf_crossbar : (Instr.crossbarAccess .pairA .hpa 0 false 65 0 false).wf = false := by decide
theorem test_wf_stage_write : (Instr.configStageWrite fm 0 4 [1, 2, 3]).wf = false := by decide
theorem test_wf_transfer_fw : (Instr.transferFw fm 1 0 (List.replicate 2049 0)).wf = false := by decide +kernel
theorem test_wf_message_limit : (Instr.setResponseMessageLimit fm 65536).wf = false := by decide
theorem test_wf_meas_window : (Instr.measWindow 0 [0, 0, 0, 0, 0, 0, 0, 0] 1).wf = false := by decide
theorem test_wf_quality : (Instr.qualityInterval 0 [] none 0).wf = false := by decide
theorem test_wf_lane_ann : (Instr.laneAnn 0 { lanesAgreeing := 10 }).wf = false := by decide
theorem test_wf_audit : (Instr.audit 0 {} [0, 0, 0, 0, 0, 0, 0]).wf = false := by decide
theorem test_wf_init : (Instr.init 0 { credits := [1] }).wf = false := by decide
theorem test_wf_payload : (Instr.payload 0 {} (List.replicate 16 (.mreq, {}))).wf = false := by decide +kernel
theorem test_wf_digest : (Instr.digest 0 {} (List.replicate 6 {})).wf = false := by decide

/-! ### Witnesses -/

theorem witness_StepRunsFrontCommand : ({ up with pending := [.idcode, .ppsOut] } : State).pending = .idcode :: [.ppsOut] := rfl

theorem witness_EmptyQueueResumesOrTicks : up.pending = [] ∧ up.deferred = none
    ∧ ({ up with mgmt.running := [{ src := .i3c 0, ticket := 1, instr := .modeGet fm }] } : State).deferred
      = some { src := .i3c 0, ticket := 1, instr := .modeGet fm } := by decide +kernel

theorem witness_EveryStepKeepsInvariant : State.reset.inv ∧ step { State.reset with pending := [.idcode] } = .next State.reset :=
  ⟨⟨rfl, by constructor <;> intro h <;> cases h⟩, rfl⟩

/-- A port that may come up, one that is up at x4 in 256 B flits and loses lane 0, one at x1, one in each place of bring-up. -/
theorem witness_EdgeLinksTrainAndFail :
    (let s := withPort { role := .host, training := true }
     (s.port 3).dlUp = false ∧ (s.port 3).training = true ∧ (s.port 3).dpc = false ∧ (s.port 3).role ≠ .disabled ∧ s.portsRun = true
     ∧ s.sys.dieLost.toNat.testBit (3 / 16) = false)
    ∧ (up.port 3).dlUp = false
    ∧ (let s : State := { withPort { role := .bound, dlUp := true, width := 4, widthNow := 4, flit := 2, lanes := [0, 1, 2, 3], lanesUp := [0, 1, 2, 3] } with
         tab.ports := up.tab.ports.set 3 { width := 4, l0pMin := 0 } }
       (s.port 3).dlUp = true ∧ (0 : Fin 16).val ∈ (s.port 3).lanes
       ∧ fallbackRun (s.param 3).width ((s.port 3).lanesUp.erase (0 : Fin 16).val) = some [2, 3]
       ∧ 2 ≤ (s.port 3).flit ∧ (s.param 3).l0pMin = 0 ∧ (s.param 3).width ≤ (4 : BitVec 5).toNat
       ∧ (4 : BitVec 5).toNat ≤ (s.port 3).width ∧ pow2Width (4 : BitVec 5).toNat = (4 : BitVec 5).toNat
       ∧ (s.port 3).width < (5 : BitVec 5).toNat ∧ pow2Width (3 : BitVec 5).toNat ≠ (3 : BitVec 5).toNat ∧ (s.port 3).cfgAllowed = false)
    ∧ (let s := withPort { role := .bound, dlUp := true, width := 1, lanes := [0], lanesUp := [0] }
       (s.port 3).dlUp = true ∧ (0 : Fin 16).val ∈ (s.port 3).lanes ∧ (1 : Fin 16).val ∉ (s.port 3).lanes
       ∧ fallbackRun (s.param 3).width ((s.port 3).lanesUp.erase (0 : Fin 16).val) = none)
    ∧ (let s := withPort { role := .bound, dlUp := true, flit := 1, cfgAllowed := true }
       (s.port 3).dlUp = true ∧ (s.port 3).flit < 2 ∧ (s.port 3).cfgAllowed = true)
    ∧ (let s := withPort { role := .poolMember, slotPg := true }
       (s.port 3).slotPg = true ∧ (s.port 3).perst = true ∧ (s.port 3).dpc = false ∧ s.portsRun = true ∧ s.sys.mode ≠ .safe
       ∧ (s.port 3).role = .poolMember)
    ∧ (let s : State := { withPort { role := .unbound, slotPg := true } with edge.hostPortsStarted := true }
       (s.port 3).role = .unbound ∧ s.edge.hostPortsStarted = true ∧ (s.port 3).slotPg = true)
    ∧ (let s := withPort { role := .poolMember, slotPg := true, training := true }
       (s.port 3).dlUp = false ∧ (s.port 3).training = true ∧ (s.port 3).role ≠ .host ∧ (s.port 3).role ≠ .disabled
       ∧ (s.port 3).slotPg = true) := by decide +kernel

theorem witness_EdgePortEventsContainAndReset :
    ((withPort { role := .poolMember }).port 3).role = .poolMember ∧ ((withPort { role := .poolMember }).port 3).dpc = false
    ∧ ((withPort { role := .bound, dpc := true }).port 3).dpc = true ∧ ((withPort { role := .bound }).port 3).role = .bound
    ∧ ((withPort { role := .host, dlUp := true }).port 3).role = .host ∧ ((withPort { role := .host, dlUp := true }).port 3).dlUp = true
    ∧ ((withPort { role := .unbound }).port 3).role = .unbound ∧ (up.port 3).role = .disabled ∧ (up.port 3).dlUp = false
    ∧ up.bolrothRuns = true
    ∧ (let s : State := { up with sys.hostStartDue := some 5 }
       s.sys.hostStartDue = some 5 ∧ s.edge.hostPortsStarted = false ∧ s.portsRun = true)
    ∧ up.sys.hostStartDue = none := by decide +kernel

/-- Member port 3, with one active tile at device tile 4, so that five tiles are needed. -/
theorem witness_MemberSetupChecksTheMember :
    let s : State := { withPort { role := .poolMember, dlUp := true } with
      tab.ht := up.tab.ht.set 1 { state := .active, pPort := 3, pTile := 4 }
      tab.ports := up.tab.ports.set 3 { expectedDsn := 9 } }
    let u := ((s.configAllowed 3).updPort 3 fun v => { v with dsn := 9, capacity := 5 }).updPort 3 fun v => { v with memEnable := true }
    (s.port 3).role = .poolMember ∧ (s.port 3).dlUp = true ∧ (s.port 3).memberReady = false ∧ s.bolrothRuns = true
    ∧ (s.param 3).expectedDsn ≠ 0 ∧ (s.param 3).expectedDsn ≠ 8 ∧ (s.param 3).expectedDsn = 9 ∧ (up.param 3).expectedDsn = 0
    ∧ u.neededTiles 3 ≤ 5 ∧ 4 < u.neededTiles 3 ∧ (up.port 3).role ≠ .poolMember := by decide +kernel

theorem witness_MessagesAreTakenIn :
    up.pointUp 3 = false ∧ (withPort { role := .host, dlUp := true }).pointUp 3 = true
    ∧ (let s : State := { withPort { role := .host, dlUp := true } with tab.ports := up.tab.ports.set 3 { ideRequired := true } }
       s.pointUp 3 = true ∧ s.ideBlocked 3 = true)
    ∧ (withPort { role := .host, dlUp := true }).ideBlocked 3 = false
    ∧ (inMode .safe).sys.mode = .safe
    ∧ (withPort { role := .host, dlUp := true }).start.hasCredits 3 0 {} = false
    ∧ (let s : State := { withTrunk { phase := .active } with
         dp.cellCount := (List.range 8).foldl (fun t c => t.set (528 + c) 100000) up.dp.cellCount }
       s.pointUp 66 = true ∧ s.start.storeRecord 66 0 1 {} = none)
    ∧ hostUp.start.hasCredits 3 0 {} = true ∧ (hostUp.start.storeRecord 3 0 (unitsOf 0 0 {}) {}).isSome = true
    ∧ (withTrunk { phase := .active }).pointUp 66 = true
    ∧ hostUp.startsNow 3 0 = true ∧ ({ hostUp with dp.waiting := up.dp.waiting.set 24 [16] } : State).startsNow 3 0 = false
    ∧ 3 < 64 ∧ ({} : Msg).attached = false ∧ 0 ≠ 2 ∧ 0 ≠ 4 := by decide +kernel

theorem witness_WaitsEndAtTheirTurnOrDeadline :
    (let s : State := { hostUp with dp.waiting := up.dp.waiting.set 24 [16] }
     s.dp.waiting.get 24 = 16 :: [] ∧ s.startRoom 3 0 = true ∧ s.waitingTurn = some 3)
    ∧ up.dp.waiting.get 24 = [] ∧ (up.txn 9).state = .free
    ∧ ((withTxn { state := .waitRsp, wait := .birsp, snoopTimer := true }).txn 9).state = .waitRsp
    ∧ ((withTxn { state := .waitRsp, wait := .birsp, snoopTimer := true }).txn 9).wait = .birsp
    ∧ ((withTxn { state := .waitRsp, wait := .birsp, snoopTimer := true }).txn 9).wait ≠ .poison
    ∧ ((withTxn { state := .waitRsp, wait := .poison }).txn 9).wait = .poison
    ∧ ((withTxn { state := .waitRsp, wait := .birsp, snoopTimer := true }).txn 9).snoopTimer = true
    ∧ ((withTxn { state := .draining }).txn 9).state = .draining ∧ ((withTxn { state := .running }).txn 9).state = .running
    ∧ ((withTxn { state := .waitOrder }).txn 9).state = .waitOrder
    ∧ ((withTxn { state := .waitHold }).txn 9).state = .waitHold := by decide +kernel

/-- A snoop queued at port 3, and a response. -/
theorem witness_EgressPicksSnoopsAndResponsesFirst :
    up.pointUp 3 = false
    ∧ ((withTrunk { phase := .active, next := 1536 }).trunk 2).outstanding = 1536
    ∧ (let s : State := { hostUp with dp.queues := up.dp.queues.set 24 [{ cls := 2 }] }
       let t : State := { s.start with dp.credits := s.dp.credits.set 3 (0xFFF : BitVec 12).toNat }
       s.pointUp 3 = true ∧ ((t.skipVoids 3).2.selectHead 3 0 0xFFF).isSome = true)
    ∧ (let s : State := { hostUp with dp.queues := up.dp.queues.set 25 [{}] }
       let t : State := { s.start with dp.credits := s.dp.credits.set 3 (0xFFF : BitVec 12).toNat }
       (t.skipVoids 3).2.selectHead 3 0 0xFFF = none ∧ ((t.skipVoids 3).2.selectHead 3 1 0xFFF).isSome = true
       ∧ ((t.skipVoids 3).2.pickEntry 3 0xFFF).1.isSome = true)
    ∧ ((({ hostUp.start with dp.credits := up.dp.credits.set 3 0 } : State).skipVoids 3).2.pickEntry 3 0).1 = none
    ∧ (let s := withTrunk { phase := .active, resend := [{ cls := 0, msg := {} }] }
       s.pointUp 66 = true ∧ (s.trunk 2).outstanding < 1536 ∧ (s.trunk 2).resend = { cls := 0, msg := {} } :: [])
    ∧ nextGate (listAt (up.gateList 3).1 (up.gateList 3).2 up.sys.ft) (up.gateList 3).2 up.sys.ft = none
    ∧ (let s : State := { up with dp.gateNow := up.dp.gateNow.set 3 { baseTime := 0, cycleTime := 100, entries := [(0xFF, 60), (0, 40)] } }
       nextGate (listAt (s.gateList 3).1 (s.gateList 3).2 s.sys.ft) (s.gateList 3).2 s.sys.ft = some 60 ∧ (s.gateList 3).2 = none)
    ∧ (let s : State := { up with dp.gateNext := up.dp.gateNext.set 3 (some (50, {})) }
       nextGate (listAt (s.gateList 3).1 (s.gateList 3).2 s.sys.ft) (s.gateList 3).2 s.sys.ft = some 50
       ∧ (s.gateList 3).2 = some (50, {}) ∧ 50 ≤ (s.start.advanceTo 50).sys.ft)
    ∧ (inMode .safe).sys.mode = .safe ∧ up.sys.mode ≠ .safe ∧ up.sys.mode ≠ .reset := by decide +kernel

theorem witness_ObservationEventsFollowFabricTime :
    up.obs.select.snapshotMs ≠ 0 ∧ up.sys.mode ≠ .safe ∧ up.sys.mode ≠ .reset ∧ up.sys.mode ≠ .prepare
    ∧ ({ up with obs.select.snapshotMs := 0 } : State).obs.select.snapshotMs = 0 ∧ State.reset.sys.mode = .reset
    ∧ up.obs.select.telemEnable = false ∧ ({ up with obs.select.telemEnable := true } : State).obs.select.telemEnable = true
    ∧ up.obs.status.frozen = false ∧ ({ up with obs.status.frozen := true } : State).obs.status.frozen = true
    ∧ up.obs.status.archiving = false
    ∧ (let s : State := { up with obs.status.archiving := true }
       s.obs.status.archiving = true ∧ s.freezeTicket = none)
    ∧ (let s : State := { up with obs.status.archiving := true, mgmt.running := [{ src := .i3c 0, ticket := 1, instr := .logFreeze fm, started := true }] }
       s.obs.status.archiving = true ∧ s.freezeTicket = some 1)
    ∧ (let s : State := { up with obs.alert0 := some 4, mgmt.i3c0.dynAddr := some 8 }
       s.obs.alert0 = some 4 ∧ s.mgmt.i3c0.ibiEnabled = true ∧ s.mgmt.i3c0.dynAddr ≠ none)
    ∧ (let s : State := { up with obs.alert1 := some 4, mgmt.i3c1.dynAddr := some 8, obs.ibi1 := some 3 }
       s.obs.alert1 = some 4 ∧ s.mgmt.i3c1.ibiEnabled = true ∧ s.mgmt.i3c1.dynAddr ≠ none)
    ∧ up.obs.alert0 = none ∧ up.obs.alert1 = none := by decide +kernel

/-- With full buckets of 1 byte each, 1 byte is green and 2 are red; with the first empty, 1 byte is yellow. -/
theorem witness_MetersColourByTheirBuckets :
    let m : MeterCfg := { meterEn := true, cbs := 1, pbsEbs := 1 }
    (({ tc := 1000, tpTe := 1000 } : MeterState).meter m 1 0).1 = .green ∧ (({ tc := 1000, tpTe := 1000 } : MeterState).meter m 2 0).1 = .red
    ∧ (({ tc := 0, tpTe := 1000 } : MeterState).meter m 1 0).1 = .yellow
    ∧ (({ tc := 1000, tpTe := 1000 } : MeterState).meter { m with srtcm := true } 1 0).1 = .green
    ∧ (({ tc := 0, tpTe := 1000 } : MeterState).meter { m with srtcm := true } 1 0).1 = .yellow
    ∧ (({ tc := 0, tpTe := 0 } : MeterState).meter { m with srtcm := true } 1 0).1 = .red
    ∧ m.meterEn = true ∧ m.srtcm = false ∧ ({} : MeterCfg).meterEn = false := by decide +kernel

/-- Slot 0 with a header of zeros holds no image: a pair that boots from it is retired. -/
theorem witness_PairsBootFollowTheJournalAndHandOver :
    (up.pairState .b) ≠ .booting
    ∧ (let s : State := { inMode .provision with sys.pairB := .booting, mgmt.flash := noImages.mgmt.flash }
       s.pairState .b = .booting ∧ s.sys.mode ≠ .reset ∧ s.sys.mode ≠ .prepare ∧ s.imageOk 0 = false)
    ∧ (let s : State := { up with sys.pairB := .syncing }
       s.pairState .b = .syncing ∧ s.hasActive = true ∧ s.behind .b = 0 ∧ s.active = some .a ∧ s.pairState (otherPair .a) = .syncing
       ∧ s.mgmt.dbg.hold = false)
    ∧ (let s : State := { up with sys.pairB := .syncing, sys.journalTail := 1 }
       s.pairState .b = .syncing ∧ s.behind .b ≠ 0)
    ∧ (let s : State := { up with sys.pairB := .standbyReady, sys.handover := some 0 }
       s.pairState .b = .standbyReady ∧ s.sys.handover ≠ none ∧ s.mgmt.dbg.hold = false
       ∧ Pair.a = (if s.sys.activePair then .b else .a) ∧ s.pairState (otherPair .a) = .standbyReady
       ∧ (let t : State := ((s.start.freezeMaskable 4).setPair .b .fenced).retirePair .b
          t.sys.handover ≠ none ∧ t.hasActive = true))
    ∧ (let s : State := { up with sys.pairA := .standbyReady, sys.handover := some 0 }
       s.pairState (otherPair .a) ≠ .standbyReady ∧ s.pairState .a = .standbyReady ∧ s.sys.handover ≠ none)
    ∧ (let s : State := { up with sys.pairB := .standbyReady }
       s.pairState .b ≠ .active ∧ (((s.start.freezeMaskable 4).setPair .b .fenced).retirePair .b).sys.handover = none)
    ∧ State.reset.active = none ∧ ({ up with mgmt.dbg.hold := true } : State).mgmt.dbg.hold = true
    ∧ State.reset.pairState .a = .off ∧ up.pairState .a ≠ .off ∧ up.pairState .a ≠ .retired ∧ up.sys.mode ≠ .reset
    ∧ up.pairState .a = .active := by decide +kernel

theorem test_empty_slots_hold_no_image : noImages.imageOk 0 = false ∧ noImages.imageOk 1 = false := by decide +kernel

theorem witness_RegisterCommandsWriteTheirRegisters :
    up.pairState .a = .active ∧ up.pairState .b ≠ .active ∧ up.active = some .a ∧ State.reset.active = none
    ∧ up.sys.status.bootConfirmed = false ∧ up.sys.served = true ∧ up.tab.policy.svnAdvance = false
    ∧ ({ up with tab.policy.svnAdvance := true } : State).tab.policy.svnAdvance = true
    ∧ (let s := withPort { role := .host, dlUp := true }
       (s.port 3).role = .host ∧ s.pointUp 3 = true ∧ s.sys.mode ≠ .reset ∧ s.sys.mode ≠ .prepare)
    ∧ (0xFFF : BitVec 48).toNat < 0x1000 ∧ 0x1000 ≤ (0x1003 : BitVec 48).toNat ∧ (0x1003 : BitVec 48).toNat % 0x1000 < 4
    ∧ 4 ≤ (0x1004 : BitVec 48).toNat % 0x1000 ∧ (up.port 3).role ≠ .host := by decide +kernel

theorem witness_CrossbarGrantsChecksAndAnswers :
    State.reset.canRequest 0 = false ∧ up.canRequest 0 = true ∧ up.sys.owner = 7
    ∧ ({ up with sys.owner := 1 } : State).sys.owner ≠ 7 ∧ ({ up with sys.owner := 1 } : State).sys.owner.toNat ≠ 0
    ∧ ({ up with sys.owner := 0 } : State).sys.owner.toNat = 0
    ∧ ({ up with dp.txns := (List.range 256).foldl (fun t i => t.set i { state := .running, ingress := xMgmt }) .empty } : State).sharedRoom
      xMgmt = false
    ∧ up.sharedRoom xMgmt = true
    ∧ hardwired 5 1 0 1 false = false
    ∧ ((up.start.takeGrant 0).crossCheck 0 3 0 8 false).1 = none
    ∧ ((up.start.takeGrant 2).crossCheck 2 2 0 8 false).1 = some 1
    ∧ (let s : State := { up with tab.checkers := up.tab.checkers.set 73 { enabled := false } }
       let c := ((s.start.takeGrant 0).crossCheck 0 2 0 8 true).2
       (c.storeWrite 0 8 0).isSome = true)
    ∧ (0 : Nat) < up.sys.backoff.length ∧ 4 ≤ 5 := by decide +kernel

/-! The store: channel 3 and its partner 19; a relocation; patrols; a sweep that waits, one that has ended. -/

theorem witness_ChannelsPassesAndSweepsOfTheStore :
    ({ up with dir.retired := 8 } : State).chanOk 3 = false ∧ up.chanOk 3 = true ∧ up.chanOk 19 = true ∧ up.dir.reloc = none
    ∧ 4 ≤ (4 : Byte).toNat ∧ ¬ 4 ≤ (3 : Byte).toNat
    ∧ ({ up with dir.reloc := some { pair := 5 } } : State).dir.reloc ≠ none
    ∧ (let s : State := { up with dir.retired := 0x80000 }
       s.chanOk 3 = true ∧ s.chanOk 19 = false ∧ s.dir.reloc = none)
    ∧ (let s : State := { up with dir.reloc := some { pair := 3 } }
       s.dir.reloc = some { pair := 3 } ∧ ({ pair := 3 } : Reloc).pair = (3 : ChannelId).val % 16
       ∧ ({ pair := 3 } : Reloc).done = false ∧ s.sys.mode ≠ .safe ∧ s.dir.lost.toNat.testBit 3 = false)
    ∧ ({ pair := 3, done := true } : Reloc).done = true
    ∧ up.tab.dirParam.patrolH ≠ 0 ∧ up.sys.served = true ∧ up.sys.mode ≠ .safe ∧ (inMode .safe).sys.mode = .safe
    ∧ (let s : State := { up with dir.sweepQueue := [(70, 2)] }
       s.dir.sweepQueue = ((70 : BitVec 26).toNat, (2 : Fin 16).val) :: [] ∧ s.dir.sweeps.length < 4)
    ∧ up.dir.sweepQueue.head? ≠ some (70, 2) ∧ up.dir.sweeps.find? (fun w => w.set == 70 && w.way == 2) = none
    ∧ (let w : Sweep := { set := 70, way := 2, exhausted := true }
       let s : State := { up with dir.sweeps := [w] }
       s.dir.sweeps.find? (fun w => w.set == 70 && w.way == 2) = some w ∧ w.exhausted = true ∧ w.running = 0
       ∧ (if s.setLost 70 = true then some s.start else s.start.fetchSet 70).isSome = true)
    ∧ ({ set := 70, way := 2 } : Sweep).exhausted = false := by decide +kernel

theorem witness_ParityFailuresDamageAndAreRepaired :
    up.isDamaged (.window 3) = false ∧ up.executorFree = true
    ∧ ({ up with tab.damaged := [(.window 3, 0)] } : State).isDamaged (.window 3) = true
    ∧ (let s : State := { up with tab.tt := up.tab.tt.set 6 { state := .releasing }, tab.damaged := [(.translation 6, 5)] }
       s.isDamaged (.translation 6) = true ∧ (s.tab.tt.get (6 : BitVec 20).toNat).state = .releasing)
    ∧ up.queuedRecord 3 0 = none
    ∧ (let e : QEntry := { record := some 16, txn := some 9 }
       ({ up with dp.queues := up.dp.queues.set 24 [e] } : State).queuedRecord 3 0 = some (0, e) ∧ e.final = false ∧ e.txn = some 9)
    ∧ (let e : QEntry := { record := some 16, txn := some 9, final := true }
       ({ up with dp.queues := up.dp.queues.set 24 [e] } : State).queuedRecord 3 0 = some (0, e) ∧ e.final = true)
    ∧ ((withTxn { state := .draining, ingress := 3, cls := 0 }).txn 9).errorAnswer.isSome = true
    ∧ ((withTxn { state := .draining, ingress := 72, cls := 7 }).txn 9).errorAnswer = none
    ∧ (up.txn 9).state = .free ∧ ((withTxn { state := .running }).txn 9).state ≠ .free
    ∧ (up.dp.conflicts.get 4).valid = false
    ∧ (({ up with dp.conflicts := up.dp.conflicts.set 4 { valid := true } } : State).dp.conflicts.get 4).valid = true
    ∧ up.dp.lines.get 4 = none ∧ (({ up with dp.lines := up.dp.lines.set 4 (some { holder := 9 }) } : State).dp.lines.get 4).isSome = true
    ∧ up.cachedSet 70 = none
    ∧ (({ up with dir.cache := up.dir.cache.set (cacheRow 70) [{ set := 70, ways := [] }] } : State).cachedSet 70).isSome = true
    ∧ (up.mig 7).valid = false ∧ ((withMig { valid := true }).mig 7).valid = true
    ∧ 5120 ≤ (5120 : BitVec 13).toNat ∧ (5119 : BitVec 13).toNat < 5120 ∧ (3 : BitVec 3).toNat < 4 ∧ 4 ≤ (4 : BitVec 3).toNat := by
  decide +kernel

theorem witness_ResetsKeepWhatTheyKeep :
    (124 : Byte).toNat < 125 ∧ 125 ≤ (125 : Byte).toNat ∧ State.reset.sys.mode = .reset ∧ up.sys.mode ≠ .reset
    ∧ up.slots.chans.wf = true ∧ up.tab.checkers.wf = true ∧ up.wq.qps.wf = true
    ∧ (up.wq.qps.get 5).state = .unassigned ∧ ((withQp { state := .enabled }).wq.qps.get 5).state ≠ .unassigned := by decide +kernel

theorem witness_PrepareRunsItsStepsAndReleases :
    up.sys.mode ≠ .reset ∧ State.reset.sys.mode = .reset ∧ State.reset.sys.thermal.trip = false
    ∧ ({ fusesOk := false } : PrepareReport).fusesOk = false ∧ ({ sramOk := false } : PrepareReport).sramOk = false
    ∧ ({ straps := 3 } : PrepareReport).straps = 3 ∧ ({} : PrepareReport).straps ≠ 3
    ∧ State.reset.pairGone = false ∧ (State.reset.retireMask 0x10001).pairGone = true
    ∧ noImages.imageOk 0 = false ∧ noImages.imageOk 1 = false
    ∧ bootChoice true true 1 1 false false false = some (false, false)
    ∧ (let s : State := { inMode .prepare with sys.status := { up.sys.status with prepareStep := 7 } }
       s.sys.mode = .prepare ∧ s.sys.stopped = false ∧ s.sys.status.prepareStep = 7)
    ∧ (let r : PrepareReport := {}
       let u := ((((((State.setMode { State.reset.start with sys.railPg := 0xF } .prepare).prepareStep 1).prepareStep 2).prepareStep 3).trainLinks
         r.linkUp).prepareStep 4)
       r.fusesOk = true ∧ r.sramOk = true ∧ r.straps ≠ 3 ∧ (((u.retireMask r.trainFail).prepareStep 6).retireMask r.readFail).pairGone = false)
    ∧ (let r : PrepareReport := { readFail := 0x10001 }
       let u := ((((((State.setMode { State.reset.start with sys.railPg := 0xF } .prepare).prepareStep 1).prepareStep 2).prepareStep 3).trainLinks
         r.linkUp).prepareStep 4)
       (((u.retireMask r.trainFail).prepareStep 6).retireMask r.readFail).pairGone = true)
    ∧ State.reset.tab.checkers.wf = true := by decide +kernel

theorem witness_SafeTemperatureAndDieLinks :
    (inMode .safe).sys.mode = .safe ∧ up.sys.mode ≠ .reset ∧ up.sys.mode ≠ .safe
    ∧ (109 : Byte).toNat < 110 ∧ 110 ≤ (110 : Byte).toNat ∧ 100 ≤ (100 : Byte).toNat ∧ (97 : Byte).toNat < 98
    ∧ 98 ≤ (98 : Byte).toNat ∧ (99 : Byte).toNat < 100
    ∧ ({ up with sys.links := List.replicate 6 { up := true } } : State).sys.links.getD 3 {} = { up := true }
    ∧ (up.sys.links.getD 3 {}).up = false
    ∧ ({ up with sys.dieLost := 8 } : State).sys.dieLost.toNat.testBit 3 = true ∧ up.sys.dieLost.toNat.testBit 3 = false
    ∧ (3 : Fin 6).val < 4 ∧ (4 : Fin 6).val = 4 ∧ (5 : Fin 6).val = 5 := by decide +kernel

/-- The root's fabric time at a first edge, at a second one 1 s later, and with the input present. -/
theorem witness_TimeInAndPpsOut :
    up.sys.pps.present = false ∧ up.sys.pps.last = none ∧ up.isRoot = true
    ∧ (let s : State := { up with sys.ft := 1000001000, sys.pps.last := some 1000 }
       (999900000 ≤ s.sys.ft - 1000 ∧ s.sys.ft - 1000 ≤ 1000100000) ∧ 1000 ≤ s.sys.ft % 1000000000 ∧ s.isRoot = true)
    ∧ (let s : State := { up with sys.ft := 1000000999, sys.pps.last := some 999 }
       (999900000 ≤ s.sys.ft - 999 ∧ s.sys.ft - 999 ≤ 1000100000) ∧ s.sys.ft % 1000000000 < 1000)
    ∧ (let s : State := { up with sys.pps.present := true, trk.parent := some 2 }
       s.sys.pps.present = true ∧ s.isRoot = false)
    ∧ (let s : State := { up with sys.pps.present := true, sys.ft := 1999999000 }
       s.sys.pps.present = true ∧ s.isRoot = true ∧ ppsDelta s.sys.ft ≤ -1000)
    ∧ -1000 < ppsDelta 1999999001
    ∧ (let s : State := { up with sys.ft := 10, sys.pps.last := some 10 }
       s.sys.pps.last = some 10 ∧ s.sys.ft < 10 + 2000000000 ∧ 10 + 2000000000 < 2 ^ 64)
    ∧ (let s : State := { up with sys.ft := 2 ^ 64 - 5, sys.pps.last := some (2 ^ 64 - 5) }
       s.sys.ft < (2 ^ 64 - 5) + 2000000000 ∧ 2 ^ 64 ≤ (2 ^ 64 - 5) + 2000000000)
    ∧ State.reset.sys.mode = .reset ∧ up.sys.mode ≠ .reset := by decide +kernel

/-- Over 1,024 bits no error passes 10,000 ppb and one fails; an unlocked lane fails. -/
theorem witness_MeasureEndSetsSkip :
    let s := withTrunk { phase := .measure, locked := 0x1FF }
    let c : State := { s with trk.params := up.trk.params.set 2 { compat := true } }
    (s.trunk 2).phase = .measure ∧ (s.trunkParam 2).compat = false
    ∧ (∀ n < 9, ¬ ((s.trunk 2).locked.toNat.testBit n = false ∨ (List.replicate 9 0).getD n 0 * 1000000000 > (s.trunkParam 2).acceptPpb * 1024))
    ∧ [0, 0, 0, 0, 1].getD 4 0 * 1000000000 > (s.trunkParam 2).acceptPpb * 1024
    ∧ ((withTrunk { phase := .measure, locked := 0x1FC }).trunk 2).locked.toNat.testBit 0 = false
    ∧ ((withTrunk { phase := .measure, locked := 0x1FC }).trunk 2).locked.toNat.testBit 1 = false
    ∧ (c.trunk 2).phase = .measure ∧ (c.trunkParam 2).compat = true ∧ ((withTrunk { phase := .active }).trunk 2).phase = .active
    ∧ (up.trunk 2).phase ≠ .measure ∧ (up.trunk 2).phase ≠ .active := by decide +kernel

theorem witness_TrunkBringUpRunsItsStates :
    (up.trunk 2).phase = .off ∧ ((withTrunk { phase := .lock }).trunk 2).phase = .lock
    ∧ popcount (0x7F : BitVec 9).toNat 9 < 8 ∧ 8 ≤ popcount (0xFF : BitVec 9).toNat 9
    ∧ ({ lanesAgreeing := 4 } : LaneAnnBlock).lanesAgreeing < 5 ∧ 5 ≤ ({ lanesAgreeing := 5 } : LaneAnnBlock).lanesAgreeing
    ∧ ((withTrunk { phase := .measure }).trunk 2).phase = .measure ∧ ((withTrunk { phase := .announce }).trunk 2).phase = .announce
    ∧ ({} : LaneAnnBlock).rate.toNat = ((withTrunk {}).trunkParam 2).rate ∧ ({ rate := 1 } : LaneAnnBlock).rate.toNat ≠ (up.trunkParam 2).rate
    ∧ ({ crcOk := false } : InitFields).crcOk = false ∧ ((withTrunk { phase := .active }).trunk 2).phase = .active
    ∧ ((withTrunk { phase := .init }).trunk 2).phase = .init
    ∧ ((withTrunk { phase := .init }).initFails 2 { version := 1 }).isSome = true
    ∧ ((withTrunk { retrying := true }).trunk 2).retrying = true ∧ (up.trunk 2).retrying = false
    ∧ up.bringUpMode = true ∧ (inMode .provision).bringUpMode = false
    ∧ ({ up with trk.params := up.trk.params.set 2 { enable := true } } : State).trunkParam 2 = { enable := true }
    ∧ (up.trunkParam 2).enable = false := by decide +kernel

/-- An INIT of another CY640 with the same trunk's parity passes. -/
theorem witness_init_passes : (withTrunk { phase := .init }).initFails 2
    { credits := List.replicate 8 1, provisionedId := Config.provisionedId + 1 } = none := by
  have h : Config.provisionedId + 1 ≠ Config.provisionedId := by simp
  unfold State.initFails
  simp only [h, if_false]
  decide +kernel

theorem witness_TrunksLeaveActiveAndFailOver :
    (up.trunk 2).phase ≠ .active ∧ ((withTrunk { phase := .active }).trunk 2).phase = .active
    ∧ (up.trunk 2).move ≠ 2 ∧ ((withTrunk { phase := .active, move := 2 }).trunk 2).move = 2
    ∧ ((withTrunk { phase := .active }).trunkParam 2).compat = false ∧ (8 : Fin 9).val = ((withTrunk { phase := .active }).trunk 2).rxSkip
    ∧ (let lost (l : BitVec 9) : List Nat := (List.range 9).filter fun i => i != 8 && !l.toNat.testBit i
       2 ≤ (lost (0x1FF &&& ~~~ 3)).length ∧ (lost (0x1FF &&& ~~~ 1)).length < 2)
    ∧ (∀ m < 9, m = ((withTrunk { phase := .active }).trunk 2).rxSkip ∨ (((withTrunk { phase := .active }).trunk 2).lanes.getD m {}).bad < 3)
    ∧ ((withTrunk { sparing := some 4 }).trunk 2).sparing.isSome = true ∧ (up.trunk 2).sparing = none
    ∧ up.laneQuality 2 8 < 2
    ∧ (let q : LaneQ := { prbsKbits := 1000000 }
       let s := withTrunk { phase := .active, locked := 0x1FF, lanes := (List.replicate 9 ({ fecCorr := 9, fecKbits := 1000000 } : LaneQ)).set 8 q }
       2 ≤ s.laneQuality 2 8 ∧ rateLt (s.laneRate 2 8) (s.laneRate 2 4) = true) := by decide +kernel

theorem witness_TrunkFlitsAreTakenInSequence :
    let s := withTrunk { phase := .active, expect := 7 }
    (up.trunk 2).phase ≠ .active ∧ (s.trunk 2).phase = .active ∧ ({ crcOk := false } : FlitHdr).crcOk = false
    ∧ (let v := (s.start.updTrunk 2 fun k => { k with answerInit := false }).headerFields 2 { seq := 7 } true
       (v.trunk 2).phase = .active ∧ (7 : BitVec 12) = (v.trunk 2).expect ∧ (v.trunk 2).expect ≠ 6
       ∧ ((v.trunk 2).expect - 6).toNat ≤ 2048 ∧ ((v.trunk 2).expect - (7 - 2048)).toNat ≤ 2048
       ∧ 2048 < ((v.trunk 2).expect - (7 - 2049)).toNat)
    ∧ (∃ i < 8, (((s.trunk 2).ret.getD i 0 - (s.trunk 2).rcv.getD i 0).toNat
        < (([(MsgClass.mreq, ({} : Msg))].foldl (fun l m => addCredits l (clsNo m.1) m.2) (List.replicate 8 (0 : U16))).getD i 0).toNat))
    ∧ (s.trunk 2).outstanding = 0 ∧ ((withTrunk { phase := .active, next := 1 }).trunk 2).outstanding ≠ 0
    ∧ (s.trunkParam 2).replayLimit ≤ 3 + 1 ∧ 2 + 1 < (s.trunkParam 2).replayLimit := by decide +kernel

/-- Queue pair 5 on page 4 of host port 3: reading its tail, its descriptors or OWN, with a completion to write. -/
theorem witness_QueueEnginesFetchAndComplete :
    let tail : HostAsk := { kind := .tailWord, count := 1, sent := true }
    let descs : HostAsk := { kind := .descriptor, count := 2, sent := true }
    let own : HostAsk := { kind := .ownBit, count := 1, sent := true }
    let q : Qp := { state := .enabled, hostPort := 3, dbPage := 4, ask := some tail, completions := [{ status := 1 }] }
    let s := withQp q
    up.qpAt 3 4 = none ∧ s.qpAt 3 4 = some 5 ∧ (s.qp 5).state = .enabled
    ∧ (s.qp 5).ask = some tail ∧ tail.sent = true ∧ tail.kind = .tailWord
    ∧ ((withQp { q with ask := some descs }).qp 5).ask = some descs ∧ descs.sent = true ∧ descs.kind = .descriptor
    ∧ ({ tail with sent := false } : HostAsk).sent = false
    ∧ (s.qp 5).completions = { status := 1 } :: [] ∧ (s.qp 5).ownFree = 0 ∧ (s.qp 5).askOwn = none
    ∧ ((withQp { q with ownFree := 1 }).qp 5).ownFree ≠ 0
    ∧ ((withQp { q with askOwn := some own }).qp 5).askOwn = some own ∧ own.sent = true ∧ own.kind = .ownBit
    ∧ ((withQp { q with ownStalled := true }).qp 5).ownStalled = true ∧ (s.qp 5).ownStalled = false
    ∧ (up.qp 5).state ≠ .enabled ∧ (up.qp 5).completions = [] ∧ (up.qp 5).ask = none
    ∧ 2 ^ (s.qp 5).sqLog2 < ((2 ^ 20 : U32) - (s.qp 5).head).toNat ∧ ((1 : U32) - (s.qp 5).head).toNat ≤ 2 ^ (s.qp 5).sqLog2
    ∧ s.wq.qps.wf = true := by decide +kernel

theorem witness_JobsStartRunAndEnd :
    let h : Held := { seq := 1, desc := 2 }
    let s := withQp { state := .enabled, held := [h] }
    up.nextJob 5 = none ∧ s.nextJob 5 = some h ∧ dfield h.desc 0 8 = 2 ∧ dfield h.desc 0 8 ≠ 1
    ∧ dfield (0 : BitVec 512) 0 8 = 0 ∧ dfield (6 : BitVec 512) 0 8 = 6
    ∧ (let b := JobBody.ofDesc (3 + 2 ^ 64 * 9 + 2 ^ 87 * 10)
       let t : State := { hostUp with
         tab.ht := (up.tab.ht.set 9 { state := .active, pPort := 3 }).set 10 { pPort := 4, pTile := 1 }
         tab.bank0.setInfo := { up.tab.bank0.setInfo with setId := 2 } }
       b.type = 3 ∧ (up.jobRefused b).isSome = true ∧ t.jobRefused b = none ∧ t.liveFull = false ∧ t.placeBusy 3 1 = false
       ∧ t.freeSlot = some 0)
    ∧ (up.tile 9).state = .free ∧ ({ up with tab.ht := up.tab.ht.set 9 { state := .active } } : State).tile 9 ≠ {}
    ∧ up.liveFull = false ∧ up.placeBusy (up.tile 9).pPort (up.tile 9).pTile = false
    ∧ (up.mig 7).valid = false
    ∧ (let m : MigSlot := { valid := true, wait := .ended, passes := 7 }
       ((withMig m).mig 7).valid = true ∧ ((withMig m).mig 7).wait = .ended ∧ ((withMig m).mig 7).passes < ((withMig m).mig 7).maxPasses)
    ∧ ((withMig { valid := true, wait := .ended, passes := 8 }).mig 7).maxPasses ≤ ((withMig { valid := true, wait := .ended, passes := 8 }).mig 7).passes
    ∧ ((withMig { valid := true, wait := .canSwitch }).mig 7).wait = .canSwitch
    ∧ ((withMig { valid := true, phase := .hold }).mig 7).phase = .hold ∧ (up.mig 7).phase ≠ .hold
    ∧ (let m := (withMig { valid := true, wait := .evicts }).mig 7
       m.valid = true ∧ m.wait = .evicts ∧ m.again = [] ∧ m.evicts = 0)
    ∧ up.wq.zeros.find? (fun z => z.tile == 12 && z.release) = none
    ∧ (let j : ZeroJob := { tile := 12, release := true, complete := true }
       ({ up with wq.zeros := [j] } : State).wq.zeros.find? (fun z => z.tile == 12 && z.release) = some j ∧ j.complete = true)
    ∧ ({ tile := 12, release := true } : ZeroJob).complete = false ∧ (inMode .safe).sys.mode = .safe := by decide +kernel

/-- The highest line of the 41 bits. -/
theorem witness_SetAndTagNameTheLine :
    2 ^ 28 - 1 < 2 ^ 28 ∧ 2 ^ 41 - 1 = (2 ^ 19 - 1) * 2 ^ 22 + (2 ^ 28 - 1) / 2 ^ 6 ∧ 2 ^ 41 - 1 < 2 ^ 41 ∧ 32 % 32 = 0 := by decide +kernel

theorem witness_SweepCandidatesAreTheTagsOfTheSet :
    58720255 < 58720256 ∧ Machine.setOf 0 = 0 ∧ sweepTag 0 0 = some 0 ∧ 37450 ≤ 37450 := by decide +kernel

theorem witness_DirectoryEntriesRoundTrip :
    let e : DirE := { tag := 2 ^ 36 - 1, state := 7, owner := 127, sharers := 2 ^ 64 - 1, age := 3 }
    e.tag < 2 ^ 36 ∧ e.state < 8 ∧ e.owner < 128 ∧ e.sharers < 2 ^ 64 ∧ e.age < 4 := by decide +kernel

theorem witness_SwitchQueriesAnswered :
    up.takes (.identify fm) fm { opcode := 0x0001, scope := .anyone }
    ∧ up.takes (.getResponseMessageLimit fm) fm { opcode := 0x0003 }
    ∧ up.takes (.getFwInfo fm) fm { opcode := 0x0200 }
    ∧ up.takes (.getTimestamp fm) fm { opcode := 0x0300 }
    ∧ up.takes (.identifySwitchDevice fm) fm { opcode := 0x5100 }
    ∧ up.takes (.getPhysicalPortState fm [0, 63]) fm { opcode := 0x5101, len := 1 }
    ∧ hostUp.takes (.getVirtualCxlSwitchInfo fm 3) fm { opcode := 0x5200, len := 3, bad := (hostUp.port 3).role != .host } := by
  unfold State.takes
  try dsimp only
  repeat' apply And.intro
  all_goals decide +kernel

theorem witness_DiagnosticQueriesAnswered :
    up.takes (.trunkGetStatus fm 7) fm { opcode := 0xC501, len := 1 }
    ∧ up.takes (.txnRead fm 131071) fm { opcode := 0xC605, len := 4, bad := decide (131072 ≤ (131071 : U32).toNat) }
    ∧ up.takes (.unresponsiveGet fm) fm { opcode := 0xC606 }
    ∧ up.takes (.modeGet fm) fm { opcode := 0xC901, scope := .anyone }
    ∧ up.takes (.queueStatus fm 4095) fm { opcode := 0xC204, len := 2, scope := up.qpScope 4095, bad := decide (4095 < (4095 : U16).toNat) }
    ∧ up.takes (.tenantGet fm 4095 0) fm { opcode := 0xC101, len := 4, scope := .tenant 4095, bad := decide (4095 < (4095 : U16).toNat) }
    ∧ up.takes (.tileEntryGet fm 524287) fm { opcode := 0xC301, len := 4, bad := decide (2 ^ 19 ≤ (524287 : U32).toNat) }
    ∧ up.takes (.migSlotGet fm 1023) fm { opcode := 0xC302, len := 2, bad := decide (1024 ≤ (1023 : U16).toNat) }
    ∧ up.takes (.getResult fm 1) fm { opcode := 0xC907, len := 2, scope := .anyone, bad := !(up.isFm fm.src || (up.mgmt.tickets.get 1).src == some fm.src) } := by
  unfold State.takes
  try dsimp only
  repeat' apply And.intro
  all_goals decide +kernel

/-- What ARCHIVE_READ checks of its slot, offset and length. -/
def pastArchive (slot : Byte) (off : U32) (len : U16) : Bool :=
  decide (15 < slot.toNat) || decide (2048 < len.toNat) || decide (4194304 < off.toNat + len.toNat)

theorem witness_LogAndConfigurationQueriesAnswered :
    up.takes (.counterRead fm 0 79) fm { opcode := 0xC601, len := 3, scope := .fm, bad := counterBlockBad 0 79 }
    ∧ up.takes (.logRead fm 65535 63) fm { opcode := 0xC701, len := 5, bad := decide (63 < (63 : Byte).toNat) || decide (65535 < (65535 : U32).toNat) }
    ∧ (let s : State := { up with obs.archives := up.obs.archives.set 15 { valid := true } }
       (s.obs.archives.get (15 : Byte).toNat).valid = true ∧ s.takes (.archiveRead fm 15 4192256 2048) fm { opcode := 0xC703, len := 7, bad := pastArchive 15 4192256 2048 })
    ∧ up.takes (.configGetState fm) fm { opcode := 0xC005 }
    ∧ (let s := withCfg { staged := some 0, slots := ({} : Versions).slots.set 0 [1, 2] }
       s.imageVersion 0 = some [1, 2]
       ∧ s.takes (.configRead fm 0 0 2) fm { opcode := 0xC006, len := 7, bad := decide (2 < (0 : Byte).toNat) || decide (2048 < (2 : U16).toNat) })
    ∧ up.takes (.gossipGet fm) fm { opcode := 0xC007 }
    ∧ (let s : State := { up with sys.leader := true }
       s.sys.leader = true ∧ s.takes (.fabricDiscover fm) fm { opcode := 0xC502 })
    ∧ up.takes (.slotGetStatus fm 63) fm { opcode := 0xC404, len := 1 }
    ∧ (up.ticketed fm).archiveTouched 15 = false ∧ (up.obs.archives.get 15).valid = false
    ∧ (let s : State := { up with dir.retired := 0x10001, dir.lost := 1 }
       (s.ticketed fm).archiveTouched 0 = true
       ∧ s.takes (.archiveRead fm 0 0 1) fm { opcode := 0xC703, len := 7, bad := pastArchive 0 0 1 })
    ∧ up.imageVersion 0 = none ∧ up.sys.leader = false := by
  unfold State.takes
  try dsimp only
  repeat' apply And.intro
  all_goals decide +kernel

/-- An image that verifies rests on SHA-384 and ECDSA, which are left open; the other premises are met. -/
theorem witness_BootRomChoosesTheSlot :
    noImages.imageOk 0 = false ∧ noImages.imageOk 1 = false
    ∧ (let s : State := { inMode .prepare with sys.status := { up.sys.status with prepareStep := 7, kind := 3 } }
       s.sys.mode = .prepare ∧ s.sys.stopped = false ∧ s.sys.status.prepareStep = 7
       ∧ s.sys.status.kind = 3 ∧ s.sys.status.bootConfirmed = false)
    ∧ up.sys.status.kind ≠ 3 := by
  decide +kernel

theorem witness_SnoopsAndGrantsFollowTheRequest :
    (let t : Txn := { cls := 0, opcode := 9, reqSlot := some 4, holders := [4, 6], want := .excl }
     t.opcode = 9 ∧ t.reqSlot = some 4 ∧ t.want = .excl ∧ t.holders.filter (fun i => t.reqSlot ≠ some i) = [6])
    ∧ (let t : Txn := { cls := 1, opcode := 3, reqSlot := some 4, holders := [4], want := .shared }
     t.opcode ≠ 0 ∧ t.opcode ≠ 9 ∧ t.cls = 1 ∧ t.msg.snpType = .noOp ∧ t.want = .shared
       ∧ t.holders.filter (fun i => t.reqSlot ≠ some i) = [])
    ∧ ({ opcode := 2, want := .none } : Txn).want = .none ∧ ({ msg := { snpType := .snpInv } } : Txn).msg.snpType ≠ .noOp
    ∧ ({ metaField := .meta0State, metaValue := .any } : Msg).metaField = .meta0State ∧ ({} : Msg).metaField = .noOp ∧ 3 ≠ 2 := by
  decide +kernel

theorem witness_SwitchSettingsTakenOrUnsupported :
    up.takes (.setResponseMessageLimit fm 256) fm { opcode := 0x0004, len := 1, bad := decide (256 < 256) || decide (2048 < 256), changes := true }
    ∧ up.takes (.setResponseMessageLimit fm 2048) fm { opcode := 0x0004, len := 1, bad := decide (2048 < 256) || decide (2048 < 2048), changes := true }
    ∧ up.active = some .a
    ∧ up.takes (.transferFw fm 2 0 [1]) fm { opcode := 0x0201, bad := decide (0x2000000 < 0 + 1), changes := true }
    ∧ up.isRoot = true ∧ up.sys.ft ≤ (0 : U64).toNat
    ∧ up.takes (.setTimestamp fm 0) fm { opcode := 0x0301, len := 8, changes := true }
    ∧ up.takes (.activateFw fm) fm { opcode := 0x0202 }
    ∧ up.takes (.setDcRegionConfiguration fm) fm { opcode := 0x5602 }
    ∧ up.takes (.initiateDcAdd fm) fm { opcode := 0x5604 }
    ∧ up.takes (.initiateDcRelease fm) fm { opcode := 0x5605 } := by
  unfold State.takes
  try dsimp only
  repeat' apply And.intro
  all_goals decide +kernel

theorem witness_PortCommandsActOnTheirPort :
    (let s := withPort { role := .bound, dlUp := true }
     (s.port 3).role = .bound ∧ (s.port 3).dlUp = true
       ∧ s.takes (.physicalPortControl fm 3 .resetPpb) fm { opcode := 0x5102, len := 2, changes := true }
       ∧ s.takes (.sendPpbCxlIoConfigurationRequest fm 3 0 false 0 none) fm { opcode := 0x5103, len := 8, changes := true })
    ∧ PortControl.assertPerst ≠ .resetPpb
    ∧ (let s : State := { hostUp with
         edge.ports := hostUp.edge.ports.set 9 { role := .unbound }
         tab.ports := up.tab.ports.set 3 { role := .host, vppbCount := 32 } }
       s.bindRefused 3 31 9 none = false
       ∧ s.takes (.bindVppb fm 3 31 9 none) fm { opcode := 0x5201, len := 4, changes := true, object := some (8, 9) })
    ∧ (let s : State := { withPort { role := .bound, dlUp := true } with edge.binds := up.edge.binds.set (32 * 1 + 31) (some (3, 0)) }
       (31 : Fin 32).val ≠ 0 ∧ s.edge.binds.get (32 * 1 + 31) = some (3, 0) ∧ (s.port 3).dlUp = true ∧ UnbindOption.managedRemove ≠ .waitLinkDown
       ∧ s.takes (.unbindVppb fm 1 31 .waitLinkDown) fm { opcode := 0x5202, len := 3, changes := true, object := some (8, 3) })
    ∧ (let s : State := { withPort { role := .bound, dlUp := true } with edge.binds := up.edge.binds.set 32 (some (3, 0)) }
       s.edge.binds.get (32 * 1 + 0) = some (3, 0) ∧ s.edge.binds.get (32 * 1 + 31) = none
       ∧ s.takes (.unbindVppb fm 1 31 .managedRemove) fm { opcode := 0x5202, len := 3, changes := true }
       ∧ s.takes (.unbindVppb fm 1 0 .managedRemove) fm { opcode := 0x5202, len := 3, changes := true, object := some (8, 3) })
    ∧ up.bindRefused 3 31 9 none = true ∧ (hostUp.port 3).role = .host
    ∧ up.takes (.bindVppb fm 3 31 9 none) fm { opcode := 0x5201, len := 4, changes := true, object := some (8, 9) }
    ∧ up.takes (.physicalPortControl fm 3 .assertPerst) fm { opcode := 0x5102, len := 2, changes := true } := by
  unfold State.takes
  try dsimp only
  repeat' apply And.intro
  all_goals decide +kernel

theorem witness_DeviceAndPoolViewCommandsAnswered :
    (let s := withPort { role := .unbound, mld := true, dlUp := true }
     (s.port 3).role = .unbound ∧ (s.port 3).mld = true ∧ (s.port 3).dlUp = true
       ∧ s.takes (.getLdInfo fm 3 [1]) fm { opcode := 0x5400 } ∧ s.takes (.getLdAllocations fm 3 [1]) fm { opcode := 0x5401 }
       ∧ s.takes (.setLdAllocations fm 3 [1] []) fm { opcode := 0x5402, changes := true }
       ∧ s.takes (.tunnelManagementCommand fm 3 [1] []) fm { opcode := 0x5300, changes := true })
    ∧ (up.port 3).mld = false
    ∧ up.takes (.getLdInfo fm 3 []) fm { opcode := 0x5400 }
    ∧ hostUp.takes (.getDcdInfo fm 3) fm { opcode := 0x5600, bad := (hostUp.port 3).role != .host }
    ∧ hostUp.takes (.getHostDcRegionConfiguration fm 3) fm { opcode := 0x5601, bad := (hostUp.port 3).role != .host }
    ∧ hostUp.takes (.getDcRegionExtentLists fm 3 0 1) fm { opcode := 0x5603, bad := (hostUp.port 3).role != .host }
    ∧ up.takes (.getLdAllocations fm 3 []) fm { opcode := 0x5401 }
    ∧ up.takes (.setLdAllocations fm 3 [] []) fm { opcode := 0x5402, changes := true }
    ∧ up.takes (.tunnelManagementCommand fm 3 [] []) fm { opcode := 0x5300, changes := true } := by
  unfold State.takes
  try dsimp only
  repeat' apply And.intro
  all_goals decide +kernel

theorem witness_EventLogCommandsServeBothTargets :
    up.takes (.getEventRecords (.mgmt fm) .fatal) fm { opcode := 0x0100, len := 1 }
    ∧ up.takes (.clearEventRecords (.mgmt fm) .fatal true 0) fm { opcode := 0x0101, len := 6, changes := true }
    ∧ up.takes (.getEventInterruptPolicy (.mgmt fm)) fm { opcode := 0x0102 }
    ∧ up.takes (.setEventInterruptPolicy (.mgmt fm) 1) fm { opcode := 0x0103, len := 5, changes := true, bad := policyBad 1 }
    ∧ up.takes (.getSupportedLogs (.mgmt fm)) fm { opcode := 0x0400 }
    ∧ up.takes (.getLog (.mgmt fm) 0 4) fm { opcode := 0x0401, len := 24 }
    ∧ hostUp.poolTakes { port := 3 } ∧ (up.port 3).role ≠ .host
    ∧ (let s : State := { hostUp with sys.pairA := .retired }
       (s.port 3).role = .host ∧ (s.port 3).dlUp = true ∧ s.bolrothRuns = false)
    ∧ ({ port := 3, reservedSet := true } : PoolHdr).reservedSet = true := by
  unfold State.takes State.poolTakes
  try dsimp only
  repeat' apply And.intro
  all_goals decide +kernel

theorem witness_PoolViewCommandsAnswered :
    hostUp.poolTakes { port := 3 }
    ∧ (let a : AddEvent := { extent := { tt := 5, count := 1 }, due := some 7 }
       ({ hostUp with edge.pools := up.edge.pools.set 3 { adds := [a] } } : State).oldestAdd 3 = some a)
    ∧ ([(1, 1)] : List (U64 × U64)) ≠ []
    ∧ hostUp.oldestAdd 3 = none
    ∧ (([] : List (U64 × U64)).all fun x => (hostUp.releasedEntries 3 x).isSome) = true
    ∧ ([((1 : U64), (1 : U64))].any fun x => (hostUp.releasedEntries 3 x).isNone) = true
    ∧ (up.port 3).role ≠ .host ∧ ({ hostUp with sys.pairA := .retired } : State).bolrothRuns = false
    ∧ ({ port := 3, reservedSet := true } : PoolHdr).reservedSet = true := by
  unfold State.poolTakes
  decide +kernel

/-- An image of one record: tenant 1, not valid, for every switch. -/
def tenantImageBytes : List Byte :=
  imageOfRecs 7 6 [] [{ type := 0x20, scope := 0xFF, key := 1, head := leBytes (0x20 + 0xFF * 2 ^ 16 + 8 * 2 ^ 32 + 2 ^ 64) 16, body := leBytes 0 8 }]

/-- `up` with epoch 7 in force and a current image of one record: tenant 1, unbound. -/
def tenantStaged : State := { up with
  tab.epoch := 7
  mgmt.cfg := { current := some 0, slots := ({} : Versions).slots.set 0 tenantImageBytes } }

theorem witness_StagingAndTenantCommandsBuildImages :
    up.mgmt.cfg.phase = .idle ∧ (withCfg { phase := .flipped }).mgmt.cfg.phase = .flipped
    ∧ up.takes (.configStageWrite fm 67106824 2040 (List.replicate 2040 0)) fm { opcode := 0xC001, len := 8 + 2040, bad := decide (2040 < 2040), changes := true, object := some (7, 0) }
    ∧ (67106824 : U32).toNat + (2040 : U32).toNat ≤ 2 ^ 26 ∧ (2040 : U32) ≠ 0
    ∧ up.takes (.configStageWrite fm 0 0 []) fm { opcode := 0xC001, len := 8 + 0, bad := decide (2040 < 0), changes := true, object := some (7, 0) }
    ∧ (withCfg { phase := .writing }).mgmt.cfg.phase ≠ .idle ∧ (withCfg { phase := .writing }).mgmt.cfg.phase ≠ .flipped
    ∧ (withCfg { phase := .writing }).takes (.configStageWrite fm 0 0 []) fm { opcode := 0xC001, len := 8 + 0, bad := decide (2040 < 0), changes := true, object := some (7, 0) }
    ∧ up.takes (.configStageWrite fm 4 0 []) fm { opcode := 0xC001, len := 8 + 0, bad := decide (2040 < 0), changes := true, object := some (7, 0) }
    ∧ 2 ^ 26 < (0xFFFFFFFF : U32).toNat + (1 : U32).toNat
    ∧ (let s := tenantStaged
       let u := s.intended fm
       s.mgmt.cfg.staged = none ∧ s.mgmt.cfg.phase = .idle ∧ s.mgmt.cfg.current ≠ none ∧ s.tab.epoch ≠ 0 ∧ s.mgmt.cfg.undrained = none
       ∧ (u.curPlan.tenant 1).isSome = true
       ∧ u.checkLeaving ((planOf (u.tenantImage 1 true)).record .tenant 1) 1 false = none
       ∧ s.takes (.tenantRemove fm 1 7) fm { opcode := 0xC103, len := 6, changes := true, object := some (7, 0) }
       ∧ s.takes (.tenantUnbind fm 1 7) fm { opcode := 0xC102, len := 6, changes := true, object := some (7, 0) }) := by
  unfold State.takes
  try dsimp only
  repeat' apply And.intro
  all_goals decide +kernel

/-- A valid image names the fused ID of the part and a signed recipe set, which are left open; the other premises are met. -/
theorem witness_CommitAndRollbackStartTheirWork :
    up.mgmt.cfg.staged = none
    ∧ up.takes (.configCommit fm 0 0) fm { opcode := 0xC002, len := 36, changes := true, object := some (7, 0) }
    ∧ (let s := withCfg { staged := some 0 }
       s.mgmt.cfg.staged = some 0 ∧ s.mgmt.cfg.phase = .idle ∧ ¬ (s.mgmt.cfg.current ≠ none ∧ s.tab.epoch = 0) ∧ s.mgmt.cfg.undrained = none
       ∧ s.takes (.configCommit fm 0 0) fm { opcode := 0xC002, len := 36, changes := true, object := some (7, 0) }
       ∧ (match (s.intended fm).validateImage (s.mgmt.cfg.slots.get 0) s.mgmt.cfg.stagedLen 0 (some 0) with
          | .error f => decide (0x8000 ≤ f.code)
          | .ok _ => false) = true)
    ∧ (withCfg { staged := some 0, undrained := some (1, 1, 2) }).mgmt.cfg.undrained ≠ none
    ∧ (let s : State := { withCfg { current := some 1, previous := some 0, phase := .flipped, confirmDeadline := some 9 } with tab.epoch := 2 }
       s.mgmt.cfg.confirmDeadline = some 9 ∧ s.sys.ft < 9 ∧ s.mgmt.cfg.previous ≠ none ∧ s.mgmt.cfg.phase = .flipped ∧ (2 : U32) = s.tab.epoch
       ∧ (1 : U32) ≠ s.tab.epoch
       ∧ s.takes (.configRollback fm 2) fm { opcode := 0xC004, len := 4, changes := true, object := some (7, 0) })
    ∧ up.mgmt.cfg.previous = none ∧ up.mgmt.cfg.confirmDeadline = none
    ∧ ({ withCfg { current := some 0 } with tab.epoch := 0 } : State).mgmt.cfg.current ≠ none := by
  unfold State.takes
  try dsimp only
  repeat' apply And.intro
  all_goals decide +kernel

theorem witness_ConfigConfirmActsByPhase :
    (let s : State := { withCfg { phase := .flipped, confirmDeadline := some 9 } with tab.epoch := 2 }
     s.mgmt.cfg.confirmDeadline = some 9 ∧ s.sys.ft < 9 ∧ s.mgmt.cfg.phase = .flipped ∧ (2 : U32) = s.tab.epoch ∧ (1 : U32) ≠ s.tab.epoch
       ∧ s.takes (.configConfirm fm 2) fm { opcode := 0xC003, len := 4, changes := true, object := some (7, 0) })
    ∧ up.mgmt.cfg.phase = .idle ∧ (0 : U32) = up.tab.epoch
    ∧ up.takes (.configConfirm fm 0) fm { opcode := 0xC003, len := 4, changes := true, object := some (7, 0) }
    ∧ (withCfg { phase := .validating }).mgmt.cfg.phase = .validating ∧ (withCfg { phase := .writing }).mgmt.cfg.phase = .writing
    ∧ (withCfg { phase := .rollingBack }).mgmt.cfg.phase = .rollingBack
    ∧ (withCfg { phase := .rollingBack }).takes (.configConfirm fm 0) fm { opcode := 0xC003, len := 4, changes := true, object := some (7, 0) } := by
  unfold State.takes
  try dsimp only
  repeat' apply And.intro
  all_goals decide +kernel

theorem witness_FlipPutsTheStagedImageInForce :
    up.mgmt.cfg.toFlip = none
    ∧ (let s := withCfg { toFlip := some 1, phase := .writing }
       s.mgmt.cfg.toFlip = some 1 ∧ s.mgmt.cfg.phase = .writing ∧ s.bolrothRuns = true) := by
  repeat' apply And.intro
  all_goals decide +kernel

theorem witness_EpochsDrainEndAndAreRestored :
    (let s := withCfg { undrained := some (1, 1, 2) }
     s.mgmt.cfg.undrained = some (1, 1, 2) ∧ s.dp.live.get (1 : Byte).toNat = 0)
    ∧ ({ withCfg { undrained := some (1, 1, 2) } with dp.live := up.dp.live.set 1 4 } : State).dp.live.get (1 : Byte).toNat ≠ 0
    ∧ (let s := withCfg { confirmDeadline := some 9, phase := .flipped }
       s.mgmt.cfg.confirmDeadline = some 9 ∧ s.mgmt.cfg.phase = .flipped ∧ s.bolrothRuns = true)
    ∧ up.mgmt.cfg.confirmDeadline = none
    ∧ (let s := withCfg { phase := .rollingBack }
       s.mgmt.cfg.phase = .rollingBack ∧ s.bolrothRuns = true ∧ s.start.rollbackReady s.start.curPlan (s.start.planAt s.mgmt.cfg.previous) = true)
    ∧ up.mgmt.cfg.phase ≠ .rollingBack
    ∧ (let s : State := { inMode .provision with mgmt.cfg := { current := some 0 }, sys.warmPending := true }
       s.sys.mode = .provision ∧ s.tab.epoch = 0 ∧ s.mgmt.cfg.current ≠ none ∧ s.sys.warmPending = true ∧ s.bolrothRuns = true)
    ∧ up.sys.warmPending = false
    ∧ (let s : State := { inMode .provision with mgmt.cfg := { current := some 0, slots := ({} : Versions).slots.set 0 (List.replicate 128 0) }, sys.warmPending := true }
       s.imageReadable = true) ∧ up.imageReadable = false := by
  repeat' apply And.intro
  all_goals decide +kernel

theorem witness_GossipSendsHearsAndAges :
    (2 : Nat) ∈ List.range 8 ∧ ((withTrunk { phase := .active }).trunk 2).phase = .active
    ∧ ({ valid := true } : DigestEntry).valid = true
    ∧ State.reset.sys.mode = .reset ∧ up.sys.mode ≠ .reset ∧ up.sys.mode ≠ .prepare
    ∧ (inMode .prepare).sys.mode = .prepare := by
  repeat' apply And.intro
  all_goals decide +kernel

theorem witness_ServiceDrainAndCancelChangeTheMode :
    (let s : State := { inMode .provision with tab.epoch := 1 }
     s.sys.mode = .provision ∧ s.tab.epoch ≠ 0 ∧ s.takes (.serviceStart fm) fm { opcode := 0xC902, changes := true })
    ∧ (inMode .provision).sys.mode = .provision ∧ (inMode .provision).tab.epoch = 0
    ∧ (inMode .provision).takes (.serviceStart fm) fm { opcode := 0xC902, changes := true }
    ∧ up.sys.mode ≠ .provision
    ∧ up.takes (.serviceStart fm) fm { opcode := 0xC902, changes := true }
    ∧ up.sys.mode = .service
    ∧ up.takes (.drain fm) fm { opcode := 0xC905, changes := true }
    ∧ (inMode .drain).sys.mode = .drain ∧ (inMode .drain).sys.mode ≠ .service
    ∧ (inMode .drain).takes (.drainCancel fm) fm { opcode := 0xC906, changes := true }
    ∧ (inMode .drain).takes (.drain fm) fm { opcode := 0xC905, changes := true }
    ∧ up.takes (.drainCancel fm) fm { opcode := 0xC906, changes := true } := by
  unfold State.takes
  try dsimp only
  repeat' apply And.intro
  all_goals decide +kernel

theorem witness_PairCommandsActOnTheirPair :
    (let s : State := { up with sys.pairB := .retired }
     s.pairState .b ≠ .active ∧ s.pairState .b ≠ .off ∧ s.pairState .b ≠ .fenced
       ∧ s.takes (.pairReset fm .b true) fm { opcode := 0xC904, len := 2, changes := true })
    ∧ (let s : State := { up with sys.pairA := .retired, sys.pairB := .retired }
       s.hasActive = false ∧ s.sys.mode ≠ .reset ∧ s.sys.mode ≠ .prepare ∧ s.mgmt.resuming = none ∧ s.mgmt.running = [] ∧ s.mgmt.stored = []
       ∧ s.refusal fm { opcode := 0xC904, len := 2, changes := true } = none)
    ∧ up.pairState .a = .active ∧ up.pairState .b = .off
    ∧ up.takes (.pairReset fm .a true) fm { opcode := 0xC904, len := 2, changes := true }
    ∧ (let s : State := { up with sys.pairB := .standbyReady }
       s.active = some .a ∧ s.pairState (otherPair .a) = .standbyReady ∧ s.takes (.handover fm) fm { opcode := 0xC903, len := 0, changes := true })
    ∧ up.active = some .a ∧ up.pairState (otherPair .a) ≠ .standbyReady
    ∧ up.takes (.handover fm) fm { opcode := 0xC903, len := 0, changes := true } := by
  unfold State.takes
  try dsimp only
  repeat' apply And.intro
  all_goals decide +kernel

theorem witness_DiagnosticCommandsAct :
    (hostUp.port 3).dlUp = true ∧ (hostUp.port 3).role ≠ .disabled ∧ ({} : LinkTrained).width.toNat ≠ 0 ∧ ({ width := 0 } : LinkTrained).width.toNat = 0
    ∧ hostUp.takes (.portRetrain fm 3 {}) fm { opcode := 0xC604, len := 1, changes := true, object := some (8, 3) }
    ∧ (up.port 3).dlUp = false
    ∧ up.takes (.unresponsiveClear fm 1 1) fm { opcode := 0xC607, len := 16, changes := true }
    ∧ up.takes (.scrubDir fm 0 939524096) fm { opcode := 0xC602, len := 8, bad := (939524096 : U32) == 0 || decide (939524096 < (0 : U32).toNat + (939524096 : U32).toNat), changes := true }
    ∧ up.chanOk 3 = true ∧ up.chanOk 19 = true ∧ ({ up with dir.retired := 8 } : State).chanOk 3 = false
    ∧ up.takes (.channelRetire fm 3) fm { opcode := 0xC603, len := 1, changes := true }
    ∧ up.obs.status.frozen = false
    ∧ up.takes (.logFreeze fm) fm { opcode := 0xC702, changes := true }
    ∧ (let s : State := { up with obs.status.frozen := true }
       s.obs.status.frozen = true ∧ s.obs.status.archiving = false ∧ s.takes (.logFreeze fm) fm { opcode := 0xC702, changes := true })
    ∧ up.takes (.portRetrain fm 3 {}) fm { opcode := 0xC604, len := 1, changes := true, object := some (8, 3) }
    ∧ ({ up with dir.retired := 8 } : State).takes (.channelRetire fm 3) fm { opcode := 0xC603, len := 1, changes := true } := by
  unfold State.takes
  try dsimp only
  repeat' apply And.intro
  all_goals decide +kernel

/-- A well-formed setup of queue pair 5. -/
def setup : QueueSetup :=
  { qp := 5, sqBase := 0, sqLog2 := 4, cqBase := 0, cqLog2 := 4, tailAddr := 0, headAddr := 0, jobMask := 1, msixVector := 0, maxJobs := 1 }

theorem witness_QueueAndTileCommandsAct :
    (let s : State := { withQp { state := .disabled, tenant := 1 } with tab.bank0.tenants := up.tab.bank0.tenants.set 1 { valid := true } }
     (s.qp 5).state = .disabled ∧ (s.qp 5).enabling = none ∧ (s.bank.tenants.get (s.qp 5).tenant).valid = true ∧ s.oldGenLive 5 = false
       ∧ s.leavingBy (s.qp 5).tenant = none
       ∧ (1 : BitVec 7).toNat &&& jobMaskOf false = (1 : BitVec 7).toNat
       ∧ s.takes (.queueEnable fm setup) fm { opcode := 0xC201, len := 41, scope := s.qpScope 5, bad := !setupOk setup, changes := true, object := some (2, 5) }
       ∧ s.takes (.queueShutdown fm 5 .failed) fm { opcode := 0xC203, len := 2, scope := s.qpScope 5, bad := decide (4095 < 5), changes := true, object := some (2, 5) })
    ∧ (let s := withQp { state := .enabled, tenant := 1 }
       (s.qp 5).state = .enabled ∧ s.oldGenLive 5 = false ∧ (s.qpsOf 1).filter (fun q => (s.qp q).state != .disabled) = [5]
       ∧ (s.qp 5).state ≠ .stopping ∧ s.holder (some (2, 5)) = none
       ∧ s.takes (.queueReset fm 5 (.ok 0)) fm { opcode := 0xC202, len := 2, scope := s.qpScope 5, bad := decide (4095 < 5), changes := true, object := some (2, 5) }
       ∧ s.takes (.tenantQuiesce fm 1 []) fm { opcode := 0xC205, len := 2, scope := .tenant 1, bad := decide (4095 < 1), changes := true, object := some (1, 1) })
    ∧ ((withQp { state := .haltedMalformed }).qp 5).state = .haltedMalformed ∧ ((withQp { state := .haltedError }).qp 5).state = .haltedError
    ∧ (up.qp 5).state ≠ .enabled ∧ (up.qp 5).state ≠ .haltedMalformed ∧ (up.qp 5).state ≠ .haltedError ∧ up.qpsOf 1 = []
    ∧ (let s : State := { hostUp with tab.ht := up.tab.ht.set 9 { state := .moved, fwdRank := 2, pPort := 3 } }
       (s.tile 9).state = .moved ∧ (s.tile 9).fwdRank ≠ s.rank ∧ s.forwardedThrough 9 = false ∧ s.linkUp (s.tile 9).pPort = true
       ∧ s.wq.zeros.any (·.tile == 9) = false
       ∧ s.takes (.tileMovedRelease fm 9) fm { opcode := 0xC303, len := 4, bad := decide (2 ^ 19 ≤ 9), changes := true, object := some (3, 9) })
    ∧ up.linkUp 3 = false ∧ (up.tile 9).state ≠ .moved
    ∧ up.takes (.tileMovedRelease fm 9) fm { opcode := 0xC303, len := 4, bad := decide (2 ^ 19 ≤ 9), changes := true, object := some (3, 9) }
    ∧ ({ up with wq.zeros := [{ tile := 9, release := true }] } : State).wq.zeros.any (·.tile == 9) = true
    ∧ (let s : State := { withQp { state := .disabled, tenant := 1, genDeferred := true, qpGen := 3 } with
         dp.txns := up.dp.txns.set 7 { state := .running, ingress := xMigration, qp := 5, qpGen := 2 } }
       s.oldGenLive 5 = true ∧ (s.qp 5).genDeferred = true)
    ∧ ((withQp { state := .disabled, enabling := some (setup, 1) }).qp 5).enabling ≠ none := by
  unfold State.takes
  try dsimp only
  repeat' apply And.intro
  all_goals decide +kernel

theorem witness_SlotPowerCommandsActOnTheirChannel :
    (let s := withChan { state := .seated }
     (s.port 3).role ≠ .bound ∧ (s.chan 3).state ≠ .idle ∧ (s.chan 3).state ≠ .latched
       ∧ s.takes (.slotPowerOn fm 3) fm { opcode := 0xC401, len := 1, changes := true, object := some (4, 3) }
       ∧ s.takes (.slotPowerOff fm 3 false) fm { opcode := 0xC402, len := 2, changes := true, object := some (4, 3) })
    ∧ (up.chan 3).state = .idle ∧ ((withChan { state := .latched }).chan 3).state = .latched
    ∧ (withChan { state := .latched }).takes (.slotClearFault fm 3) fm { opcode := 0xC403, len := 1, changes := true, object := some (4, 3) }
    ∧ ((withPort { role := .bound }).port 3).role = .bound
    ∧ (let s : State := { withPort { role := .poolMember } with tab.ht := up.tab.ht.set 1 { state := .active, pPort := 3 } }
       (s.port 3).role = .poolMember ∧ s.memberInUse 3 = true)
    ∧ up.takes (.slotPowerOn fm 3) fm { opcode := 0xC401, len := 1, changes := true, object := some (4, 3) }
    ∧ up.takes (.slotClearFault fm 3) fm { opcode := 0xC403, len := 1, changes := true, object := some (4, 3) }
    ∧ up.takes (.slotPowerOff fm 3 false) fm { opcode := 0xC402, len := 2, changes := true, object := some (4, 3) } := by
  unfold State.takes
  try dsimp only
  repeat' apply And.intro
  all_goals decide +kernel

/-- A token of zeros. -/
def token : Token := { magic := 0, provisionedId := 0, keyIndex := 0, challenge := 0, durationS := 0, signature := 0, publicKey := 0 }

/-- That a token passes rests on ECDSA and SHA-384, which are left open; the other premises are met. -/
theorem witness_DebugStartsAndEnds :
    up.mgmt.dbg.enabled = false ∧ ({ up with mgmt.dbg.enabled := true } : State).mgmt.dbg.enabled = true
    ∧ up.takes (.debugEnable fm false token) fm { opcode := 0xC801, len := 256, changes := true }
    ∧ up.tokenOk fm.src false token = false
    ∧ up.sys.mode ≠ .reset ∧ up.sys.mode ≠ .prepare ∧ up.mgmt.resuming = none ∧ up.mgmt.running = [] ∧ up.mgmt.stored = []
    ∧ up.refusal fm { opcode := 0xC802 } = none
    ∧ State.reset.sys.mode = .reset ∧ 0 < (1 : BitVec 3).toNat ∧ (3 : BitVec 3).toNat ≤ 3
    ∧ ({ up with mgmt.dbg.enabled := true } : State).takes (.debugEnable fm false token) fm { opcode := 0xC801, len := 256, changes := true }
    ∧ up.tab.checkers.wf = true ∧ (inMode .prepare).sys.mode = .prepare
    ∧ (let s : State := { up with mgmt.dbg.enabled := true, mgmt.dbg.expiry := 9 }
       s.sys.ft < s.mgmt.dbg.expiry ∧ s.mgmt.dbg.expiry < 2 ^ 64) := by
  unfold State.takes
  try dsimp only
  repeat' apply And.intro
  all_goals decide +kernel

theorem witness_IdeKeysAreRefreshed :
    (let s : State := { withPort { role := .poolMember } with mgmt.sessions := up.mgmt.sessions.set 2 { device := some 3 } }
     (s.port 3).role ≠ .host ∧ s.deviceSession 3 = true
       ∧ s.takes (.ideKeyRefresh fm 3) fm { opcode := 0xC803, len := 1, changes := true, object := some (8, 3) })
    ∧ (hostUp.port 3).role = .host ∧ up.deviceSession 3 = false
    ∧ up.tab.policy.ideRefreshS = 0
    ∧ ({ up with tab.policy.ideRefreshS := 60 } : State).tab.policy.ideRefreshS ≠ 0 ∧ up.bolrothRuns = true
    ∧ (let s : State := { hostUp with
         mgmt.spdm := up.mgmt.spdm.set (spdmNo (.doe 3)) { version := true, caps := true, algs := true }
         mgmt.sessions := up.mgmt.sessions.set 15 { src := some (.doe 3), finished := true } }
       (s.mgmt.spdm.get (spdmNo (.doe 3))).version = true ∧ (s.mgmt.spdm.get (spdmNo (.doe 3))).caps = true
       ∧ (s.mgmt.spdm.get (spdmNo (.doe 3))).algs = true ∧ (s.mgmt.sessions.get (15 : Fin 16).val).src = some (.doe 3)
       ∧ (s.mgmt.sessions.get (15 : Fin 16).val).finished = true ∧ s.ideKmStatus (.doe 3) 3 = 0
       ∧ (s.mgmt.keys.get (ideKey { port := 3, pcie := false, tx := false, set1 := false })).filled = false) := by
  unfold State.takes
  try dsimp only
  repeat' apply And.intro
  all_goals decide +kernel

theorem witness_TapInstructionsActByMode :
    up.sys.mode ≠ .reset ∧ up.scanPhase = false ∧ (inMode .prepare).scanPhase = true
    ∧ (inMode .prepare).mgmt.fuses.debugKey1 = none
    ∧ ({ up with mgmt.fuses.debugKey1 := some 0 } : State).mgmt.fuses.debugKey1 ≠ none
    ∧ State.reset.sys.mode = .reset := by
  repeat' apply And.intro
  all_goals decide +kernel

theorem witness_SpdmNegotiatesAndAnswers :
    up.bolrothRuns = true ∧ up.sys.mode ≠ .reset ∧ up.sys.mode ≠ .prepare
    ∧ (let s : State := { up with mgmt.spdm := up.mgmt.spdm.set (spdmNo (.mctp (.i3c 0))) { version := true, caps := true, algs := true } }
       (s.mgmt.spdm.get (spdmNo (.mctp (.i3c 0)))).version = true ∧ (s.mgmt.spdm.get (spdmNo (.mctp (.i3c 0)))).caps = true
       ∧ (s.mgmt.spdm.get (spdmNo (.mctp (.i3c 0)))).algs = true)
    ∧ (up.mgmt.spdm.get 0).version = false ∧ (up.mgmt.spdm.get 0).caps = false
    ∧ (0 : Fin 8).val = 0 ∧ (inMode .provision).sys.mode = .provision
    ∧ ({ up with mgmt.ownerChain := [1] } : State).chain 1 ≠ [] ∧ 1 ≤ (({ up with mgmt.ownerChain := [1] } : State).chain 1).length := by
  repeat' apply And.intro
  all_goals decide +kernel

theorem witness_SpdmSessionsOpenAndClose :
    up.freeSession = some 0
    ∧ (let s : State := { up with mgmt.sessions := (List.range 16).foldl (fun t k => t.set k { src := some (.mctp (.i3c 0)) }) .empty }
       s.freeSession = none ∧ (s.mgmt.sessions.get (15 : Fin 16).val).src = some (.mctp (.i3c 0))
       ∧ (s.mgmt.sessions.get (15 : Fin 16).val).finished = false)
    ∧ (up.mgmt.sessions.get (15 : Fin 16).val).src ≠ some (.mctp (.i3c 0)) := by
  repeat' apply And.intro
  all_goals decide +kernel

theorem witness_I3cPortsAnswerCommonCommands :
    up.sys.mode ≠ .reset ∧ (up.i3c 0).dynAddr = none ∧ ({ up with mgmt.i3c0.dynAddr := some 8 } : State).mgmt.i3c0.dynAddr ≠ none
    ∧ 69 ≤ (69 : U16).toNat ∧ (4096 : U16).toNat ≤ 4096 ∧ (68 : U16).toNat < 69 ∧ 4096 < (4097 : U16).toNat
    ∧ State.reset.sys.mode = .reset
    ∧ up.executorFree = true ∧ 8 ≤ (8 : Byte).toNat ∧ (0xFE : Byte) ≠ 0xFF := by
  repeat' apply And.intro
  all_goals decide +kernel

theorem witness_SlotTripsNeedTheirStateAndCondition :
    ((withChan { state := .ramp }).chan 3).state = .ramp ∧ ((withChan { state := .on }).chan 3).state = .on
    ∧ ((withChan { state := .stopping }).chan 3).state = .stopping ∧ (up.chan 3).state ≠ .ramp ∧ (up.chan 3).state ≠ .on ∧ (up.chan 3).state ≠ .stopping
    ∧ (let c := shuntCode (up.slotParam 3) ((up.slotParam 3).curve.getD 7 (0, 0)).1
       c ≤ (BitVec.ofNat 16 c).toNat ∧ (BitVec.ofNat 16 (c - 1)).toNat < c)
    ∧ (43199 : U16).toNat < 4 * (up.slotParam 3).vinUv ∧ 4 * (up.slotParam 3).vinUv ≤ (43200 : U16).toNat
    ∧ 4 * (up.slotParam 3).vinOv < (52801 : U16).toNat ∧ (52800 : U16).toNat ≤ 4 * (up.slotParam 3).vinOv
    ∧ up.slots.chans.wf = true := by
  repeat' apply And.intro
  all_goals decide +kernel

theorem witness_SlotSeatingPowerGoodAndRemoval :
    (let s := withChan { state := .seating, prsntLow := true }
     (s.chan 3).state = .seating ∧ (s.chan 3).prsntLow = true)
    ∧ (up.chan 3).prsntLow = false ∧ (up.chan 3).pg = false
    ∧ (let m : SlotSample := { vin := 48000, vout := 45600, gateOk := true }
       19 * m.vin.toNat ≤ 20 * m.vout.toNat ∧ m.gateOk = true ∧ m.limiting = false ∧ ¬ 10 * m.vout.toNat < 9 * m.vin.toNat)
    ∧ (let m : SlotSample := { vin := 48000, vout := 43199, gateOk := true }
       10 * m.vout.toNat < 9 * m.vin.toNat ∧ ¬ 19 * m.vin.toNat ≤ 20 * m.vout.toNat)
    ∧ ((withChan { state := .ramp }).chan 3).state = .ramp ∧ ((withChan { state := .on, pg := true }).chan 3).pg = true
    ∧ ((withChan { state := .cooldown }).chan 3).state = .cooldown ∧ ((withChan { state := .cooldown }).chan 3).cooled = false
    ∧ ((withChan { state := .cooldown, cooled := true }).chan 3).cooled = true ∧ ((withChan { state := .stopping }).chan 3).state = .stopping := by
  repeat' apply And.intro
  all_goals decide +kernel


/-! ### One step each -/

-- The worked line of R95.
theorem test_line : lineOf (0x20310 * 2 ^ 28 + 0x5678940) = 0x80C4159E25 ∧ Machine.setOf 0x80C4159E25 = 20295461
    ∧ tagOf 0x80C4159E25 = 0x40620ACF1 := by decide +kernel
-- IDCODE of R449.
theorem test_idcode : (after .idcode up).obs.out = [.tap 0xB0640A6B] := by decide +kernel
theorem test_tap_does_nothing_in_reset : after .bypass State.reset = State.reset := by decide +kernel
-- The scan instructions work in PREPARE only and stop it (R449).
theorem test_extest_stops_prepare : (after .extest (inMode .prepare)).sys.stopped = true ∧ (after .extest up).sys.stopped = false := by
  decide +kernel

-- A port with a dynamic address keeps it; BCR is 06 (R353).
theorem test_entdaa : (after (.entdaa 0 9) (after (.entdaa 0 8) up)).mgmt.i3c0.dynAddr = some 8 := by decide +kernel
theorem test_getbcr : (after (.getbcr 0) (after (.entdaa 0 8) up)).obs.out = [.i3c 0 [0x06]] := by decide +kernel
theorem test_setmwl_range : ((after (.setmwl 0 68) (after (.entdaa 0 8) up)).i3c 0).mwl = 256
    ∧ ((after (.setmwl 0 69) (after (.entdaa 0 8) up)).i3c 0).mwl = 69 := by decide +kernel

-- 110 °C enters SAFE with cause 4 and SAFE_N is driven; 100 °C warns, 98 °C still warns, 97 °C does not (R410, R411, R456).
theorem test_thermal_safe : (after (.thermal 110 3) up).sys.mode = .safe ∧ (after (.thermal 110 3) up).sys.status.safeCause = 4
    ∧ (after (.thermal 110 3) up).sys.pins.safeN = true := by decide +kernel
theorem test_therm_warn : (after (.thermWarn 100 3) up).sys.pins.thermWarnN = true
    ∧ (after (.thermWarn 98 3) (after (.thermWarn 100 3) up)).sys.thermal.warn = true
    ∧ (after (.thermWarn 97 3) (after (.thermWarn 100 3) up)).sys.thermal.warn = false := by decide +kernel
theorem test_thermtrip : (after (.thermtrip 125 3) up).sys.mode = .reset ∧ (after (.thermtrip 125 3) up).sys.pins.thermtripN = true
    ∧ (after (.thermtrip 124 3) up).sys.mode = .service := by decide +kernel
theorem test_control_parity : (after .controlParity up).sys.status.safeCause = 3 := by decide +kernel

-- Resets (R393, R396, R402).
theorem test_cold_pin : (after .coldPin up).sys.mode = .reset ∧ (after .coldPin up).sys.status.kind = 1 := by decide +kernel
theorem test_warm_pin : (after .warmPin up).sys.mode = .reset ∧ (after .warmPin up).sys.status.kind = 3 := by decide +kernel
theorem test_rail_fault : (after (.railFault .core) up).sys.railPg = 0xE ∧ (after (.railFault .core) up).sys.railFault = 1 := by
  decide +kernel
theorem test_power_on : (after .powerOn up).sys.railPg = 0xF ∧ (after .powerOn up).sys.status.kind = 0 := by decide +kernel
-- Fuses that do not load end PREPARE at step 1 in SAFE, cause 1 (R397, R410).
theorem test_reset_release_fuses : (after (.resetRelease { fusesOk := false }) State.reset).sys.mode = .safe
    ∧ (after (.resetRelease { fusesOk := false }) State.reset).sys.status.safeCause = 1 := by decide +kernel

-- Commands: their answers (R362, R367).
-- MGMT_STATUS of R356: MODE 3, PAIR_A 4 in bits 7:5.
theorem test_mode_get : (after (.modeGet fm) up).obs.out = [.answer (.i3c 0) 0 1 0 [0x83, 0, 0, 0, 0, 0, 0, 0]] := by decide +kernel
theorem test_activate_fw : (after (.activateFw fm) up).obs.out = [.answer (.i3c 0) 0 1 3 []] := by decide +kernel
theorem test_short_input : (after (.getPhysicalPortState { fm with len := 0 } []) up).obs.out = [.answer (.i3c 0) 0 1 0x16 []] := by
  decide +kernel
theorem test_reserved_bit : (after (.getFwInfo { fm with reservedSet := true }) up).obs.out = [.answer (.i3c 0) 0 1 2 []] := by
  decide +kernel
theorem test_no_command_in_reset : (after (.modeGet fm) State.reset).obs.out = [] := by decide +kernel
-- A host that is no fabric manager is refused, and MBOX_REFUSED of its port counts (R359, R416).
theorem test_role : (after (.unresponsiveGet { src := .mbox 3 }) up).obs.out = [.answer (.mbox 3) 0 1 3 []]
    ∧ (after (.unresponsiveGet { src := .mbox 3 }) up).obs.counters.get (portCtr 3 44) = { value := 1 } := by decide +kernel
-- "A firmware handover during a fabric-wide commit": 5 ms after its start the retry hint is 45 ms (R343, R366).
theorem test_retry_hint : (after (.configConfirm fm 59) { up with sys.handover := some 1900000000, sys.ft := 1905000000 }).obs.out
    = [.answer (.i3c 0) 0 1 0x8006 [45, 0, 0, 0]] := by decide +kernel
-- SERVICE_START without an epoch in force (R400).
theorem test_service_start : (after (.serviceStart fm) (inMode .provision)).sys.mode = .provision
    ∧ (after (.serviceStart fm) { inMode .provision with tab.epoch := 1 }).sys.mode = .service := by decide +kernel
theorem test_drain_cancel : (after (.drainCancel fm) (inMode .drain)).sys.mode = .service := by decide +kernel
theorem test_stage_write : (after (.configStageWrite fm 4 2 [7, 8]) (after (.configStageWrite fm 0 2 [5, 6]) up)).mgmt.cfg.stagedLen = 6 := by
  decide +kernel
theorem test_message_limit : (after (.getResponseMessageLimit fm) (after (.setResponseMessageLimit fm 256) up)).obs.out
    = [.answer (.i3c 0) 0 2 0 [0, 1]] := by decide +kernel
-- The event that CLEAR_EVENT_RECORDS of an empty log leaves is none (R237).
theorem test_event_records : (after (.getEventRecords (.mgmt fm) .fatal) up).mgmt.ticket = 2 := by decide +kernel

-- Trunk bring-up: the ninth lane takes LOCK to MEASURE; too few lanes fail (R257).
theorem test_lane_locked : ((after (.laneLocked 2 8) (withTrunk { phase := .lock, locked := 0xFF })).trunk 2).phase = .measure := by
  decide +kernel
theorem test_lock_timeout : ((after (.lockTimeout 2) (withTrunk { phase := .lock, locked := 0x7F })).trunk 2).phase ≠ .measure
    ∧ ((after (.lockTimeout 2) (withTrunk { phase := .lock, locked := 0xFF })).trunk 2).phase = .measure := by decide +kernel
theorem test_meas_window : ((after (.measWindow 2 [0, 0, 0, 0, 9, 0, 0, 0, 0] 1) (withTrunk { phase := .measure, locked := 0x1FF })).trunk
    2).rxSkip = 4 := by decide +kernel
theorem test_lane_lock_loss : ((after (.laneLockLoss 2 8) (withTrunk { phase := .active, locked := 0x1FF })).trunk 2).spare = 1 := by
  decide +kernel
theorem test_reserved_flit : (after (.llTypeReserved 2) (withTrunk { phase := .active })).obs.counters.get (trunkCtr 2 24)
    = { value := 1 } := by decide +kernel
theorem test_audit_period : ((after .auditPeriod (withTrunk { phase := .active })).obs.out.any fun o => match o with
    | .flit 2 7 _ => true
    | _ => false) = true := by decide +kernel

-- Edge ports (R229, R231, R246).
theorem test_dl_up : ((after (.dlUp 3 { width := 8 }) { withPort { role := .host, training := true } with
    tab.ports := up.tab.ports.set 3 { role := .host, width := 4, maxRate := 5 } }).port 3).width = 4 := by decide +kernel
theorem test_link_down : ((after (.linkDown 3 .partner) hostUp).port 3).dlUp = false := by decide +kernel
theorem test_dpc : ((after (.dpcTrigger 3 .fatal) (withPort { role := .bound, dlUp := true })).port 3).dpc = true
    ∧ ((after (.dpcTrigger 3 .fatal) (withPort { role := .bound, dlUp := true })).port 3).dlUp = false := by decide +kernel
theorem test_slot_control : ((after (.slotControlWrite 3 true 1 2) (withPort { role := .bound })).port 3).hostPower = true := by
  decide +kernel

-- Work queues (R185, R195).
theorem test_sq_doorbell : ((after (.sqDoorbell 3 4) (hostQp { dbPage := 4 })).qp 5).ask = some { kind := .tailWord, count := 1 } := by
  decide +kernel
theorem test_sq_doorbell_halted : (after (.sqDoorbell 3 4) (withQp { state := .haltedError, hostPort := 3, dbPage := 4 })).obs.counters.get
    (portCtr 3 41) = { value := 1 } := by decide +kernel
theorem test_fetch_failed : ((after (.cxlIoCompletionTimeout 5 .tailWord) (withQp { state := .enabled, dbPending := true, head := 9 })).qp
    5).state = .haltedError := by decide +kernel
theorem test_completion_write : ((after (.completionWrite 5 (.ok [true]) true) (hostQp
    { completions := [{ status := 1 }], askOwn := some { kind := .ownBit, count := 1, sent := true } })).qp 5).ownStalled = true := by decide +kernel
theorem test_nop : ((after (.nop 5) (hostQp { maxJobs := 1, held := [{ seq := 1, desc := 0 }] })).qp 5).completions.length
    = 1 := by decide +kernel

-- The directory store (R126, R130).
theorem test_channel_retired : (after (.channelRetired 3 (.write 4)) up).dir.retired = 8
    ∧ (after (.channelRetired 3 (.write 4)) up).dir.reloc = some { pair := 3 } ∧ (after (.channelRetired 3 (.write 4)) up).sys.mode = .degraded
    ∧ (after (.channelRetired 3 (.write 3)) up).dir.retired = 0 := by
  decide +kernel
theorem test_pair_lost : (after (.channelRetired 3 (.write 4)) { up with dir.retired := 0x80000 }).dir.lost = 8 := by decide +kernel
theorem test_counter_parity : (after (.parityFailure (.counter 7)) up).obs.counters.get 7 = { ovf := true } := by decide +kernel
theorem test_parity_repair : (after (.parityRepair (.window 3)) { up with tab.damaged := [(.window 3, 0)] }).tab.damaged = [] := by decide +kernel

-- Slot power (R316, R318, R323 to R326).
theorem test_seat_debounce : ((after (.seatDebounce 3) (withSlot { state := .seating, prsntLow := true })).chan 3).present = true := by
  decide +kernel
theorem test_pg_assert :
    ((after (.pgAssert 3 { vin := 48000, vout := 45600, gateOk := true })
      (withSlot { state := .ramp, present := true, prsntLow := true, fmOn := true })).chan
      3).pg = true := by decide +kernel
theorem test_ramp_timeout :
    ((after (.rampTimeout 3 {}) (withSlot { state := .ramp, present := true, prsntLow := true, fmOn := true })).chan 3).fault.getLsbD 4
      = true := by decide +kernel
theorem test_fast_trip_idle : (after (.fastTrip 3 {}) up).slots.chans.get 3 = up.slots.chans.get 3 := by decide +kernel

-- Observability and time (R421, R463).
theorem test_snapshot : (after .snapshotPeriod up).sys.ft = 1000000000 ∧ (after .snapshotPeriod up).obs.slotSeq = 1 := by decide +kernel
theorem test_pps_out : Out.pps ∈ (after .ppsOut up).obs.out ∧ (after .ppsOut up).sys.ft = 1000000000 := by decide +kernel
theorem test_pps_missed : (after .ppsMissed { up with sys.pps := { present := true, missed := 255 } }).sys.pps.missed = 255 := by decide +kernel
theorem test_log_freeze : (after .maskableFreeze up).obs.status.frozen = up.freezeDue.obs.status.frozen := by decide +kernel

-- SPDM (R440): version first.
theorem test_spdm_order : (after (.getCapabilities (.doe 3)) up).obs.out = [.spdm (.doe 3) 0x7F [4]]
    ∧ (after (.getVersion (.doe 3)) up).obs.out = [.spdm (.doe 3) 0x04 [0x00, 0x12]] := by decide +kernel
theorem test_key_exchange : ((after (.keyExchange (.doe 3)) { up with
    mgmt.spdm := up.mgmt.spdm.set (spdmNo (.doe 3)) { version := true, caps := true, algs := true } }).mgmt.sessions.get 0).src
    = some (.doe 3) := by decide +kernel

-- The crossbar's owner keeps others out, and a pair reads its rank's status (R346, R351).
theorem test_crossbar_busy : (after (.crossbarAccess .pairB .mgmtCsr 0 false 8 0 false) { up with sys.owner := 2 }).obs.out = [] := by
  decide +kernel

end Sys2Proof.Tests
end

section
/-! SUPPORT. What the commands that change registers alone do: the watchdog's kick, BOOT_CONFIRMED and register
writes. -/

namespace Sys2Proof.Machine

variable {s : State}

/-! ### What the start of a command leaves -/

@[simp] theorem State.start_active : s.start.active = s.active := rfl
@[simp] theorem State.start_pairState (p : Pair) : s.start.pairState p = s.pairState p := by cases p <;> rfl
@[simp] theorem State.start_pairRegs (p : Pair) : s.start.pairRegs p = s.pairRegs p := by cases p <;> rfl

/-! ### The acts of the commands -/

theorem exec_wdtKick (p : Pair) : exec (.wdtKick p) s = .next (s.start.wdtKick p) := rfl

theorem exec_bootConfirmed : exec .bootConfirmed s = .next s.start.bootConfirm := rfl

theorem State.settlesTo_registerWrite {r : RegTarget} {off : BitVec 48} {n : Nat} {d : U64} {t : State}
    (h : s.start.registerWrite r off.toNat n d.toNat = t) : s.settlesTo (.registerWrite r off n d) t := by
  subst h; rfl

/-! ### WDT_KICK (R339) -/

theorem State.wdtKick_of_active {p : Pair} (h : s.pairState p = .active) :
    s.wdtKick p = s.updPair p fun r => { r with kicked := s.sys.ft } := if_pos h

theorem State.wdtKick_of_not_active {p : Pair} (h : s.pairState p ≠ .active) : s.wdtKick p = s := if_neg h

/-! ### BOOT_CONFIRMED (R399, R439) -/

theorem State.bootConfirm_ignored (h : s.active = none ∨ s.sys.status.bootConfirmed = true ∨ s.sys.served = false) :
    s.bootConfirm = s := by
  unfold State.bootConfirm
  cases ha : s.active with
  | none => rfl
  | some p =>
    have hb : s.sys.status.bootConfirmed ∨ ¬ s.sys.served := by simpa [ha] using h
    exact if_pos hb

/-- The fuses burn with the pair's SECURITY_VERSION and REVOKE_MASK where SVN_ADVANCE says so. -/
theorem State.bootConfirm_of_active {p : Pair} (ha : s.active = some p) (hb : s.sys.status.bootConfirmed = false)
    (hs : s.sys.served = true) :
    s.bootConfirm =
      let t : State := { s with sys.status := { s.sys.status with bootConfirmed := true } }
      if s.tab.policy.svnAdvance then
        { t with mgmt.fuses := { s.mgmt.fuses with
            svn := if s.mgmt.fuses.svn.toNat < (s.pairRegs p).svn.toNat then (s.pairRegs p).svn else s.mgmt.fuses.svn
            fwKeyRevoke := s.mgmt.fuses.fwKeyRevoke ||| (s.pairRegs p).revoke } }
      else t := by
  have hopen : ¬ (s.sys.status.bootConfirmed ∨ ¬ s.sys.served) := by simp [hb, hs]
  simp only [State.bootConfirm, ha, if_neg hopen]

/-! ### Register writes (R6, R360, R361) -/

theorem State.registerWrite_csr_of_none (h : s.active = none) (off n d : Nat) : s.registerWrite .csr off n d = s := by
  simp only [State.registerWrite, h]

theorem State.registerWrite_csr_of_active {p : Pair} (h : s.active = some p) (off n d : Nat) :
    s.registerWrite .csr off n d
      = (s.access (masterNo (if p = .a then .pairA else .pairB)) 3 off (Nat.min n 8) d true).2 := by
  simp only [State.registerWrite, h]

/-- BAR0 of a port takes writes: the port is a HOST port with its link up, and the mode is neither RESET nor PREPARE. -/
def State.bar0Open (s : State) (q : PortId) : Prop :=
  (s.port q.val).role = .host ∧ s.pointUp q.val = true ∧ s.sys.mode ≠ .reset ∧ s.sys.mode ≠ .prepare

theorem State.not_bar0Open_iff {q : PortId} : ¬ s.bar0Open q ↔
    (s.port q.val).role ≠ .host ∨ s.pointUp q.val = false ∨ s.sys.mode = .reset ∨ s.sys.mode = .prepare := by
  simp only [State.bar0Open, not_and_or, Bool.not_eq_true, not_not]

theorem State.registerWrite_bar0_of_not_open {q : PortId} (h : ¬ s.bar0Open q) (off n d : Nat) :
    s.registerWrite (.bar0 q) off n d = s :=
  if_pos (by simpa using State.not_bar0Open_iff.mp h)

theorem State.registerWrite_bar0_of_open {q : PortId} (h : s.bar0Open q) (off n d : Nat) :
    s.registerWrite (.bar0 q) off n d = s.writeBar0 q off (leBytes d (Nat.min n 8)) := by
  obtain ⟨hrole, hup, hreset, hprepare⟩ := h
  refine if_neg ?_
  simp [hrole, hup, hreset, hprepare]

theorem State.writeBar0_mailbox {off : Nat} (h : off < 0x1000) (q : PortId) (b : List Byte) :
    s.writeBar0 q off b = s.writeMailbox q off (b.take (0x1000 - off)) := if_pos h

theorem State.writeBar0_doorbells {off : Nat} (h : 0x1000 ≤ off) (q : PortId) (b : List Byte) :
    s.writeBar0 q off b =
      let o := off % 0x1000
      let t : State := if o < 4 ∧ 0 < b.length then s.sqDoorbell q.val (off / 0x1000) else s
      if o < 8 ∧ 4 < o + b.length then t.cqDoorbell q.val (off / 0x1000) else t := by
  simp only [List.length_pos_iff]
  exact if_neg (Nat.not_lt.mpr h)

end Sys2Proof.Machine
end

section
/-! The register commands change their registers and nothing else. -/

namespace Sys2Proof.Machine

/-- Settles O15: each clause is one case of its command's act; FAULT_CAPTURE_CLEAR and PEAK_CLR have one case only. -/
theorem registerCommandsWriteTheirRegisters : Obligations.RegisterCommandsWriteTheirRegisters := by
  intro s k p q off n d
  refine ⟨rfl, rfl, fun h => ?kick, fun h => ?noKick, fun h => ?notConfirmed, fun ha hb hs => ?confirmed, fun h => ?noPair,
    fun h => ?pair, fun h => ?closed, fun hrole hup hreset hprepare => ?opened⟩
  case kick => rw [exec_wdtKick, State.wdtKick_of_active (by simpa using h), State.start_sys]
  case noKick => rw [exec_wdtKick, State.wdtKick_of_not_active (by simpa using h)]
  case notConfirmed => rw [exec_bootConfirmed, State.bootConfirm_ignored (by simpa using h)]
  case confirmed =>
    rw [exec_bootConfirmed, State.bootConfirm_of_active (s := s.start) ha hb hs]
    constructor <;> intro hsvn <;> simp [hsvn]
  case noPair => exact State.settlesTo_registerWrite (State.registerWrite_csr_of_none (s := s.start) h ..)
  case pair => exact State.settlesTo_registerWrite (State.registerWrite_csr_of_active (s := s.start) h ..)
  case closed =>
    have hclosed : ¬ s.start.bar0Open q := State.not_bar0Open_iff.mpr h
    exact State.settlesTo_registerWrite (State.registerWrite_bar0_of_not_open hclosed ..)
  case opened =>
    have hopen : s.start.bar0Open q := ⟨hrole, hup, hreset, hprepare⟩
    constructor <;> intro h <;> apply State.settlesTo_registerWrite <;> rw [State.registerWrite_bar0_of_open hopen]
    · exact State.writeBar0_mailbox h ..
    · rw [State.writeBar0_doorbells h, leBytes_length]

end Sys2Proof.Machine
end

section
/-! SUPPORT. What the commands from which nothing further follows leave as it is: the face of the state, on which the
invariant of the pins and the mode hangs. -/

namespace Sys2Proof.Machine

variable {s : State}

/-! ### The branches of an effect -/

theorem State.ite_face {p : Prop} [Decidable p] {t u : State} (ht : t.face = s.face) (hu : u.face = s.face) :
    (if p then t else u).face = s.face := by
  split
  · exact ht
  · exact hu

theorem CmdRes.ite_face {p : Prop} [Decidable p] {a b : CmdRes} (ha : a.state.face = s.face) (hb : b.state.face = s.face) :
    (if p then a else b).state.face = s.face := by
  split
  · exact ha
  · exact hb

/-! ### Parts of the state that the invariant does not look at -/

@[simp] theorem State.pending_face (q : List Instr) : ({ s with pending := q } : State).face = s.face :=
  State.face_congr rfl rfl rfl rfl
@[simp] theorem State.advanceTo_face (n : Nat) : (s.advanceTo n).face = s.face := by
  unfold State.advanceTo
  split
  · rfl
  · exact State.face_sys rfl rfl rfl rfl rfl rfl rfl rfl rfl
@[simp] theorem State.resume_face (r : Running) : (s.resume r).face = s.face := State.mgmt_face _
@[simp] theorem State.dropStore_face (a n : Nat) : (s.dropStore a n).face = s.face :=
  State.face_sys rfl rfl rfl rfl rfl rfl rfl rfl rfl

/-- Time alone passes in a tick. -/
@[simp] theorem State.idleTick_face : s.idleTick.face = s.face := by
  unfold State.idleTick
  split
  · exact (State.advanceTo_face _).trans (State.face_sys rfl rfl rfl rfl rfl rfl rfl rfl rfl)
  · exact State.obs_face _

/-! ### Registers, time and I3C -/

@[simp] theorem State.wdtKick_face (p : Pair) : (s.wdtKick p).face = s.face := by
  unfold State.wdtKick; split <;> simp
/-- BOOT_CONFIRMED marks the status, and may burn fuses. -/
@[simp] theorem State.bootConfirm_face : s.bootConfirm.face = s.face := by
  have hmark : ({ s with sys.status := { s.sys.status with bootConfirmed := true } } : State).face = s.face :=
    State.face_sys rfl rfl rfl rfl rfl rfl rfl rfl rfl
  unfold State.bootConfirm
  split
  · rfl
  · split
    · rfl
    · dsimp only
      split
      · exact (State.mgmt_face _).trans hmark
      · exact hmark
@[simp] theorem State.clearCapture_face (k : Nat) : (s.clearCapture k).face = s.face := State.tab_face _
@[simp] theorem State.peakClr_face : s.peakClr.face = s.face := State.face_sys rfl rfl rfl rfl rfl rfl rfl rfl rfl
@[simp] theorem State.ppsMissed_face : s.ppsMissed.face = s.face := by
  unfold State.ppsMissed
  dsimp only
  split
  · exact State.face_sys rfl rfl rfl rfl rfl rfl rfl rfl rfl
  · rfl
@[simp] theorem State.reservedFlit_face (t : Nat) : (s.reservedFlit t).face = s.face := by
  unfold State.reservedFlit; split <;> simp
@[simp] theorem State.setEid_face (c : CmdSrc) (e : Byte) : (s.setEid c e).face = s.face := by
  unfold State.setEid
  split
  · rfl
  · dsimp only
    rw [State.emit_face]
    split <;> simp
@[simp] theorem State.entdaa_face (k : Fin 2) (a : BitVec 7) : (s.entdaa k a).face = s.face :=
  State.ccc_face _ _ _ fun _ => by split <;> simp
@[simp] theorem State.rstdaa_face (k : Fin 2) : (s.rstdaa k).face = s.face := State.ccc_face _ _ _ fun _ => by simp
@[simp] theorem State.enec_face (k : Fin 2) (e : Byte) : (s.enec k e).face = s.face :=
  State.ccc_face _ _ _ fun _ => by split <;> simp
@[simp] theorem State.disec_face (k : Fin 2) (e : Byte) : (s.disec k e).face = s.face :=
  State.ccc_face _ _ _ fun _ => by split <;> simp
@[simp] theorem State.setmwl_face (k : Fin 2) (n : U16) : (s.setmwl k n).face = s.face :=
  State.ccc_face _ _ _ fun _ => by split <;> simp
@[simp] theorem State.setmrl_face (k : Fin 2) (n : U16) : (s.setmrl k n).face = s.face :=
  State.ccc_face _ _ _ fun _ => by split <;> simp

/-! ### The TAP -/

@[simp] theorem State.tapIdcode_face : s.tapIdcode.face = s.face := by
  unfold State.tapIdcode; split <;> simp
/-- A scan stops PREPARE and clears the key store, and touches nothing else of the group. -/
@[simp] theorem State.tapScan_face (i : TapInstr) : (s.tapScan i).face = s.face := by
  unfold State.tapScan
  split
  · simp
  · exact State.face_sys rfl rfl rfl rfl rfl rfl rfl rfl rfl
@[simp] theorem State.tapFuse_face (h : BitVec 384) : (s.tapFuse h).face = s.face := by
  unfold State.tapFuse; split <;> simp

/-! ### SPDM (R440, R441) -/

@[simp] theorem State.spdmVersion_face (q : SpdmSrc) : (s.spdmVersion q).face = s.face :=
  State.spdm_face _ _ _ fun _ => by simp
@[simp] theorem State.spdmCaps_face (q : SpdmSrc) : (s.spdmCaps q).face = s.face :=
  State.spdm_face _ _ _ fun _ =>
    State.ite_face (State.spdmError_face _ _) ((State.emit_face _).trans (State.mgmt_face _))
@[simp] theorem State.spdmAlgs_face (q : SpdmSrc) : (s.spdmAlgs q).face = s.face :=
  State.spdm_face _ _ _ fun _ =>
    State.ite_face (State.spdmError_face _ _) ((State.emit_face _).trans (State.mgmt_face _))
@[simp] theorem State.spdmDigests_face (q : SpdmSrc) : (s.spdmDigests q).face = s.face :=
  State.spdm_face _ _ _ fun _ => State.emit_face _
@[simp] theorem State.spdmCertificate_face (q : SpdmSrc) (k o n : Nat) : (s.spdmCertificate q k o n).face = s.face :=
  State.spdm_face _ _ _ fun _ =>
    State.ite_face (State.spdmError_face _ _) (State.emit_face _)
@[simp] theorem State.spdmChallenge_face (q : SpdmSrc) (k : Nat) (n : BitVec 256) : (s.spdmChallenge q k n).face = s.face :=
  State.spdm_face _ _ _ fun _ => by split <;> simp
@[simp] theorem State.spdmMeasurements_face (q : SpdmSrc) (k : Nat) (b : Bool) : (s.spdmMeasurements q k b).face = s.face :=
  State.spdm_face _ _ _ fun _ =>
    State.ite_face (State.emit_face _) <| State.ite_face (State.emit_face _) <|
      State.ite_face (State.spdmError_face _ _) (State.emit_face _)
@[simp] theorem State.spdmKeyExchange_face (q : SpdmSrc) : (s.spdmKeyExchange q).face = s.face :=
  State.spdm_face _ _ _ fun _ => by split <;> simp
@[simp] theorem State.spdmFinish_face (q : SpdmSrc) (k : Nat) : (s.spdmFinish q k).face = s.face :=
  State.inSession_face _ _ _ _ fun _ => by simp
@[simp] theorem State.spdmEnd_face (q : SpdmSrc) (k : Nat) : (s.spdmEnd q k).face = s.face :=
  State.inSession_face _ _ _ _ fun _ => by simp
@[simp] theorem State.spdmHeartbeat_face (q : SpdmSrc) (k : Nat) : (s.spdmHeartbeat q k).face = s.face :=
  State.inSession_face _ _ _ _ fun _ => State.emit_face _
@[simp] theorem State.spdmKeyUpdate_face (q : SpdmSrc) (k : Nat) : (s.spdmKeyUpdate q k).face = s.face :=
  State.inSession_face _ _ _ _ fun _ => State.emit_face _
@[simp] theorem State.spdmSetCertificate_face (q : SpdmSrc) (k : Nat) (c : List Byte) :
    (s.spdmSetCertificate q k c).face = s.face :=
  State.spdm_face _ _ _ fun _ => State.ite_face (State.spdmError_face _ _) ((State.emit_face _).trans (State.mgmt_face _))

/-! ### Management commands (R369, R370) -/

/-- A query that only answers leaves the face. -/
theorem State.query_face (i : Instr) (h : CmdHdr) (c : CmdSpec) (code : Nat) (answer : State → List Byte) :
    (s.command i h c none fun u _ => .done u code (answer u)).face = s.face :=
  State.command_face _ _ _ _ fun _ _ => rfl

@[simp] theorem State.cmdIdentify_face (i : Instr) (h : CmdHdr) : (s.cmdIdentify i h).face = s.face :=
  State.command_face _ _ _ _ fun _ _ => State.free_face
@[simp] theorem State.cmdSetLimit_face (i : Instr) (h : CmdHdr) (n : Nat) : (s.cmdSetLimit i h n).face = s.face :=
  State.command_face _ _ _ _ fun _ _ => State.mgmt_face _
@[simp] theorem State.cmdTransferFw_face (i : Instr) (h : CmdHdr) (k o : Nat) (b : List Byte) :
    (s.cmdTransferFw i h k o b).face = s.face :=
  State.command_face _ _ _ _ fun _ _ => by
    split
    · rfl
    · exact CmdRes.ite_face rfl (State.mgmt_face _)
@[simp] theorem State.cmdPpbConfig_face (i : Instr) (h : CmdHdr) (p : Nat) (r : BitVec 12) (w : Bool) (d : U32)
    (a : Option U32) : (s.cmdPpbConfig i h p r w d a).face = s.face :=
  State.command_face _ _ _ _ fun _ _ => CmdRes.ite_face rfl (State.ite_face (State.emit_face _) rfl)
@[simp] theorem State.mldCommand_face (i : Instr) (h : CmdHdr) (o p : Nat) (r a : List Byte) (c : Bool) :
    (s.mldCommand i h o p r a c).face = s.face :=
  State.command_face _ _ _ _ fun _ _ => CmdRes.ite_face rfl (State.emit_face _)
@[simp] theorem State.cmdSlotGetStatus_face (i : Instr) (h : CmdHdr) (n : Nat) : (s.cmdSlotGetStatus i h n).face = s.face :=
  State.command_face _ _ _ _ fun _ _ => State.slotTicks_face
@[simp] theorem State.cmdFabricDiscover_face (i : Instr) (h : CmdHdr) : (s.cmdFabricDiscover i h).face = s.face :=
  State.command_face _ _ _ _ fun _ _ => CmdRes.ite_face rfl rfl
@[simp] theorem State.cmdConfigRead_face (i : Instr) (h : CmdHdr) (v : Byte) (o : U32) (n : U16) :
    (s.cmdConfigRead i h v o n).face = s.face :=
  State.command_face _ _ _ _ fun _ _ => by split <;> rfl
/-- Staging touches the image slots and the bytes of the store behind them. -/
@[simp] theorem State.cmdConfigStageWrite_face (i : Instr) (h : CmdHdr) (o n : U32) (b : List Byte) :
    (s.cmdConfigStageWrite i h o n b).face = s.face :=
  State.command_face _ _ _ _ fun _ _ =>
    CmdRes.ite_face rfl <| CmdRes.ite_face (State.mgmt_face _) <| CmdRes.ite_face rfl <| CmdRes.ite_face rfl <|
      (State.mgmt_face _).trans (State.dropStore_face _ _)
@[simp] theorem State.cmdArchiveRead_face (i : Instr) (h : CmdHdr) (k : Byte) (o : U32) (n : U16) :
    (s.cmdArchiveRead i h k o n).face = s.face :=
  State.command_face _ _ _ _ fun _ _ =>
    CmdRes.ite_face (CmdRes.ite_face rfl rfl) (CmdRes.ite_face rfl (State.byteValues_face _))

/-! ### Event logs and the pool view (R28, R237) -/

@[simp] theorem State.getEvents_face (i : Instr) (t : EventTarget) (l : EventLog) : (s.getEvents i t l).face = s.face :=
  State.eventCommand_face _ _ _ _ _ _ _ fun _ => rfl
@[simp] theorem State.clearEvents_face (i : Instr) (t : EventTarget) (l : EventLog) (a : Bool) (n : Nat) :
    (s.clearEvents i t l a n).face = s.face :=
  State.eventCommand_face _ _ _ _ _ _ _ fun _ => State.setLogs_face _ _
@[simp] theorem State.getPolicy_face (i : Instr) (t : EventTarget) : (s.getPolicy i t).face = s.face :=
  State.eventCommand_face _ _ _ _ _ _ _ fun _ => rfl
@[simp] theorem State.setPolicy_face (i : Instr) (t : EventTarget) (p : BitVec 40) : (s.setPolicy i t p).face = s.face :=
  State.eventCommand_face _ _ _ _ _ _ _ fun _ => State.setLogs_face _ _
@[simp] theorem State.supportedLogs_face (i : Instr) (t : EventTarget) : (s.supportedLogs i t).face = s.face :=
  State.eventCommand_face _ _ _ _ _ _ _ fun _ => rfl
@[simp] theorem State.getLogBytes_face (i : Instr) (t : EventTarget) (o n : Nat) : (s.getLogBytes i t o n).face = s.face :=
  State.eventCommand_face _ _ _ _ _ _ _ fun _ => State.effectsLog_face _

/-- A query to a pool view leaves the face. -/
theorem State.poolQuery_face (p : PoolHdr) (port code : Nat) (answer : State → List Byte) :
    (s.poolCommand p fun u => u.poolAnswer port code (answer u)).face = s.face :=
  State.poolCommand_face _ _ fun _ => State.poolAnswer_face _ _ _

end Sys2Proof.Machine
end

section
/-! SUPPORT. The three forms of a command's effect, and that every step keeps the invariant of the pins and the mode. -/

namespace Sys2Proof.Machine

variable {s : State}

/-- The forms that the outcome of a command has in state `s`. What follows from a command puts the pins and the mode in order;
where nothing follows, the effect leaves them alone. -/
inductive EffectForm (s : State) : Host.Outcome State Fault Refusal → Prop
  /-- The data plane and the engines settle. -/
  | settles (f : State → State) : EffectForm s (act f s)
  /-- The mode and the pins follow. -/
  | quietly (f : State → State) : EffectForm s (quiet f s)
  /-- Nothing follows. -/
  | plainly (f : State → State) (hf : ∀ u : State, (f u).face = u.face) : EffectForm s (plain f s)

/-- Every command has one of the forms. -/
theorem exec_effectForm (c : Instr) (s : State) : EffectForm s (exec c s) := by
  unfold exec
  cases c with
  | powerOn | coldPin | warmPin | railFault | resetRelease | released | controlParity | thermal | thermtrip | thermWarn
  | timeInEdge | timeInLost | pairBoot | journalApply | standbyStalled | lockstepMismatch | watchdogExpiry
  | handoverComplete | registerWrite | crossbarAccess | setTimestamp | physicalPortControl | bindVppb | unbindVppb
  | addDynamicCapacityResponse | releaseDynamicCapacity | configCommit | configConfirm | configRollback | tenantUnbind
  | tenantRemove | queueEnable | queueReset | queueShutdown | tenantQuiesce | tileMovedRelease | slotPowerOn
  | slotPowerOff | slotClearFault | scrubDir | channelRetire | portRetrain | unresponsiveClear | logFreeze | debugEnable
  | debugDisable | ideKeyRefresh | serviceStart | handover | pairReset | drain | drainCancel | epochFlip
  | confirmDeadline | rollbackFlip | epochDrained | warmRestore | digest | digestSend | gossipEvaluate | laneLocked
  | lockTimeout | measWindow | laneAnn | init | initTimeout | retryDelay | goodCrcTimeout | syncPatternSeen
  | failoverWait | idle | payload | laneCtl | time | audit | failover | resyncReq | ackTimer | replayTimer | auditPeriod
  | timePeriod | qualityInterval | laneLockLoss | egressPick | gateBoundary | meterRefresh | hazelPass | dlUp | linkDown
  | laneFailure | l0pRequest | hotReset | perstDelay | linkUpTimeout | memberSetup | hostPortStart | dpcTrigger
  | dpcClear | ideFail | viral | slotControlWrite | sqDoorbell | cqDoorbell | descriptorFetch | completionWrite
  | ownReread | nop | copyTile | zeroTile | mirrorAttach | mirrorSplit | verifyTile | scrubDirJob | sweepAndCopy
  | switchover | holdExpiry | noCache | zeroingDone | liveLogDrain | addTimeout | mreq | mwr | snp | biconf | rsp
  | attachedWriteback | cache | io | waitingMessageStart | lifetimeDeadline | snoopDeadline | channelRetired
  | relocationDone | patrol | candidateSweep | sweepDone | parityFailure | parityRepair | dieLinkFailure | prsntNLow
  | seatDebounce | removed | pgAssert | pgDeassert | shortInRamp | currentLimit | rampTimeout | breaker | fastTrip
  | undervoltage | overvoltage | channelFault | cooldownEnd | perstLead | retryCountReset | bandwidthWindow | telemPeriod
  | debugExpiry | dbgAccess | vendorDefinedRequest | vinWithinWindow | configurationRequestsAllowed | ideRefresh
  | cxlIoCompletionTimeout => exact .settles _
  | debugDisableN | d2dLaneRepair | maskableFreeze | archiveDone | snapshotPeriod | alertIbi | ppsOut => exact .quietly _
  | getResponseMessageLimit | getFwInfo | activateFw | getTimestamp | identifySwitchDevice | getPhysicalPortState
  | getVirtualCxlSwitchInfo | getDcdInfo | getHostDcRegionConfiguration | setDcRegionConfiguration
  | getDcRegionExtentLists | initiateDcAdd | initiateDcRelease | configGetState | gossipGet | tenantGet | queueStatus
  | tileEntryGet | migSlotGet | trunkGetStatus | counterRead | txnRead | unresponsiveGet | logRead | modeGet | getResult =>
    exact .plainly _ fun _ => State.query_face _ _ _ _ _
  | identifyMemoryDevice | getDynamicCapacityConfiguration | getDynamicCapacityExtentList =>
    exact .plainly _ fun _ => State.poolQuery_face _ _ _ _
  | tunnelManagementCommand | getLdInfo | getLdAllocations | setLdAllocations =>
    exact .plainly _ fun _ => State.mldCommand_face _ _ _ _ _ _ _
  | getpid | getbcr | getdcr | getstatus | getmwl | getmrl => exact .plainly _ fun _ => State.cccRead_face _ _
  | extest | clamp | highz | extestPulse | extestTrain => exact .plainly _ fun _ => State.tapScan_face _
  | bypass | samplePreload => exact .plainly _ fun _ => State.tapLoad_face _
  | filler => exact .plainly _ fun _ => rfl
  | wdtKick => exact .plainly _ fun _ => State.wdtKick_face _
  | bootConfirmed => exact .plainly _ fun _ => State.bootConfirm_face
  | faultCaptureClear => exact .plainly _ fun _ => State.clearCapture_face _
  | peakClr => exact .plainly _ fun _ => State.peakClr_face
  | ppsMissed => exact .plainly _ fun _ => State.ppsMissed_face
  | llTypeReserved => exact .plainly _ fun _ => State.reservedFlit_face _
  | setEndpointId => exact .plainly _ fun _ => State.setEid_face _ _
  | entdaa => exact .plainly _ fun _ => State.entdaa_face _ _
  | rstdaa => exact .plainly _ fun _ => State.rstdaa_face _
  | enec => exact .plainly _ fun _ => State.enec_face _ _
  | disec => exact .plainly _ fun _ => State.disec_face _ _
  | setmwl => exact .plainly _ fun _ => State.setmwl_face _ _
  | setmrl => exact .plainly _ fun _ => State.setmrl_face _ _
  | idcode => exact .plainly _ fun _ => State.tapIdcode_face
  | fuseProg => exact .plainly _ fun _ => State.tapFuse_face _
  | getVersion => exact .plainly _ fun _ => State.spdmVersion_face _
  | getCapabilities => exact .plainly _ fun _ => State.spdmCaps_face _
  | negotiateAlgorithms => exact .plainly _ fun _ => State.spdmAlgs_face _
  | getDigests => exact .plainly _ fun _ => State.spdmDigests_face _
  | getCertificate => exact .plainly _ fun _ => State.spdmCertificate_face _ _ _ _
  | challenge => exact .plainly _ fun _ => State.spdmChallenge_face _ _ _
  | getMeasurements => exact .plainly _ fun _ => State.spdmMeasurements_face _ _ _
  | keyExchange => exact .plainly _ fun _ => State.spdmKeyExchange_face _
  | finish => exact .plainly _ fun _ => State.spdmFinish_face _ _
  | endSession => exact .plainly _ fun _ => State.spdmEnd_face _ _
  | heartbeat => exact .plainly _ fun _ => State.spdmHeartbeat_face _ _
  | keyUpdate => exact .plainly _ fun _ => State.spdmKeyUpdate_face _ _
  | setCertificate => exact .plainly _ fun _ => State.spdmSetCertificate_face _ _ _
  | identify => exact .plainly _ fun _ => State.cmdIdentify_face _ _
  | setResponseMessageLimit => exact .plainly _ fun _ => State.cmdSetLimit_face _ _ _
  | transferFw => exact .plainly _ fun _ => State.cmdTransferFw_face _ _ _ _ _
  | sendPpbCxlIoConfigurationRequest => exact .plainly _ fun _ => State.cmdPpbConfig_face _ _ _ _ _ _ _
  | slotGetStatus => exact .plainly _ fun _ => State.cmdSlotGetStatus_face _ _ _
  | fabricDiscover => exact .plainly _ fun _ => State.cmdFabricDiscover_face _ _
  | configRead => exact .plainly _ fun _ => State.cmdConfigRead_face _ _ _ _ _
  | configStageWrite => exact .plainly _ fun _ => State.cmdConfigStageWrite_face _ _ _ _ _
  | archiveRead => exact .plainly _ fun _ => State.cmdArchiveRead_face _ _ _ _ _
  | getEventRecords => exact .plainly _ fun _ => State.getEvents_face _ _ _
  | clearEventRecords => exact .plainly _ fun _ => State.clearEvents_face _ _ _ _ _
  | getEventInterruptPolicy => exact .plainly _ fun _ => State.getPolicy_face _ _
  | setEventInterruptPolicy => exact .plainly _ fun _ => State.setPolicy_face _ _ _
  | getSupportedLogs => exact .plainly _ fun _ => State.supportedLogs_face _ _
  | getLog => exact .plainly _ fun _ => State.getLogBytes_face _ _ _ _

theorem EffectForm.exists_next {o : Host.Outcome State Fault Refusal} (h : EffectForm s o) : ∃ t, o = .next t := by
  cases h with
  | settles f => exact ⟨_, rfl⟩
  | quietly f => exact ⟨_, rfl⟩
  | plainly f hf => exact ⟨_, rfl⟩

theorem EffectForm.inv {o : Host.Outcome State Fault Refusal} (h : EffectForm s o) (hs : s.inv) {t : State} (ho : o = .next t) :
    t.inv := by
  cases h with
  | settles f => exact act_inv ho
  | quietly f => exact quiet_inv ho
  | plainly f hf => exact plain_inv hf hs ho

/-- A command runs from the state without it in the queue, a resumed one from the state that takes it up: both have the face
of the state before the step. -/
theorem step_inv (hs : s.inv) {t : State} (h : step s = .next t) : t.inv := by
  unfold step at h
  split at h
  case h_1 c rest _ => exact (exec_effectForm c _).inv ((State.inv_congr (State.pending_face rest)).mpr hs) h
  case h_2 =>
    split at h
    case h_1 r _ => exact (exec_effectForm r.instr _).inv ((State.inv_congr (State.resume_face r)).mpr hs) h
    case h_2 =>
      cases h
      exact (State.inv_congr State.idleTick_face).mpr hs

theorem State.reset_inv : State.reset.inv := by
  have hmode : State.reset.sys.mode = .reset := rfl
  refine ⟨rfl, fun h => ?_, fun h => ?_⟩
  · rw [hmode] at h; cases h
  · rw [hmode] at h; cases h

end Sys2Proof.Machine
end

section
/-! The block never stops, and the invariant of the pins and the mode holds of every state it reaches. -/

namespace Sys2Proof.Machine

/-- Settles O3: each form of a command's effect is a next state. -/
theorem noCommandStopsTheBlock : Obligations.NoCommandStopsTheBlock := fun c s => (exec_effectForm c s).exists_next

/-- Settles O4. -/
theorem invariantAtReset : Obligations.InvariantAtReset := State.reset_inv

/-- Settles O5: what follows a command restores the invariant, whatever the command did; a command that nothing follows, the
queue, the resumption and the tick leave all that it looks at. -/
theorem everyStepKeepsInvariant : Obligations.EveryStepKeepsInvariant := fun _ _ hs h => step_inv hs h

end Sys2Proof.Machine
end

section
/-! SUPPORT. Commands taken at once that change the mode: how the action of such a command gives its outcome, and the entry
into SERVICE. -/

namespace Sys2Proof.Machine

variable {s : State} {i : Instr} {h : CmdHdr} {c : CmdSpec}

/-! ### What the INTENT record leaves -/

@[simp] theorem State.intended_ft (h : CmdHdr) : (s.intended h).sys.ft = s.sys.ft := rfl
@[simp] theorem State.intended_face (h : CmdHdr) : (s.intended h).face = s.face :=
  (State.journal_face _ _ _).trans ((State.issueTicket_face _).trans State.start_face)
@[simp] theorem State.intended_conflictBytes (h : CmdHdr) (k o n r : Nat) :
    (s.intended h).conflictBytes k o n r = s.conflictBytes k o n r := rfl

/-! ### The action of a command gives its outcome -/

/-- A command whose action ends well on the state with its INTENT record. -/
theorem State.changeSettles_of_ok {run : State → Nat → CmdRes} {f : State → State} (hc : c.changes = true)
    (hexec : exec i s = act (fun t => t.command i h c none run) s)
    (hrun : run (s.intended h) (s.ticketOf h.src) = ok (f (s.intended h))) : s.changeSettles i h c f [] := by
  intro htakes
  rw [hexec, act, State.takes_change htakes hc run _ _ _ rfl hrun]

/-- A command whose action meets a conflict with the state. -/
theorem State.turnsAway_of_conflict {run : State → Nat → CmdRes} {k o n : Nat} (hc : c.changes = true)
    (hexec : exec i s = act (fun t => t.command i h c none run) s)
    (hrun : run (s.intended h) (s.ticketOf h.src) = conflict (s.intended h) k o n) :
    s.turnsAway i h c rcConflict (s.conflictBytes k o n 0) := by
  intro htakes
  rw [hexec, act, State.takes_refuse htakes hc run _ _ (by decide) hrun, State.intended_conflictBytes]

theorem exec_serviceStart : exec (.serviceStart h) s = act (fun t => t.cmdServiceStart (.serviceStart h) h) s := rfl
theorem exec_drain : exec (.drain h) s = act (fun t => t.cmdDrain (.drain h) h) s := rfl
theorem exec_drainCancel : exec (.drainCancel h) s = act (fun t => t.cmdDrainCancel (.drainCancel h) h) s := rfl

/-! ### The entry into SERVICE (R13, R400) -/

/-- The mode that is due hangs on the face. -/
theorem State.serviceMode_congr {t : State} (hface : t.face = s.face) : t.serviceMode = s.serviceMode := by
  simp only [State.face, Prod.mk.injEq] at hface
  obtain ⟨-, -, -, -, hretired⟩ := hface
  unfold State.serviceMode
  rw [hretired]

/-- From SERVICE the mode settles on the one that is due. -/
theorem State.settleMode_setMode_service_sys : (s.setMode .service).settleMode.sys = { s.sys with mode := s.serviceMode } := by
  simp [State.settleMode_sys]

/-- The entry into SERVICE leaves the group `sys` with the mode that is due, and with what R401 starts. -/
theorem State.enterService_sys : s.enterService.sys = { s.sys with
    served := true, warmPending := false, hostStartDue := some (s.sys.ft + 10000000000), mode := s.serviceMode } := by
  unfold State.enterService
  dsimp only
  rw [Laws.foldl_keep State.sys (fun t p => State.updPort_sys t p _),
    Laws.foldl_keep State.sys (fun _ k => State.startTrunk_sys k), State.settleMode_setMode_service_sys]
  split <;> rfl

end Sys2Proof.Machine
end

section
/-! SERVICE_START, DRAIN and DRAIN_CANCEL change the mode. -/

namespace Sys2Proof.Machine

/-- Settles O48: each clause is one branch of its command's action, on the state with the INTENT record, whose mode and tables
are those of `s`. -/
theorem serviceDrainAndCancelChangeTheMode : Obligations.ServiceDrainAndCancelChangeTheMode := by
  intro s h
  refine ⟨fun hmode => ⟨fun hepoch => ⟨?start, ?startMode, ?startServed, ?startDue⟩, fun hepoch => ?noEpoch⟩,
    fun hmode => ?notProvision, fun hmode => ?drain, fun hservice hdegraded => ?notServing,
    fun hmode => ?cancel, fun hmode => ?notDraining⟩
  case start => exact State.changeSettles_of_ok rfl exec_serviceStart ((if_neg (not_not.mpr hmode)).trans (if_neg hepoch))
  case startMode =>
    rw [State.enterService_sys]
    dsimp only
    exact State.serviceMode_congr (State.intended_face h)
  case startServed => rw [State.enterService_sys]
  case startDue => rw [State.enterService_sys, State.intended_ft]
  case noEpoch => exact State.turnsAway_of_conflict rfl exec_serviceStart ((if_neg (not_not.mpr hmode)).trans (if_pos hepoch))
  case notProvision => exact State.turnsAway_of_conflict rfl exec_serviceStart (if_pos hmode)
  case drain =>
    have hserving : ¬ (s.sys.mode ≠ .service ∧ s.sys.mode ≠ .degraded) := by simpa [or_iff_not_imp_left] using hmode
    exact State.changeSettles_of_ok rfl exec_drain (if_neg hserving)
  case notServing => exact State.turnsAway_of_conflict rfl exec_drain (if_pos ⟨hservice, hdegraded⟩)
  case cancel => exact State.changeSettles_of_ok rfl exec_drainCancel (if_neg (not_not.mpr hmode))
  case notDraining => exact State.turnsAway_of_conflict rfl exec_drainCancel (if_pos hmode)

end Sys2Proof.Machine
end

section
/-! SUPPORT. Commands taken at once: how the action of one from which nothing follows, or of an L command, gives its outcome. -/

namespace Sys2Proof.Machine

variable {s : State} {i : Instr} {h : CmdHdr} {c : CmdSpec} {run : State → Nat → CmdRes}

/-- A command that changes state and whose action ends well on the state with its INTENT record. -/
theorem State.changeEnds_of_done {f : State → State} {p : List Byte} (hc : c.changes = true)
    (hexec : exec i s = plain (fun t => t.command i h c none run) s)
    (hrun : run (s.intended h) (s.ticketOf h.src) = .done (f (s.intended h)) rcSuccess p) : s.changeEnds i h c f p := by
  intro htakes
  rw [hexec, plain, State.takes_change htakes hc run _ _ _ rfl hrun]

/-- A command that changes state and that its own rules turn away. -/
theorem State.queryDeclines_of_refused {code : Nat} {p : List Byte} (hc : c.changes = true) (hcode : code ≠ rcSuccess)
    (hexec : exec i s = plain (fun t => t.command i h c none run) s)
    (hrun : run (s.intended h) (s.ticketOf h.src) = .done (s.intended h) code p) : s.queryDeclines i h c code p := by
  intro htakes
  rw [hexec, plain, State.takes_refuse htakes hc run _ _ hcode hrun]

/-- An L command that the data plane follows up and whose action starts its work on the state with its INTENT record. -/
theorem State.changeWaits_of_wait {f : State → State} (hc : c.changes = true)
    (hexec : exec i s = act (fun t => t.command i h c none run) s)
    (hrun : run (s.intended h) (s.ticketOf h.src) = .wait (f (s.intended h))) : s.changeWaits i h c f := by
  intro htakes
  rw [hexec, act, State.takes_wait htakes hc run _ hrun]

/-- A query whose action brings the machine to `t`. -/
theorem exec_eq_respond_of_done {t : State} {code : Nat} {p : List Byte} (hc : c.changes = false)
    (hexec : exec i s = plain (fun t => t.command i h c none run) s)
    (hrun : run (s.ticketed h) (s.ticketOf h.src) = .done t code p) (htakes : s.takes i h c) :
    exec i s = .next (t.respond i h.src h.tag (s.ticketOf h.src) code p) := by
  rw [hexec, plain, State.takes_done htakes hc run _ _ _ hrun]

/-- A query whose action only answers. -/
theorem State.queryDeclines_of_done {code : Nat} {p : List Byte} (hc : c.changes = false)
    (hexec : exec i s = plain (fun t => t.command i h c none run) s)
    (hrun : run (s.ticketed h) (s.ticketOf h.src) = .done (s.ticketed h) code p) : s.queryDeclines i h c code p :=
  exec_eq_respond_of_done hc hexec hrun

end Sys2Proof.Machine
end

section
/-! Switch settings, and the four commands that Bolroth does not support (R304, R369). -/

namespace Sys2Proof.Machine

variable {s : State} {i : Instr} {h : CmdHdr}

/-- An unsupported command answers so and changes nothing else. -/
theorem State.unsupported_declines {op : Nat} (hexec : exec i s = plain (fun t => t.cmdUnsupported i h op) s) :
    s.queryDeclines i h { opcode := op } rcUnsupported [] :=
  State.queryDeclines_of_done rfl hexec rfl

theorem exec_setResponseMessageLimit (limit : Nat) : exec (.setResponseMessageLimit h limit) s =
    plain (fun t => t.cmdSetLimit (.setResponseMessageLimit h limit) h limit) s := rfl
theorem exec_transferFw (slot off : Nat) (bytes : List Byte) : exec (.transferFw h slot off bytes) s =
    plain (fun t => t.cmdTransferFw (.transferFw h slot off bytes) h slot off bytes) s := rfl
theorem exec_setTimestamp (t : U64) : exec (.setTimestamp h t) s = act (fun u => u.cmdSetTimestamp (.setTimestamp h t) h t) s := rfl
theorem exec_activateFw : exec (.activateFw h) s = plain (fun t => t.cmdUnsupported (.activateFw h) h 0x0202) s := rfl
theorem exec_setDcRegionConfiguration : exec (.setDcRegionConfiguration h) s =
    plain (fun t => t.cmdUnsupported (.setDcRegionConfiguration h) h 0x5602) s := rfl
theorem exec_initiateDcAdd : exec (.initiateDcAdd h) s = plain (fun t => t.cmdUnsupported (.initiateDcAdd h) h 0x5604) s := rfl
theorem exec_initiateDcRelease : exec (.initiateDcRelease h) s =
    plain (fun t => t.cmdUnsupported (.initiateDcRelease h) h 0x5605) s := rfl

@[simp] theorem State.intended_active (h : CmdHdr) : (s.intended h).active = s.active := rfl

/-- The bytes of Transfer FW go into the slot that the ACTIVE pair did not boot from. -/
theorem State.transferFw_writes (p : Pair) (off : Nat) (bytes : List Byte) (hactive : s.active = some p) :
    s.changeEnds (.transferFw h (if (s.pairRegs p).imageSlot then 1 else 2) off bytes) h
      { opcode := 0x0201, bad := decide (0x2000000 < off + bytes.length), changes := true }
      (fun t => { t with mgmt.flash := bytes.zipIdx.foldl (fun f b =>
        f.set (((if (s.pairRegs p).imageSlot then 1 else 2) - 1) * 0x2000000 + off + b.2) (some b.1)) t.mgmt.flash }) [] := by
  refine State.changeEnds_of_done rfl (exec_transferFw _ off bytes) ?_
  dsimp only
  rw [State.intended_active, hactive]
  exact if_neg (not_not.mpr rfl)

/-- Set Timestamp on the time root moves fabric time forward (R304). -/
theorem State.setTimestamp_advances (t : U64) (hroot : s.isRoot = true) (htime : s.sys.ft ≤ t.toNat) :
    s.changeSettles (.setTimestamp h t) h { opcode := 0x0301, len := 8, changes := true } (fun u => u.advanceTo t.toNat) [] := by
  have hforward : ¬ (¬ s.isRoot = true ∨ t.toNat < s.sys.ft) := not_or.mpr ⟨not_not.mpr hroot, Nat.not_lt.mpr htime⟩
  exact State.changeSettles_of_ok rfl (exec_setTimestamp t) (if_neg hforward)

/-- Settles O37: each command's action ends on the state with its INTENT record in the branch that its condition names; the
unsupported ones have no other. -/
theorem switchSettingsTakenOrUnsupported : Obligations.SwitchSettingsTakenOrUnsupported :=
  ⟨fun _ _ => ⟨fun limit => State.changeEnds_of_done rfl (exec_setResponseMessageLimit limit) rfl,
      State.transferFw_writes, State.setTimestamp_advances⟩,
    fun _ _ => ⟨State.unsupported_declines exec_activateFw, State.unsupported_declines exec_setDcRegionConfiguration,
      State.unsupported_declines exec_initiateDcAdd, State.unsupported_declines exec_initiateDcRelease⟩⟩

end Sys2Proof.Machine
end

section
/-! SUPPORT. The extents of a pool view hang on the tables alone (R20). -/

namespace Sys2Proof.Machine

variable {s t : State} (htab : t.tab = s.tab)
include htab

theorem State.entryPlace_congr : t.entryPlace = s.entryPlace := by
  funext n
  rw [State.entryPlace, State.entryPlace, State.bank, State.bank, htab]
  simp only [State.param, htab]

theorem State.portEntries_congr (p : Nat) (ok : TtState → Bool) : t.portEntries p ok = s.portEntries p ok := by
  rw [State.portEntries, State.portEntries, htab, State.entryPlace_congr htab]

theorem State.extents_congr (l : List Nat) : t.extents l = s.extents l := by
  rw [State.extents, State.extents, htab, State.entryPlace_congr htab]

theorem State.extentListBytes_congr (p first n : Nat) : t.extentListBytes p first n = s.extentListBytes p first n := by
  rw [State.extentListBytes, State.extentListBytes, State.poolExtents, State.poolExtents, State.portEntries_congr htab,
    State.extents_congr htab]

end Sys2Proof.Machine
end

section
/-! MLD commands, and the queries about a pool view (R240, R369). -/

namespace Sys2Proof.Machine

variable {s : State} {i : Instr} {h : CmdHdr} {p : Nat}

/-- An MLD command reaches the device behind port p: the port is BOUND or UNBOUND, an MLD's, with its link up (R240). -/
def State.mldReached (s : State) (p : Nat) : Prop :=
  ((s.port p).role = .bound ∨ (s.port p).role = .unbound) ∧ (s.port p).mld = true ∧ (s.port p).dlUp = true

section
variable {op : Nat} {request answer : List Byte}

/-- An MLD query goes out on a port that reaches a device, and brings the device's answer. -/
theorem State.mldQuery_reaches (hexec : exec i s = plain (fun t => t.mldCommand i h op p [] answer false) s)
    (hreach : s.mldReached p) (htakes : s.takes i h { opcode := op }) :
    exec i s = .next (((s.ticketed h).emit (.notify p 10 [op])).respond i h.src h.tag (s.ticketOf h.src) rcSuccess answer) :=
  exec_eq_respond_of_done rfl hexec (if_neg (not_not.mpr hreach)) htakes

/-- An MLD command that may change something goes out between its INTENT and END records. -/
theorem State.mldChange_reaches (hexec : exec i s = plain (fun t => t.mldCommand i h op p request answer true) s)
    (hreach : s.mldReached p) :
    s.changeEnds i h { opcode := op, changes := true } (fun t => t.emit (.notify p 10 (op :: request.map (·.toNat)))) answer :=
  State.changeEnds_of_done rfl hexec (if_neg (not_not.mpr hreach))

/-- An MLD command on a port that reaches no device is Invalid Input. -/
theorem State.mldCommand_declines {changes : Bool}
    (hexec : exec i s = plain (fun t => t.mldCommand i h op p request answer changes) s) (hreach : ¬ s.mldReached p) :
    s.queryDeclines i h { opcode := op, changes := changes } rcInvalid [] := by
  cases changes with
  | false => exact State.queryDeclines_of_done rfl hexec (if_pos hreach)
  | true => exact State.queryDeclines_of_refused rfl (by decide) hexec (if_pos hreach)

end

theorem State.ticketed_tab (h : CmdHdr) : (s.ticketed h).tab = s.tab := rfl

/-- A query about the pool view of a HOST port is answered by what the state says before its ticket. -/
theorem State.dcdCommand_answers {op : Nat} {answer : State → List Byte}
    (hexec : exec i s = plain (fun t => t.dcdCommand i h op p answer) s) (hanswer : answer (s.ticketed h) = answer s) :
    s.queryAnswers i h { opcode := op, bad := (s.port p).role != .host } (answer s) :=
  State.queryDeclines_of_done rfl hexec (congrArg _ hanswer)

theorem exec_getLdInfo (p : PortId) (a : List Byte) : exec (.getLdInfo h p a) s =
    plain (fun t => t.mldCommand (.getLdInfo h p a) h 0x5400 p.val [] a false) s := rfl
theorem exec_getLdAllocations (p : PortId) (a : List Byte) : exec (.getLdAllocations h p a) s =
    plain (fun t => t.mldCommand (.getLdAllocations h p a) h 0x5401 p.val [] a false) s := rfl
theorem exec_setLdAllocations (p : PortId) (r a : List Byte) : exec (.setLdAllocations h p r a) s =
    plain (fun t => t.mldCommand (.setLdAllocations h p r a) h 0x5402 p.val r a true) s := rfl
theorem exec_tunnelManagementCommand (p : PortId) (r a : List Byte) : exec (.tunnelManagementCommand h p r a) s =
    plain (fun t => t.mldCommand (.tunnelManagementCommand h p r a) h 0x5300 p.val r a true) s := rfl
theorem exec_getDcdInfo (p : PortId) : exec (.getDcdInfo h p) s =
    plain (fun t => t.dcdCommand (.getDcdInfo h p) h 0x5600 p.val fun u => u.dcdInfo p.val) s := rfl
theorem exec_getHostDcRegionConfiguration (p : PortId) : exec (.getHostDcRegionConfiguration h p) s =
    plain (fun t => t.dcdCommand (.getHostDcRegionConfiguration h p) h 0x5601 p.val fun u => u.regionBytes p.val) s := rfl
theorem exec_getDcRegionExtentLists (p : PortId) (first n : Nat) : exec (.getDcRegionExtentLists h p first n) s =
    plain (fun t => t.dcdCommand (.getDcRegionExtentLists h p first n) h 0x5603 p.val fun u => u.extentListBytes p.val first n) s :=
  rfl

/-- Settles O39: an MLD command has two branches, told apart by whether its port reaches a device; the pool view's queries read
tables that the ticket leaves. -/
theorem deviceAndPoolViewCommandsAnswered : Obligations.DeviceAndPoolViewCommandsAnswered := by
  intro s h p
  refine ⟨fun hreach => ⟨?ldInfo, ?ldAllocations, ?setLd, ?tunnel⟩, fun r a hreach => ⟨?_, ?_, ?_, ?_⟩, ?dcd, ?region, ?extents⟩
  case ldInfo => exact fun a => State.mldQuery_reaches (exec_getLdInfo p a) hreach
  case ldAllocations => exact fun a => State.mldQuery_reaches (exec_getLdAllocations p a) hreach
  case setLd => exact fun r a => State.mldChange_reaches (exec_setLdAllocations p r a) hreach
  case tunnel => exact fun r a => State.mldChange_reaches (exec_tunnelManagementCommand p r a) hreach
  case dcd => exact State.dcdCommand_answers (exec_getDcdInfo p) rfl
  case region => exact State.dcdCommand_answers (exec_getHostDcRegionConfiguration p) rfl
  case extents =>
    intro first n
    exact State.dcdCommand_answers (exec_getDcRegionExtentLists p first n) (State.extentListBytes_congr (State.ticketed_tab h) _ _ _)
  · exact State.mldCommand_declines (exec_getLdInfo p a) hreach
  · exact State.mldCommand_declines (exec_getLdAllocations p a) hreach
  · exact State.mldCommand_declines (exec_setLdAllocations p r a) hreach
  · exact State.mldCommand_declines (exec_tunnelManagementCommand p r a) hreach

end Sys2Proof.Machine
end

section
/-! SUPPORT. Commands of a pool view: what one does that the view takes, and what becomes of one that it does not take. -/

namespace Sys2Proof.Machine

variable {s : State} {i : Instr} {h : PoolHdr} {run : State → State}

@[simp] theorem State.start_port (p : Nat) : s.start.port p = s.port p := rfl
@[simp] theorem State.start_bolrothRuns : s.start.bolrothRuns = s.bolrothRuns := rfl

/-- A command that the pool view takes runs. -/
theorem State.poolCommand_of_takes (htakes : s.poolTakes h) : s.start.poolCommand h run = run s.start := by
  obtain ⟨hrole, hup, hruns, hreserved⟩ := htakes
  have hreached : ¬ ((s.port h.port.val).role ≠ .host ∨ ¬ (s.port h.port.val).dlUp = true) :=
    not_or.mpr ⟨not_not.mpr hrole, not_not.mpr hup⟩
  exact (if_neg hreached).trans <| (if_neg (not_not.mpr hruns)).trans (if_neg (by simp [hreserved]))

/-- The three ways in which a pool view does not take a command come before its action. -/
theorem State.poolDeclines_of_poolCommand {f : State → State} (hexec : exec i s = .next (f (s.start.poolCommand h run))) :
    s.poolDeclines i h f := by
  have hreached (hrole : (s.port h.port.val).role = .host) (hup : (s.port h.port.val).dlUp = true) :
      ¬ ((s.port h.port.val).role ≠ .host ∨ ¬ (s.port h.port.val).dlUp = true) :=
    not_or.mpr ⟨not_not.mpr hrole, not_not.mpr hup⟩
  rw [State.poolDeclines, hexec]
  refine ⟨fun hport => ?noPort, fun hrole hup hruns => ?busy, fun hrole hup hruns hreserved => ?reserved⟩ <;>
    refine congrArg (fun t => Host.Outcome.next (f t)) ?_
  case noPort => exact if_pos (by simpa using hport)
  case busy => exact (if_neg (hreached hrole hup)).trans (if_pos (by simpa using hruns))
  case reserved =>
    exact (if_neg (hreached hrole hup)).trans <| (if_neg (not_not.mpr hruns)).trans (if_pos hreserved)

/-- A query that the pool view takes is answered by what the state says. -/
theorem exec_poolQuery {payload : List Byte} {code : Nat} (htakes : s.poolTakes h)
    (hexec : exec i s = .next (s.start.poolCommand h run)) (hrun : run s.start = s.start.poolAnswer h.port.val code payload) :
    exec i s = .next (s.start.poolAnswer h.port.val code payload) := by
  rw [hexec, State.poolCommand_of_takes htakes, hrun]

end Sys2Proof.Machine
end

section
/-! The pool view's memory-device commands (R18, R20, R32, R237). -/

namespace Sys2Proof.Machine

variable {s : State} {h : PoolHdr}

@[simp] theorem State.start_oldestAdd (p : Nat) : s.start.oldestAdd p = s.oldestAdd p := rfl
@[simp] theorem State.start_releasedEntries (p : Nat) : s.start.releasedEntries p = s.releasedEntries p := rfl

/-! ### Add Dynamic Capacity Response -/

/-- The bytes of DPA and length that an Add Capacity event offers. -/
def AddEvent.offer (a : AddEvent) : Nat × Nat := (a.extent.dpa * tileBytes, a.extent.count * tileBytes)

section
variable (htakes : s.poolTakes h)
include htakes

/-- With no event pending a response is refused. -/
theorem State.addResponse_of_none (l : List (U64 × U64)) (hnone : s.oldestAdd h.port.val = none) :
    s.start.addResponse h l = s.start.poolAnswer h.port.val rcInvalid [] := by
  rw [State.addResponse, State.poolCommand_of_takes htakes, State.start_oldestAdd, hnone]

variable {a : AddEvent} (hoffer : s.oldestAdd h.port.val = some a)
include hoffer

/-- A response that omits the offer makes its entries EMPTY. -/
theorem State.addResponse_omits : s.start.addResponse h [] =
    ((((s.start.journal 1 0).moveExtent a.extent .offered fun _ => {}).popAdd h.port.val).journal 2 0).poolAnswer
      h.port.val rcSuccess [] := by
  rw [State.addResponse, State.poolCommand_of_takes htakes, State.start_oldestAdd, hoffer]
  exact if_pos rfl

/-- A response that names the offer makes its entries ACTIVE. -/
theorem State.addResponse_accepts {l : List (U64 × U64)} (hl : (l.map fun x => (x.1.toNat, x.2.toNat)) = [a.offer]) :
    s.start.addResponse h l =
      ((((s.start.journal 1 0).moveExtent a.extent .offered fun v => { v with state := .active }).popAdd h.port.val).journal
        2 0).poolAnswer h.port.val rcSuccess [] := by
  rw [State.addResponse, State.poolCommand_of_takes htakes, State.start_oldestAdd, hoffer]
  exact (if_neg (by simp [hl])).trans (if_pos hl)

/-- A response that names anything else is refused. -/
theorem State.addResponse_refuses {l : List (U64 × U64)} (hne : l ≠ [])
    (hl : (l.map fun x => (x.1.toNat, x.2.toNat)) ≠ [a.offer]) :
    s.start.addResponse h l = s.start.poolAnswer h.port.val rcInvalid [] := by
  rw [State.addResponse, State.poolCommand_of_takes htakes, State.start_oldestAdd, hoffer]
  exact (if_neg (by simpa using hne)).trans (if_neg hl)

end

/-- The operand words that stand for two byte counts name them just if both have 64 bits. -/
theorem operandWords_eq_iff (x y : Nat) :
    ([(BitVec.ofNat 64 x, BitVec.ofNat 64 y)].map fun v => (v.1.toNat, v.2.toNat)) = [(x, y)] ↔ x < 2 ^ 64 ∧ y < 2 ^ 64 := by
  simp

/-! ### Release Dynamic Capacity -/

/-- Extents that name ACTIVE entries only make those RELEASING. -/
theorem State.releaseCapacity_releases (htakes : s.poolTakes h) {l : List (U64 × U64)}
    (hl : (l.all fun x => (s.releasedEntries h.port.val x).isSome) = true) :
    s.start.releaseCapacity h l = (State.journal { s.start.journal 1 0 with
      tab.tt := (l.filterMap (s.releasedEntries h.port.val)).flatten.foldl (fun t k =>
        t.upd k fun v => { v with state := .releasing }) s.tab.tt
      dp.freed := true } 2 0).poolAnswer h.port.val rcSuccess [] := by
  have hfound : ¬ ((l.map (s.releasedEntries h.port.val)).any (·.isNone)) = true := by
    simpa [← Option.isSome_iff_ne_none] using hl
  have hentries : (l.map (s.releasedEntries h.port.val)).filterMap id = l.filterMap (s.releasedEntries h.port.val) :=
    List.filterMap_map
  rw [State.releaseCapacity, State.poolCommand_of_takes htakes]
  dsimp only
  rw [State.start_releasedEntries, if_neg hfound, hentries, State.start_tab]

/-- An extent that names another entry is refused. -/
theorem State.releaseCapacity_refuses (htakes : s.poolTakes h) {l : List (U64 × U64)}
    (hl : (l.any fun x => (s.releasedEntries h.port.val x).isNone) = true) :
    s.start.releaseCapacity h l = s.start.poolAnswer h.port.val rcInvalid [] := by
  have hfound : (l.map (s.releasedEntries h.port.val)).any (·.isNone) = true := by rwa [List.any_map]
  rw [State.releaseCapacity, State.poolCommand_of_takes htakes]
  exact if_pos hfound

/-! ### ADD_TIMEOUT -/

/-- The timeout of the oldest offer makes its entries EMPTY. -/
theorem State.addTimeout_empties {p : Nat} {a : AddEvent} (hoffer : s.oldestAdd p = some a) (hruns : s.bolrothRuns = true) :
    s.start.addTimeout p =
      ((((s.start.advanceTo (a.due.getD 0)).journal 1 0).moveExtent a.extent .offered fun _ => {}).popAdd p).journal 2 0 := by
  rw [State.addTimeout, State.start_oldestAdd, hoffer]
  exact if_neg (not_not.mpr hruns)

/-- With no event pending, or Bolroth not running, a timeout changes nothing. -/
theorem State.addTimeout_ignored {p : Nat} (hidle : s.oldestAdd p = none ∨ s.bolrothRuns = false) :
    s.start.addTimeout p = s.start := by
  rw [State.addTimeout, State.start_oldestAdd]
  cases hoffer : s.oldestAdd p with
  | none => rfl
  | some a => exact if_pos (by simpa [hoffer] using hidle)

/-! ### What each command runs -/

theorem exec_identifyMemoryDevice : exec (.identifyMemoryDevice h) s = .next (s.start.poolIdentify h) := rfl
theorem exec_getDynamicCapacityConfiguration :
    exec (.getDynamicCapacityConfiguration h) s = .next (s.start.poolConfiguration h) := rfl
theorem exec_getDynamicCapacityExtentList (first n : Nat) :
    exec (.getDynamicCapacityExtentList h first n) s = .next (s.start.poolExtentList h first n) := rfl
theorem exec_addDynamicCapacityResponse (l : List (U64 × U64)) :
    exec (.addDynamicCapacityResponse h l) s = .next (s.start.addResponse h l).finish := rfl
theorem exec_releaseDynamicCapacity (l : List (U64 × U64)) :
    exec (.releaseDynamicCapacity h l) s = .next (s.start.releaseCapacity h l).finish := rfl
theorem exec_addTimeout (p : PortId) : exec (.addTimeout p) s = .next (s.start.addTimeout p.val).finish := rfl

/-- The answer to a response that names the extent of the oldest event: accepted, unless the extent has more than 64 bits. -/
theorem exec_addResponse_own (htakes : s.poolTakes h) {a : AddEvent} (hoffer : s.oldestAdd h.port.val = some a) :
    exec (.addDynamicCapacityResponse h [(BitVec.ofNat 64 (a.extent.dpa * tileBytes), BitVec.ofNat 64 (a.extent.count * tileBytes))]) s
      = (if a.extent.dpa * tileBytes < 2 ^ 64 ∧ a.extent.count * tileBytes < 2 ^ 64 then
          .next ((((((s.start.journal 1 0).moveExtent a.extent .offered fun v => { v with state := .active }).popAdd
            h.port.val).journal 2 0).poolAnswer h.port.val rcSuccess []).finish)
        else .next (s.start.poolAnswer h.port.val rcInvalid []).finish) := by
  have hown := operandWords_eq_iff (a.extent.dpa * tileBytes) (a.extent.count * tileBytes)
  rw [exec_addDynamicCapacityResponse]
  split
  · next hfits => rw [State.addResponse_accepts htakes hoffer (hown.mpr hfits)]
  · next hlong => rw [State.addResponse_refuses htakes hoffer (List.cons_ne_nil _ _) (mt hown.mp hlong)]

/-- Settles O41: a command that the view takes runs its action, whose branches are those of the statement; one that it does not
take ends before its action. -/
theorem poolViewCommandsAnswered : Obligations.PoolViewCommandsAnswered := by
  intro s h
  refine ⟨fun htakes => ⟨?identify, ?configuration, ?extentList, fun a hoffer => ⟨?own, ?left, ?other⟩, ?unasked,
    ?release, ?notHeld⟩, ?queriesDecline, ?changesDecline, ?timeout, ?noTimeout⟩
  case identify => exact exec_poolQuery htakes exec_identifyMemoryDevice rfl
  case configuration => exact exec_poolQuery htakes exec_getDynamicCapacityConfiguration rfl
  case extentList =>
    intro first n
    refine exec_poolQuery htakes (exec_getDynamicCapacityExtentList first n) ?_
    rw [State.extentListBytes_congr s.start_tab]
  case own => exact exec_addResponse_own htakes hoffer
  case left => rw [exec_addDynamicCapacityResponse, State.addResponse_omits htakes hoffer]
  case other =>
    intro l hne hl
    rw [exec_addDynamicCapacityResponse, State.addResponse_refuses htakes hoffer hne hl]
  case unasked =>
    intro l hnone
    rw [exec_addDynamicCapacityResponse, State.addResponse_of_none htakes l hnone]
  case release =>
    intro l hl
    rw [exec_releaseDynamicCapacity, State.releaseCapacity_releases htakes hl]
  case notHeld =>
    intro l hl
    rw [exec_releaseDynamicCapacity, State.releaseCapacity_refuses htakes hl]
  case queriesDecline =>
    intro first n i hi
    simp only [List.mem_cons, List.not_mem_nil, or_false] at hi
    obtain rfl | rfl | rfl := hi
    · exact State.poolDeclines_of_poolCommand exec_identifyMemoryDevice
    · exact State.poolDeclines_of_poolCommand exec_getDynamicCapacityConfiguration
    · exact State.poolDeclines_of_poolCommand (exec_getDynamicCapacityExtentList first n)
  case changesDecline =>
    intro l i hi
    simp only [List.mem_cons, List.not_mem_nil, or_false] at hi
    obtain rfl | rfl := hi
    · exact State.poolDeclines_of_poolCommand (exec_addDynamicCapacityResponse l)
    · exact State.poolDeclines_of_poolCommand (exec_releaseDynamicCapacity l)
  case timeout =>
    intro p a hoffer hruns
    rw [exec_addTimeout, State.addTimeout_empties hoffer hruns]
  case noTimeout =>
    intro p hidle
    rw [State.ignores, State.settlesTo, exec_addTimeout, State.addTimeout_ignored hidle]

end Sys2Proof.Machine
end

section
/-! Staging, and the images that Bolroth builds of the current one (R370, R381, R471). -/

namespace Sys2Proof.Machine

variable {s : State} {h : CmdHdr}

@[simp] theorem State.intended_cfg (h : CmdHdr) : (s.intended h).mgmt.cfg = s.mgmt.cfg := rfl

/-! ### CONFIG_STAGE_WRITE -/

theorem exec_configStageWrite (off len : U32) (bytes : List Byte) : exec (.configStageWrite h off len bytes) s =
    plain (fun t => t.cmdConfigStageWrite (.configStageWrite h off len bytes) h off len bytes) s := rfl

/-- What the opcode table says of CONFIG_STAGE_WRITE. -/
def stageWriteSpec (len : U32) : CmdSpec :=
  { opcode := 0xC001, len := 8 + len.toNat, bad := decide (2040 < len.toNat), changes := true, object := some (7, 0) }

/-- The configuration can be staged: its commit phase is IDLE or FLIPPED. -/
def State.stageable (s : State) : Prop := s.mgmt.cfg.phase = .idle ∨ s.mgmt.cfg.phase = .flipped

theorem State.stageable.not_away (hphase : s.stageable) : ¬ (s.mgmt.cfg.phase ≠ .idle ∧ s.mgmt.cfg.phase ≠ .flipped) := by
  rintro ⟨hidle, hflipped⟩
  exact hphase.elim hidle hflipped

section
variable {off len : U32} {bytes : List Byte}

/-- A write within the 64 MiB puts the bytes into the staged image. -/
theorem State.stageWrite_writes (hphase : s.stageable) (hlen : len ≠ 0) (hfits : off.toNat + len.toNat ≤ 2 ^ 26) :
    s.changeEnds (.configStageWrite h off len bytes) h (stageWriteSpec len)
      (fun t => { t.dropStore (0x3A0000000 + 0x4000000 * (s.mgmt.cfg.staged.getD s.mgmt.cfg.freeSlot) + off.toNat) len.toNat with
        mgmt.cfg.staged := some (s.mgmt.cfg.staged.getD s.mgmt.cfg.freeSlot)
        mgmt.cfg.stagedLen :=
          Nat.max (if s.mgmt.cfg.staged.isSome then s.mgmt.cfg.stagedLen else 0) (off.toNat + len.toNat)
        mgmt.cfg.slots := s.mgmt.cfg.slots.set (s.mgmt.cfg.staged.getD s.mgmt.cfg.freeSlot)
          (patchBytes (s.mgmt.cfg.slots.get (s.mgmt.cfg.staged.getD s.mgmt.cfg.freeSlot)) off.toNat
            (sliceOf bytes 0 len.toNat)) }) [] :=
  State.changeEnds_of_done rfl (exec_configStageWrite off len bytes) <|
    (if_neg hphase.not_away).trans <| (if_neg fun hzero => hlen hzero.2).trans <|
      (if_neg (Nat.not_lt.mpr hfits)).trans (if_neg hlen)

/-- A write past the 64 MiB is refused. -/
theorem State.stageWrite_exhausts (hphase : s.stageable) (hpast : 2 ^ 26 < off.toNat + len.toNat) :
    s.queryDeclines (.configStageWrite h off len bytes) h (stageWriteSpec len) rcExhausted [] := by
  have hsome : ¬ (off = 0 ∧ len = 0) := by
    rintro ⟨rfl, rfl⟩
    exact absurd hpast (by decide)
  exact State.queryDeclines_of_refused rfl (by decide) (exec_configStageWrite off len bytes) <|
    (if_neg hphase.not_away).trans <| (if_neg hsome).trans (if_pos hpast)

/-- An empty write at another offset than 0 changes no image. -/
theorem State.stageWrite_nothing (hphase : s.stageable) (hoff : off ≠ 0) (hfits : off.toNat ≤ 2 ^ 26) :
    s.changeEnds (.configStageWrite h off 0 bytes) h (stageWriteSpec 0) (fun t => t) [] :=
  State.changeEnds_of_done rfl (exec_configStageWrite off 0 bytes) <|
    (if_neg hphase.not_away).trans <| (if_neg fun hzero => hoff hzero.1).trans <|
      (if_neg (Nat.not_lt.mpr hfits)).trans (if_pos rfl)

/-- An empty write at offset 0 discards the staged image. -/
theorem State.stageWrite_discards (hphase : s.stageable) :
    s.changeEnds (.configStageWrite h 0 0 bytes) h (stageWriteSpec 0)
      (fun t => { t with mgmt.cfg.staged := none, mgmt.cfg.stagedLen := 0 }) [] :=
  State.changeEnds_of_done rfl (exec_configStageWrite 0 0 bytes) <| (if_neg hphase.not_away).trans (if_pos ⟨rfl, rfl⟩)

/-- In any other phase the configuration is named as what conflicts. -/
theorem State.stageWrite_conflicts (hidle : s.mgmt.cfg.phase ≠ .idle) (hflipped : s.mgmt.cfg.phase ≠ .flipped) :
    s.queryDeclines (.configStageWrite h off len bytes) h (stageWriteSpec len) rcConflict
      (s.conflictBytes 7 0 (commitNo s.mgmt.cfg.phase) 0) :=
  State.queryDeclines_of_refused rfl (by decide) (exec_configStageWrite off len bytes) (if_pos ⟨hidle, hflipped⟩)

end

/-! ### TENANT_UNBIND and TENANT_REMOVE -/

theorem exec_tenantUnbind (n : U16) (base : U32) :
    exec (.tenantUnbind h n base) s = act (fun t => t.cmdTenantUnbind (.tenantUnbind h n base) h n base) s := rfl
theorem exec_tenantRemove (n : U16) (base : U32) :
    exec (.tenantRemove h n base) s = act (fun t => t.cmdTenantRemove (.tenantRemove h n base) h n base) s := rfl

/-- A tenant that nothing keeps from leaving: its image goes into the free slot, and on to the shadow bank. -/
theorem State.tenantChange_waits {n : Nat} {base : U32} {remove : Bool} {t : TenantRec} (hstaged : s.mgmt.cfg.staged = none)
    (hphase : s.mgmt.cfg.phase = .idle) (hcurrent : s.mgmt.cfg.current ≠ none) (hepoch : s.tab.epoch ≠ 0)
    (hdrained : s.mgmt.cfg.undrained = none) (hbase : base = s.tab.epoch) (htenant : s.curPlan.tenant n = some t)
    (hleaves : remove = true ∨ t.entry.valid = true →
      s.checkLeaving ((planOf (s.tenantImage n remove)).record .tenant n) n t.entry.valid = none) :
    s.tenantChange n base remove = .wait (State.writeShadow
      { s.dropStore (slotBase s.mgmt.cfg.freeSlot) 0x4000000 with
        mgmt.cfg.slots := s.mgmt.cfg.slots.set s.mgmt.cfg.freeSlot (s.tenantImage n remove) }
      s.mgmt.cfg.freeSlot (planOf (s.tenantImage n remove))) := by
  have hready : ¬ (s.mgmt.cfg.staged.isSome = true ∨ s.mgmt.cfg.phase ≠ .idle ∨ s.mgmt.cfg.current.isNone = true
      ∨ s.tab.epoch = 0) := by
    simpa [hstaged, hphase, hcurrent] using hepoch
  have hfree : (if remove = true ∨ t.entry.valid = true then
      s.checkLeaving ((planOf (s.tenantImage n remove)).record .tenant n) n t.entry.valid else none) = none := by
    rw [ite_eq_right_iff]
    exact hleaves
  rw [State.tenantChange]
  dsimp only
  rw [if_neg hready, if_neg (by simp [hdrained]), if_neg (not_not.mpr hbase), htenant]
  dsimp only
  rw [hfree]

/-- Settles O42: each clause of CONFIG_STAGE_WRITE is one branch of its action; the two tenant commands share theirs, which
looks at what the INTENT record leaves. -/
theorem stagingAndTenantCommandsBuildImages : Obligations.StagingAndTenantCommandsBuildImages := by
  refine ⟨fun s h off len bytes => ⟨fun hphase => ⟨?write, ?past, ?nothing, ?discard⟩, ?conflict⟩,
    fun s h n base remove t hstaged hphase hcurrent hepoch hdrained hbase htenant hleaves => ?_⟩
  case write => exact State.stageWrite_writes hphase
  case past => exact State.stageWrite_exhausts hphase
  case nothing =>
    rintro hoff rfl hfits
    exact State.stageWrite_nothing hphase hoff hfits
  case discard =>
    rintro rfl rfl
    exact State.stageWrite_discards hphase
  case conflict => exact State.stageWrite_conflicts
  have hwaits := State.tenantChange_waits (s := s.intended h) hstaged hphase hcurrent hepoch hdrained hbase htenant hleaves
  constructor
  · rintro rfl
    exact State.changeWaits_of_wait rfl (exec_tenantUnbind n base) hwaits
  · rintro rfl
    exact State.changeWaits_of_wait rfl (exec_tenantRemove n base) hwaits

end Sys2Proof.Machine
end

section
/-! The arrival of messages from links (R43, R46, R57, R67, R80, R244, R411). -/

namespace Sys2Proof.Machine

variable {s v : State} {i : Instr} {x cls r : Nat} {seq : U32} {m : Msg}

/-! ### What becomes of an arrival -/

/-- Poison from an edge port is counted (R247). -/
def State.poisonCounted (s : State) (x : Nat) (m : Msg) : State := if x < 64 ∧ m.poison = true then s.countPort x 35 else s

/-- Where an arrival is stored: nowhere from an edge port beyond its credits (R67). -/
def State.storeArrival (s : State) (x cls : Nat) (m : Msg) : Option (Nat × State) :=
  if x < 64 ∧ ¬ s.hasCredits x cls m = true then none else s.storeRecord x cls (unitsOf cls m.op.toNat m) m

/-- What a stored arrival goes on to: it spends the credits of an edge port, is numbered and counted, and is taken in. -/
def State.storedArrival (v : State) (x cls r : Nat) (m : Msg) : State :=
  let w := if x < 64 then v.spendCredits x cls r m else v
  (w.recordIn x cls r (unitsOf cls m.op.toNat m)).takeIn x cls r (w.dp.arrival.get x) m

theorem State.accept_of_down (hdown : s.pointUp x = false) : s.accept x cls m = s := if_pos (by simp [hdown])

section
variable (hup : s.pointUp x = true)
include hup

theorem State.accept_of_ideBlocked (hx : x < 64) (hcls : cls < 6) (hide : s.ideBlocked x = true) :
    s.accept x cls m = s.countPort x 31 :=
  (if_neg (not_not.mpr hup)).trans (if_pos ⟨hx, hcls, hide⟩)

variable (hopen : ¬ (x < 64 ∧ cls < 6 ∧ s.ideBlocked x = true))
include hopen

theorem State.accept_of_safe (hsafe : s.sys.mode = .safe) : s.accept x cls m = s.safeMessage x cls m :=
  (if_neg (not_not.mpr hup)).trans <| (if_neg hopen).trans (if_pos hsafe)

variable (hmode : s.sys.mode ≠ .safe)
include hmode

theorem State.accept_of_storeArrival_none (hstore : (s.poisonCounted x m).storeArrival x cls m = none) :
    s.accept x cls m = (s.poisonCounted x m).count (pointCtr x 25 25) := by
  rw [State.storeArrival, State.poisonCounted] at hstore
  rw [State.accept, if_neg (not_not.mpr hup), if_neg hopen, if_neg hmode, State.poisonCounted]
  dsimp only
  rw [hstore]

theorem State.accept_of_storeArrival_some (hstore : (s.poisonCounted x m).storeArrival x cls m = some (r, v)) :
    s.accept x cls m = v.storedArrival x cls r m := by
  rw [State.storeArrival, State.poisonCounted] at hstore
  rw [State.accept, if_neg (not_not.mpr hup), if_neg hopen, if_neg hmode]
  dsimp only
  rw [hstore]
  rfl

end

/-- How command `i` takes in a message of class `cls` from point x: discarded, refused, dropped or stored. -/
def State.takesMessage (s : State) (i : Instr) (x cls : Nat) (m : Msg) : Prop :=
  let t := s.start.poisonCounted x m
  (s.pointUp x = false → s.ignores i)
  ∧ (s.pointUp x = true →
    (x < 64 → cls < 6 → s.ideBlocked x = true → s.settlesTo i (s.start.countPort x 31))
    ∧ (¬ (x < 64 ∧ cls < 6 ∧ s.ideBlocked x = true) →
      (s.sys.mode = .safe → s.settlesTo i (s.start.safeMessage x cls m))
      ∧ (s.sys.mode ≠ .safe → t.storeArrival x cls m = none → s.settlesTo i (t.count (pointCtr x 25 25)))
      ∧ (∀ (r : Nat) (v : State), s.sys.mode ≠ .safe → t.storeArrival x cls m = some (r, v) →
          s.settlesTo i (v.storedArrival x cls r m))))

/-- A command that accepts a message takes it in. -/
theorem State.takesMessage_of_exec (hexec : exec i s = act (fun t => t.accept x cls m) s) : s.takesMessage i x cls m := by
  have hsettles {t : State} (h : s.start.accept x cls m = t) : s.settlesTo i t :=
    hexec.trans (congrArg (fun u : State => Host.Outcome.next u.finish) h)
  refine ⟨fun hdown => ?down, fun hup => ⟨fun hx hcls hide => ?blocked, fun hopen =>
    ⟨fun hsafe => ?safe, fun hmode hstore => ?dropped, fun r v hmode hstore => ?stored⟩⟩⟩
  case down => exact hsettles (State.accept_of_down hdown)
  case blocked => exact hsettles (State.accept_of_ideBlocked hup hx hcls hide)
  case safe => exact hsettles (State.accept_of_safe hup hopen hsafe)
  case dropped => exact hsettles (State.accept_of_storeArrival_none hup hopen hmode hstore)
  case stored => exact hsettles (State.accept_of_storeArrival_some hup hopen hmode hstore)

/-! ### How a request goes on -/

/-- A request that is neither a response nor discarded at a trunk is indexed, and starts or waits (R80, R107). -/
theorem State.takeIn_of_request (hsnp : cls ≠ 2) (hrsp : cls ≠ 4) (hkept : x < 64 ∨ cls ≠ 6 ∧ m.attached = false) :
    s.takeIn x cls r seq m = (s.indexWrite x cls r seq m).startOrWait x cls r := by
  have hnotIo : ¬ (64 ≤ x ∧ cls = 6) := by omega
  have hnotAttached : ¬ (m.attached = true ∧ 64 ≤ x) := by
    rintro ⟨hattached, hx⟩
    obtain hport | ⟨-, hfree⟩ := hkept
    · omega
    · simp [hfree] at hattached
  exact (if_neg hnotIo).trans <| (if_neg hnotAttached).trans (if_neg (not_or.mpr ⟨hsnp, hrsp⟩))

/-! ### What each command runs -/

variable {o : Origin}

theorem exec_mreq : exec (.mreq o m) s = act (fun t => t.accept (originNo o) 0 m) s := rfl
theorem exec_mwr : exec (.mwr o m) s = act (fun t => t.accept (originNo o) 1 m) s := rfl
theorem exec_snp : exec (.snp o m) s = act (fun t => t.accept (originNo o) 2 m) s := rfl
theorem exec_biconf : exec (.biconf o m) s = act (fun t => t.accept (originNo o) 3 m) s := rfl
theorem exec_rsp : exec (.rsp o m) s = act (fun t => t.accept (originNo o) 4 m) s := rfl
theorem exec_cache : exec (.cache o m) s = act (fun t => t.accept (originNo o) 5 m) s := rfl
theorem exec_io : exec (.io o m) s = act (fun t => t.accept (originNo o) 6 m) s := rfl
theorem exec_attachedWriteback (t : TrunkId) :
    exec (.attachedWriteback t m) s = act (fun u => u.accept (originNo (.trunk t)) 1 { m with attached := true }) s := rfl

/-- Settles O9: each command accepts its message as one of its class, with the branches of the statement; what a request goes on
to is the last branch of `State.takeIn`. -/
theorem messagesAreTakenIn : Obligations.MessagesAreTakenIn := by
  intro s o m
  refine ⟨State.takesMessage_of_exec exec_mreq, State.takesMessage_of_exec exec_mwr, State.takesMessage_of_exec exec_snp,
    State.takesMessage_of_exec exec_biconf, State.takesMessage_of_exec exec_rsp, State.takesMessage_of_exec exec_cache,
    State.takesMessage_of_exec exec_io, ?attached, ?request⟩
  case attached =>
    rintro t rfl
    exact State.takesMessage_of_exec (exec_attachedWriteback t)
  case request =>
    intro v y cls r seq hsnp hrsp hkept
    exact State.takeIn_of_request hsnp hrsp hkept

end Sys2Proof.Machine
end

section
/-! EPOCH_FLIP (R59, R83, R385). -/

namespace Sys2Proof.Machine

variable {s : State}

/-! ### What the flip changes -/

@[simp] theorem State.flipBanks_sys (epoch : U32) : (s.flipBanks epoch).sys = s.sys := by simp [State.flipBanks]
@[simp] theorem State.flipBanks_tab (epoch : U32) :
    (s.flipBanks epoch).tab = { s.tab with cur := !s.tab.cur, epoch := epoch } := by simp [State.flipBanks]
@[simp] theorem State.flipBanks_cfg (epoch : U32) : (s.flipBanks epoch).mgmt.cfg =
    { s.mgmt.cfg with undrained := some (BitVec.ofNat 8 s.tab.epoch.toNat, s.tab.epoch, epoch) } := by simp [State.flipBanks]

/-- Of the tables the flip to slot k changes the bank select and EPOCH. -/
theorem State.flipTo_tab (k : Nat) : (s.flipTo k).tab =
    { s.tab with cur := !s.tab.cur, epoch := BitVec.ofNat 32 (s.planAt (some k)).head.epoch } := by
  simp [State.flipTo]

/-- What the flip to slot k writes of the configuration. -/
theorem State.flipTo_cfg (k : Nat) :
    let new := s.planAt (some k)
    (s.flipTo k).mgmt.cfg = { s.mgmt.cfg with
      slots := s.mgmt.cfg.slots.upd k fun b => patchBytes b 32 (digestOut (imageDigest new.recs))
      staged := if s.mgmt.cfg.staged = some k then none else s.mgmt.cfg.staged
      current := some k, previous := s.mgmt.cfg.current, digest := imageDigest new.recs, prevDigest := s.mgmt.cfg.digest
      prevEpoch := s.tab.epoch, toFlip := none, undo := {}, liveImage := .empty, phase := .flipped
      confirmDeadline := some (s.sys.ft + new.ident.confirmS * 1000000000)
      undrained := some (BitVec.ofNat 8 s.tab.epoch.toNat, s.tab.epoch, BitVec.ofNat 32 new.head.epoch) } := by
  simp [State.flipTo]

/-! ### The command -/

theorem exec_epochFlip : exec .epochFlip s = .next s.start.epochFlip.finish := rfl

theorem State.epochFlip_of_none (hnone : s.mgmt.cfg.toFlip = none) : s.epochFlip = s := by rw [State.epochFlip, hnone]

theorem State.epochFlip_of_due {k : Nat} (hdue : s.mgmt.cfg.toFlip = some k) (hphase : s.mgmt.cfg.phase = .writing)
    (hruns : s.bolrothRuns = true) :
    s.epochFlip = ((s.flipTo k).applyFlip s.curPlan (s.planAt (some k)) s.bank).completeCfg
      (BitVec.ofNat 32 (s.planAt (some k)).head.epoch) := by
  rw [State.epochFlip, hdue]
  exact if_neg (not_or.mpr ⟨not_not.mpr hphase, not_not.mpr hruns⟩)

/-- Settles O45: a flip that is due runs the flip, whose fields `State.flipTo_tab` and `State.flipTo_cfg` give. -/
theorem flipPutsTheStagedImageInForce : Obligations.FlipPutsTheStagedImageInForce := by
  intro s
  refine ⟨fun hnone => ?none, fun k hdue hphase hruns => ?due⟩
  case none => rw [exec_epochFlip, State.epochFlip_of_none (s := s.start) hnone]
  case due =>
    have hexec := exec_epochFlip.trans
      (congrArg (fun t : State => Host.Outcome.next t.finish) (State.epochFlip_of_due (s := s.start) hdue hphase hruns))
    refine ⟨hexec, ?_⟩
    rw [State.flipTo_tab, State.flipTo_cfg]
    exact ⟨rfl, rfl, rfl, rfl, rfl, rfl, rfl, rfl, rfl, rfl, rfl⟩

end Sys2Proof.Machine
end

section
/-! SUPPORT. What a fold whose steps look at parts of the state that they keep comes to. -/

namespace Sys2Proof.Laws

/-- A fold whose steps look at the state only through p, which they keep, may look at it once. -/
theorem foldl_eq_of_keep {σ α β : Type} (p : σ → β) {f : β → σ → α → σ} (hkeep : ∀ b u a, p (f b u a) = p u) (l : List α)
    (u : σ) : l.foldl (fun v a => f (p v) v a) u = l.foldl (f (p u)) u := by
  induction l generalizing u with
  | nil => rfl
  | cons a l ih => rw [List.foldl_cons, List.foldl_cons, ih, hkeep]

end Sys2Proof.Laws
end

section
/-! SUPPORT. How the act of an event or of a query gives where the command ends. -/

namespace Sys2Proof.Machine

variable {s : State} {i : Instr} {h : CmdHdr} {c : CmdSpec} {run : State → Nat → CmdRes}

/-- A command whose act brings the state with no output yet to `t` settles from there. -/
theorem State.settlesTo_of_act {f : State → State} {t : State} (hexec : exec i s = act f s) (hact : f s.start = t) :
    s.settlesTo i t :=
  hexec.trans (congrArg (fun u : State => Host.Outcome.next u.finish) hact)

/-- A query whose action answers and changes nothing. -/
theorem State.queryAnswers_of_done {p : List Byte} (hc : c.changes = false)
    (hexec : exec i s = plain (fun t => t.command i h c none run) s)
    (hrun : run (s.ticketed h) (s.ticketOf h.src) = .done (s.ticketed h) rcSuccess p) : s.queryAnswers i h c p :=
  exec_eq_respond_of_done hc hexec hrun

/-- A command that the data plane follows up and whose action ends well, with an output, on the state with its INTENT record. -/
theorem State.changeSettles_of_done {f : State → State} {p : List Byte} (hc : c.changes = true)
    (hexec : exec i s = act (fun t => t.command i h c none run) s)
    (hrun : run (s.intended h) (s.ticketOf h.src) = .done (f (s.intended h)) rcSuccess p) : s.changeSettles i h c f p := by
  intro htakes
  rw [hexec, act, State.takes_change htakes hc run _ _ _ rfl hrun]

end Sys2Proof.Machine
end

section
/-! Egress picks, gate boundaries, the meter refresher and the Hazel pass (R86, R164, R170, R173, R175, R411). -/

namespace Sys2Proof.Machine

variable {s : State} {x : Nat} {cr : BitVec 12} {f : RecordFault}

/-! ### What a pick chooses (R173) -/

/-- An eligible snoop goes before everything, and touches no tag. -/
theorem State.pickEntry_of_snoop {c : Nat × QEntry} (hsnoop : s.selectHead x 0 cr = some c) :
    s.pickEntry x cr = (some (0, c), s) := by
  rw [State.pickEntry, hsnoop]

/-- An eligible response goes before everything but a snoop, and touches no tag. -/
theorem State.pickEntry_of_response {c : Nat × QEntry} (hsnoop : s.selectHead x 0 cr = none)
    (hresponse : s.selectHead x 1 cr = some c) : s.pickEntry x cr = (some (1, c), s) := by
  rw [State.pickEntry, hsnoop, hresponse]

/-! ### EGRESS_PICK -/

/-- The state in which a pick at point x has kept the credits of an edge partner (R233). -/
def State.keepCredits (s : State) (x : Nat) (cr : BitVec 12) : State :=
  if x < 64 then { s with dp.credits := s.dp.credits.set x cr.toNat } else s

/-- The state in which a pick at point x chooses: the credits are kept and the void entries gone (R82, R233). -/
def State.readyToPick (s : State) (x : Nat) (cr : BitVec 12) : State := ((s.keepCredits x cr).skipVoids x).2

/-- What a pick does in that state: it sends what it chooses, or closes a trunk's flit, or leaves the slot empty. -/
def State.pickAndSend (s : State) (x : Nat) (cr : BitVec 12) (f : RecordFault) (voided : Bool) : State :=
  match (s.pickEntry x cr).1 with
  | some (q, k, e) => (s.pickEntry x cr).2.sendPicked x q k e f
  | none =>
    let w := (s.pickEntry x cr).2
    if 64 ≤ x ∧ ¬ (w.trunk (x - 64)).openFlit.isEmpty = true then w.closeFlit (x - 64) else w.emptySlot x cr voided

theorem State.pickAndSend_of_some {voided : Bool} {q k : Nat} {e : QEntry} (hpick : (s.pickEntry x cr).1 = some (q, k, e)) :
    s.pickAndSend x cr f voided = (s.pickEntry x cr).2.sendPicked x q k e f := by
  rw [State.pickAndSend, hpick]

theorem State.pickAndSend_of_none {voided : Bool} (hpick : (s.pickEntry x cr).1 = none) :
    s.pickAndSend x cr f voided =
      (let w := (s.pickEntry x cr).2
       if 64 ≤ x ∧ ¬ (w.trunk (x - 64)).openFlit.isEmpty = true then w.closeFlit (x - 64) else w.emptySlot x cr voided) := by
  rw [State.pickAndSend, hpick]

theorem State.pickAndSend_of_snoop {voided : Bool} {k : Nat} {e : QEntry} (hsnoop : s.selectHead x 0 cr = some (k, e)) :
    s.pickAndSend x cr f voided = s.sendPicked x 0 k e f := by
  rw [State.pickAndSend, State.pickEntry_of_snoop hsnoop]

theorem State.pickAndSend_of_response {voided : Bool} {k : Nat} {e : QEntry} (hsnoop : s.selectHead x 0 cr = none)
    (hresponse : s.selectHead x 1 cr = some (k, e)) : s.pickAndSend x cr f voided = s.sendPicked x 1 k e f := by
  rw [State.pickAndSend, State.pickEntry_of_response hsnoop hresponse]

theorem State.egressPick_of_closed (hclosed : s.pointUp x = false ∨ 64 ≤ x ∧ 1536 ≤ (s.trunk (x - 64)).outstanding) :
    s.egressPick x cr f = s :=
  if_pos (by simpa using hclosed)

section
variable (hup : s.pointUp x = true)
include hup

/-- A point that is up, and as a trunk has room for replay, can take a message (R280). -/
theorem State.not_down_or_full (hroom : x < 64 ∨ (s.trunk (x - 64)).outstanding < 1536) :
    ¬ (¬ s.pointUp x = true ∨ 64 ≤ x ∧ 1536 ≤ (s.trunk (x - 64)).outstanding) := by
  rw [not_or, not_not]
  exact ⟨hup, by omega⟩

/-- A point that can take a message, with none to send again, picks one. -/
theorem State.egressPick_of_open
    (hopen : x < 64 ∨ (s.trunk (x - 64)).outstanding < 1536 ∧ (s.trunk (x - 64)).resend = []) :
    s.egressPick x cr f = (s.readyToPick x cr).pickAndSend x cr f ((s.keepCredits x cr).skipVoids x).1 := by
  have hresend : (if 64 ≤ x then (s.trunk (x - 64)).resend else []) = [] := by
    rw [ite_eq_right_iff]
    intro hx
    obtain hport | ⟨-, hnone⟩ := hopen
    · omega
    · exact hnone
  rw [State.egressPick, if_neg (State.not_down_or_full hup (hopen.imp_right And.left)), hresend, State.readyToPick,
    State.keepCredits]
  dsimp only
  generalize State.skipVoids _ x = r
  rfl

/-- A trunk with messages to send again packs the first of them (R295), or closes its flit. -/
theorem State.egressPick_of_resend {m : TrunkMsg} {rest : List TrunkMsg} (hx : 64 ≤ x)
    (hroom : (s.trunk (x - 64)).outstanding < 1536) (hresend : (s.trunk (x - 64)).resend = m :: rest) :
    s.egressPick x cr f =
      (if (s.trunk (x - 64)).creditsFor m.cls m.msg = true then
        (let w := (s.updTrunk (x - 64) fun t => { t with resend := rest }).packMsg (x - 64) m
         if rest.isEmpty = true then w.planBack ((x - 64) ^^^ 1) else w)
      else if (s.trunk (x - 64)).openFlit.isEmpty = true then s.focusSlot x 5 0
      else s.closeFlit (x - 64)) := by
  rw [State.egressPick, if_neg (State.not_down_or_full hup (.inr hroom)), if_pos hx, hresend]

end

/-! ### GATE_BOUNDARY -/

/-- The next instant at which the gates of point x may change (R175). -/
def State.nextBoundary (s : State) (x : Nat) : Option Nat :=
  nextGate (listAt (s.dp.gateNow.get x) (s.dp.gateNext.get x) s.sys.ft) (s.dp.gateNext.get x) s.sys.ft

theorem State.gateBoundary_of_none (hnone : s.nextBoundary x = none) : s.gateBoundary x = s := by
  rw [State.nextBoundary] at hnone
  rw [State.gateBoundary]
  dsimp only [State.gateList]
  rw [hnone]

section
variable {n : Nat} (hnext : s.nextBoundary x = some n)
include hnext

theorem State.gateBoundary_of_alone (hpending : s.dp.gateNext.get x = none) : s.gateBoundary x = s.advanceTo n := by
  rw [State.nextBoundary] at hnext
  rw [State.gateBoundary]
  dsimp only [State.gateList]
  rw [hnext, hpending]

theorem State.gateBoundary_of_due {w : Nat} {l : GateList} (hpending : s.dp.gateNext.get x = some (w, l))
    (hdue : w ≤ (s.advanceTo n).sys.ft) :
    s.gateBoundary x = { s.advanceTo n with
      dp.gateNow := s.dp.gateNow.set x l, dp.gateNext := s.dp.gateNext.set x none } := by
  rw [State.nextBoundary] at hnext
  rw [State.gateBoundary]
  dsimp only [State.gateList]
  rw [hnext, hpending]
  dsimp only
  rw [if_pos hdue, State.advanceTo_dp]

end

/-! ### METER_REFRESH -/

/-- The state in which the meter and the shaper of tenant n are refilled under the configuration of a bank at fabric time t. -/
def State.refreshMeter (b : Bank × Nat) (s : State) (n : Nat) : State :=
  { s with tab.meterState := s.tab.meterState.upd n fun st => (st.refill (b.1.meters.get n) b.2).shape (b.1.meters.get n) b.2 }

/-- Every valid tenant is refilled under the bank and at the fabric time in which the refresher starts. -/
theorem State.meterRefresh_eq :
    s.meterRefresh = (s.bank.tenants.find fun _ t => t.valid).foldl (State.refreshMeter (s.bank, s.sys.ft)) s :=
  Laws.foldl_eq_of_keep (fun u : State => (u.bank, u.sys.ft)) (f := State.refreshMeter) (fun _ _ _ => rfl) _ _

/-! ### HAZEL_PASS -/

theorem State.hazelPass_of_stopped (hstopped : s.sys.mode = .safe ∨ s.sys.mode = .reset) : s.hazelPass = s := if_pos hstopped

theorem State.hazelPass_of_running (hsafe : s.sys.mode ≠ .safe) (hreset : s.sys.mode ≠ .reset) :
    s.hazelPass =
      (let u := s.advanceTo (s.dp.lastHazel + s.tab.dirParam.hazelMs * 1000000)
       ((u.dp.cells.keys ++ u.markedCells.filter fun c => !u.dp.cells.keys.contains c).mergeSort.eraseDups).foldl
         (fun w c => w.hazelCell u.markedCells c) { u with dp.lastHazel := u.sys.ft }) :=
  if_neg (not_or.mpr ⟨hsafe, hreset⟩)

/-! ### What each command runs -/

theorem exec_egressPick (p : PointId) : exec (.egressPick p cr f) s = act (fun t => t.egressPick p.val cr f) s := rfl
theorem exec_gateBoundary (p : PointId) : exec (.gateBoundary p) s = act (fun t => t.gateBoundary p.val) s := rfl
theorem exec_meterRefresh : exec .meterRefresh s = act (fun t => t.meterRefresh) s := rfl
theorem exec_hazelPass : exec .hazelPass s = act (fun t => t.hazelPass) s := rfl

/-- Settles O11: an open point picks from the state that `State.readyToPick` gives, where an eligible snoop or response is what
`State.pickEntry` chooses; each other clause is one branch of its event. -/
theorem egressPicksSnoopsAndResponsesFirst : Obligations.EgressPicksSnoopsAndResponsesFirst := by
  intro s x cr f
  refine ⟨fun hclosed => ?closed, fun hup hopen => ?pick, fun m rest hx hup hroom hresend => ?resend,
    ⟨fun hnone => ?noBoundary, fun n hnext => ⟨fun halone => ?alone, fun w l hpending hdue => ?due⟩⟩, ?meters,
    fun hstopped => ?stopped, fun hsafe hreset => ?hazel⟩
  case closed =>
    exact State.settlesTo_of_act (exec_egressPick x) (State.egressPick_of_closed (s := s.start) hclosed)
  case pick =>
    have hpicks {t : State} (ht : (s.start.readyToPick x.val cr).pickAndSend x.val cr f
        ((s.start.keepCredits x.val cr).skipVoids x.val).1 = t) : s.settlesTo (.egressPick x cr f) t :=
      State.settlesTo_of_act (exec_egressPick x) ((State.egressPick_of_open (s := s.start) hup hopen).trans ht)
    refine ⟨fun k e hsnoop => ?snoop, fun k e hsnoop hresponse => ?response, fun q k e hpick => ?sends, fun hpick => ?nothing⟩
    case snoop => exact hpicks (State.pickAndSend_of_snoop hsnoop)
    case response => exact hpicks (State.pickAndSend_of_response hsnoop hresponse)
    case sends => exact hpicks (State.pickAndSend_of_some hpick)
    case nothing => exact hpicks (State.pickAndSend_of_none hpick)
  case resend =>
    exact State.settlesTo_of_act (exec_egressPick x) (State.egressPick_of_resend (s := s.start) hup hx hroom hresend)
  case noBoundary =>
    exact State.settlesTo_of_act (exec_gateBoundary x) (State.gateBoundary_of_none (s := s.start) hnone)
  case alone =>
    exact State.settlesTo_of_act (exec_gateBoundary x) (State.gateBoundary_of_alone (s := s.start) hnext halone)
  case due =>
    exact State.settlesTo_of_act (exec_gateBoundary x) (State.gateBoundary_of_due (s := s.start) hnext hpending hdue)
  case meters => exact State.settlesTo_of_act exec_meterRefresh (State.meterRefresh_eq (s := s.start))
  case stopped => exact State.settlesTo_of_act exec_hazelPass (State.hazelPass_of_stopped (s := s.start) hstopped)
  case hazel => exact State.settlesTo_of_act exec_hazelPass (State.hazelPass_of_running (s := s.start) hsafe hreset)

end Sys2Proof.Machine
end

section
/-! Waiting messages and the deadlines of transactions (R80, R81, R82, R112, R113). -/

namespace Sys2Proof.Machine

variable {s : State} {x cls i : Nat}

/-! ### WAITING_MESSAGE_START (R80) -/

/-- The oldest waiting message of (x, cls) starts in its turn. -/
theorem State.startWaiting_of_turn {r : Nat} {rest : List Nat} (hwaits : s.dp.waiting.get (8 * x + cls) = r :: rest)
    (hroom : s.startRoom x cls = true) (hturn : s.waitingTurn = some x) :
    s.startWaiting x cls =
      State.startRecord { s with dp.waiting := s.dp.waiting.set (8 * x + cls) rest, dp.rrLast := x } x cls r := by
  rw [State.startWaiting]
  dsimp only
  rw [hwaits]
  exact if_pos ⟨hroom, hturn⟩

/-- Without a message, without room or out of turn nothing starts. -/
theorem State.startWaiting_of_idle (hidle : s.dp.waiting.get (8 * x + cls) = [] ∨ s.startRoom x cls = false
    ∨ s.waitingTurn ≠ some x) : s.startWaiting x cls = s := by
  rw [State.startWaiting]
  dsimp only
  cases hwaits : s.dp.waiting.get (8 * x + cls) with
  | nil => rfl
  | cons r rest =>
    obtain hnone | hblocked := hidle
    · simp [hwaits] at hnone
    · refine if_neg fun hstarts => ?_
      simp [hstarts.1, hstarts.2] at hblocked

/-! ### LIFETIME_DEADLINE (R81, R82) -/

theorem State.lifetime_of_free (hfree : (s.txn i).state = .free) : s.lifetime i = s := if_pos hfree

/-- A wait that another end is left for times out. -/
theorem State.lifetime_of_wait (hstate : (s.txn i).state = .waitRsp) (hwait : (s.txn i).wait ≠ .poison) :
    s.lifetime i = ((s.reachDeadline (s.txn i).lifeDl).updTxn i fun t => { t with timedOut := true, lifeOver := true }).wake i :=
  (if_neg (by simp [hstate])).trans (if_pos ⟨hstate, hwait⟩)

/-- The state in which the end of transaction i's lifetime has been counted and logged (R82). -/
def State.lifetimeLogged (s : State) (i : Nat) : State :=
  ((s.reachDeadline (s.txn i).lifeDl).countGlobal 7).log 0x0107 1
    [(4, i), (1, tstateNo (s.txn i).state), (2, (s.txn i).recipe), (1, (s.txn i).step)]

theorem State.lifetime_of_draining (hstate : (s.txn i).state = .draining) :
    s.lifetime i = ((s.lifetimeLogged i).voidOf i).freeTxn i 2 :=
  (if_neg (by simp [hstate])).trans <| (if_neg (by simp [hstate])).trans (if_pos hstate)

/-- Any other transaction in use ends as COMPLETE(ERROR). -/
theorem State.lifetime_of_other (hother : (s.txn i).state = .running ∨ (s.txn i).state = .waitOrder
    ∨ (s.txn i).state = .waitHold ∨ (s.txn i).state = .waitRsp ∧ (s.txn i).wait = .poison) :
    s.lifetime i = ((((s.lifetimeLogged i).updTxn i fun t => { t with state := .running }).quarantine i).endError i) := by
  have hfree : (s.txn i).state ≠ .free := fun h => by simp [h] at hother
  have hdrain : (s.txn i).state ≠ .draining := fun h => by simp [h] at hother
  have hpoison : ¬ ((s.txn i).state = .waitRsp ∧ (s.txn i).wait ≠ .poison) := fun ⟨h, hwait⟩ => by simp [h, hwait] at hother
  exact (if_neg hfree).trans ((if_neg hpoison).trans (if_neg hdrain))

/-! ### SNOOP_DEADLINE (R112, R113) -/

theorem State.snoopLate_of_waiting (hstate : (s.txn i).state = .waitRsp) (hwait : (s.txn i).wait = .birsp)
    (htimer : (s.txn i).snoopTimer = true) :
    s.snoopLate i = ((s.reachDeadline (s.txn i).snoopDl).updTxn i fun t => { t with timedOut := true }).wake i :=
  if_pos ⟨hstate, hwait, htimer⟩

theorem State.snoopLate_of_not_waiting (hother : (s.txn i).state ≠ .waitRsp ∨ (s.txn i).wait ≠ .birsp
    ∨ (s.txn i).snoopTimer = false) : s.snoopLate i = s := by
  refine if_neg ?_
  rintro ⟨hstate, hwait, htimer⟩
  simp [hstate, hwait, htimer] at hother

/-! ### What each command runs -/

theorem exec_waitingMessageStart (p : Fin 77) (c : MsgClass) :
    exec (.waitingMessageStart p c) s = act (fun t => t.startWaiting p.val (clsNo c)) s := rfl
theorem exec_lifetimeDeadline (n : BitVec 17) : exec (.lifetimeDeadline n) s = act (fun t => t.lifetime n.toNat) s := rfl
theorem exec_snoopDeadline (n : BitVec 17) : exec (.snoopDeadline n) s = act (fun t => t.snoopLate n.toNat) s := rfl

/-- Settles O10: the clauses are the branches of the three events, told apart by the queue of waiting messages and by the state
of the transaction. -/
theorem waitsEndAtTheirTurnOrDeadline : Obligations.WaitsEndAtTheirTurnOrDeadline := by
  intro s i x c
  refine ⟨fun r rest hwaits hroom hturn => ?starts, fun hidle => ?idle, fun hfree => ?free, fun hstate hwait => ?timesOut,
    ⟨fun hstate => ?drains, fun hother => ?ends⟩, fun hstate hwait htimer => ?snoop, fun hother => ?noSnoop⟩
  case starts =>
    exact State.settlesTo_of_act (exec_waitingMessageStart x c) (State.startWaiting_of_turn (s := s.start) hwaits hroom hturn)
  case idle => exact State.settlesTo_of_act (exec_waitingMessageStart x c) (State.startWaiting_of_idle (s := s.start) hidle)
  case free => exact State.settlesTo_of_act (exec_lifetimeDeadline i) (State.lifetime_of_free (s := s.start) hfree)
  case timesOut => exact State.settlesTo_of_act (exec_lifetimeDeadline i) (State.lifetime_of_wait (s := s.start) hstate hwait)
  case drains => exact State.settlesTo_of_act (exec_lifetimeDeadline i) (State.lifetime_of_draining (s := s.start) hstate)
  case ends => exact State.settlesTo_of_act (exec_lifetimeDeadline i) (State.lifetime_of_other (s := s.start) hother)
  case snoop =>
    exact State.settlesTo_of_act (exec_snoopDeadline i) (State.snoopLate_of_waiting (s := s.start) hstate hwait htimer)
  case noSnoop => exact State.settlesTo_of_act (exec_snoopDeadline i) (State.snoopLate_of_not_waiting (s := s.start) hother)

end Sys2Proof.Machine
end

section
/-! The diagnostic queries (R77, R113, R356, R370, R372). -/

namespace Sys2Proof.Machine

variable {s : State} {h : CmdHdr}

theorem exec_trunkGetStatus (t : TrunkId) :
    exec (.trunkGetStatus h t) s = plain (fun u => u.cmdTrunkStatus (.trunkGetStatus h t) h t.val) s := rfl
theorem exec_txnRead (idx : U32) : exec (.txnRead h idx) s = plain (fun u => u.cmdTxnRead (.txnRead h idx) h idx) s := rfl
theorem exec_unresponsiveGet :
    exec (.unresponsiveGet h) s = plain (fun u => u.cmdUnrespGet (.unresponsiveGet h) h) s := rfl
theorem exec_modeGet : exec (.modeGet h) s = plain (fun u => u.cmdModeGet (.modeGet h) h) s := rfl
theorem exec_queueStatus (q : U16) :
    exec (.queueStatus h q) s = plain (fun u => u.cmdQueueStatus (.queueStatus h q) h q) s := rfl
theorem exec_tenantGet (n first : U16) :
    exec (.tenantGet h n first) s = plain (fun u => u.cmdTenantGet (.tenantGet h n first) h n first) s := rfl
theorem exec_tileEntryGet (n : U32) :
    exec (.tileEntryGet h n) s = plain (fun u => u.cmdTileEntryGet (.tileEntryGet h n) h n) s := rfl
theorem exec_migSlotGet (k : U16) :
    exec (.migSlotGet h k) s = plain (fun u => u.cmdMigSlotGet (.migSlotGet h k) h k) s := rfl
theorem exec_getResult (n : U16) :
    exec (.getResult h n) s = plain (fun u => u.cmdGetResult (.getResult h n) h n) s := rfl

/-- Settles O33: each query's action answers at once, from registers and tables that the ticket of the query leaves. -/
theorem diagnosticQueriesAnswered : Obligations.DiagnosticQueriesAnswered := by
  intro s h
  refine ⟨fun t => ?trunk, fun idx => ?txn, ?unresponsive, ?mode, fun q => ?queue, fun n first => ?tenant, fun n => ?tile,
    fun k => ?slot, fun n => ?result⟩
  case trunk => exact State.queryAnswers_of_done rfl (exec_trunkGetStatus t) rfl
  case txn => exact State.queryAnswers_of_done rfl (exec_txnRead idx) rfl
  case unresponsive => exact State.queryAnswers_of_done rfl exec_unresponsiveGet rfl
  case mode => exact State.queryAnswers_of_done rfl exec_modeGet rfl
  case queue => exact State.queryAnswers_of_done rfl (exec_queueStatus q) rfl
  case tenant => exact State.queryAnswers_of_done rfl (exec_tenantGet n first) rfl
  case tile => exact State.queryAnswers_of_done rfl (exec_tileEntryGet n) rfl
  case slot => exact State.queryAnswers_of_done rfl (exec_migSlotGet k) rfl
  case result => exact State.queryAnswers_of_done rfl (exec_getResult n) rfl

end Sys2Proof.Machine
end

section
/-! The diagnostic commands (R79, R113, R131, R132, R370, R427, R472). -/

namespace Sys2Proof.Machine

variable {s : State} {h : CmdHdr}

theorem exec_portRetrain (p : PortId) (l : LinkTrained) :
    exec (.portRetrain h p l) s = act (fun t => t.cmdPortRetrain (.portRetrain h p l) h p.val l) s := rfl
theorem exec_unresponsiveClear (slots ports : U64) : exec (.unresponsiveClear h slots ports) s =
    act (fun t => t.cmdUnrespClear (.unresponsiveClear h slots ports) h slots ports) s := rfl
theorem exec_scrubDir (first count : U32) :
    exec (.scrubDir h first count) s = act (fun t => t.cmdScrubDir (.scrubDir h first count) h first count) s := rfl
theorem exec_channelRetire (c : ChannelId) :
    exec (.channelRetire h c) s = act (fun t => t.cmdChannelRetire (.channelRetire h c) h c.val) s := rfl
theorem exec_logFreeze : exec (.logFreeze h) s = act (fun t => t.cmdLogFreeze (.logFreeze h) h) s := rfl

/-- The state in which the link of port p has been taken down with cause 6, contained no more, and has trained again as far as
`l` says (R370, R472). -/
def State.retrained (s : State) (p : Nat) (l : LinkTrained) : State :=
  if l.width.toNat = 0 then (s.linkLost p 6 false).dpcClear p else ((s.linkLost p 6 false).dpcClear p).linkUpEvent p l

section
variable {p : PortId} {l : LinkTrained}

theorem State.portRetrain_retrains (hup : (s.port p.val).dlUp = true) (hrole : (s.port p.val).role ≠ .disabled) :
    s.changeSettles (.portRetrain h p l) h { opcode := 0xC604, len := 1, changes := true, object := some (8, p.val) }
      (fun t => t.retrained p.val l) (leBytes (((s.intended h).retrained p.val l).portStatus p.val) 4) := by
  have hlinked : ¬ (¬ (s.port p.val).dlUp = true ∨ (s.port p.val).role = .disabled) := not_or.mpr ⟨not_not.mpr hup, hrole⟩
  exact State.changeSettles_of_done rfl (exec_portRetrain p l) (if_neg hlinked)

theorem State.portRetrain_conflicts (hdown : (s.port p.val).dlUp = false ∨ (s.port p.val).role = .disabled) :
    s.turnsAway (.portRetrain h p l) h { opcode := 0xC604, len := 1, changes := true, object := some (8, p.val) } rcConflict
      (s.conflictBytes 8 p.val (roleNo (s.port p.val).role) 0) := by
  have hunlinked : ¬ (s.port p.val).dlUp = true ∨ (s.port p.val).role = .disabled := by simpa using hdown
  exact State.turnsAway_of_conflict rfl (exec_portRetrain p l) (if_pos hunlinked)

end

/-- Settles O50: each clause is one branch of its command's action on the state with the INTENT record, which leaves the ports,
the retired channels and the status of the log. -/
theorem diagnosticCommandsAct : Obligations.DiagnosticCommandsAct := by
  intro s h
  refine ⟨fun p l => ⟨fun hup hrole => ?retrain, fun hdown => ?noLink⟩, fun slots ports => ?clear, fun first count => ?scrub,
    fun c => ⟨fun hown hmate => ?retire, fun hlost => ?noPair⟩, fun hthawed => ?freeze, fun hfrozen harchived => ?archived⟩
  case retrain => exact State.portRetrain_retrains hup hrole
  case noLink => exact State.portRetrain_conflicts hdown
  case clear => exact State.changeSettles_of_ok rfl (exec_unresponsiveClear slots ports) rfl
  case scrub => exact State.changeSettles_of_done rfl (exec_scrubDir first count) rfl
  case retire => exact State.changeSettles_of_ok rfl (exec_channelRetire c) (if_pos ⟨hown, hmate⟩)
  case noPair =>
    have hsingle : ¬ (s.chanOk c.val = true ∧ s.chanOk (if c.val < 16 then c.val + 16 else c.val - 16) = true) := by
      rwa [not_and_or, Bool.not_eq_true, Bool.not_eq_true]
    exact State.turnsAway_of_conflict rfl (exec_channelRetire c) (if_neg hsingle)
  case freeze =>
    have hunarchived : ¬ (s.obs.status.frozen = true ∧ ¬ s.obs.status.archiving = true) := by
      rwa [not_and_or, not_not, Bool.not_eq_true]
    exact State.changeWaits_of_wait rfl exec_logFreeze (if_neg hunarchived)
  case archived =>
    have hdone : s.obs.status.frozen = true ∧ ¬ s.obs.status.archiving = true := ⟨hfrozen, by simp [harchived]⟩
    exact State.changeSettles_of_done rfl exec_logFreeze (if_pos hdone)

end Sys2Proof.Machine
end

section
/-! EPOCH_DRAINED, CONFIRM_DEADLINE, ROLLBACK_FLIP and WARM_RESTORE (R83, R343, R387, R389, R392, R404). -/

namespace Sys2Proof.Machine

variable {s : State}

/-! ### EPOCH_DRAINED (R83) -/

theorem State.epochDrained_of_none (hnone : s.mgmt.cfg.undrained = none) : s.epochDrained = s := by
  rw [State.epochDrained, hnone]

section
variable {lo : Byte} {old new : U32} (hundrained : s.mgmt.cfg.undrained = some (lo, old, new))
include hundrained

theorem State.epochDrained_of_live (hlive : s.dp.live.get lo.toNat ≠ 0) : s.epochDrained = s := by
  rw [State.epochDrained, hundrained]
  exact if_pos hlive

theorem State.epochDrained_of_empty (hempty : s.dp.live.get lo.toNat = 0) :
    s.epochDrained = State.log { s with mgmt.cfg.undrained := none } 0x0505 0 [(4, old.toNat), (4, new.toNat)] := by
  rw [State.epochDrained, hundrained]
  exact if_neg (not_not.mpr hempty)

end

/-! ### CONFIRM_DEADLINE (R343, R392) -/

theorem State.confirmDue_of_armed {d : Nat} (harmed : s.mgmt.cfg.confirmDeadline = some d)
    (hphase : s.mgmt.cfg.phase = .flipped) (hruns : s.bolrothRuns = true) :
    s.confirmDue = (s.advanceTo d).startRollback 1 := by
  rw [State.confirmDue, harmed]
  exact if_pos ⟨hphase, hruns⟩

theorem State.confirmDue_of_idle (hidle : s.mgmt.cfg.confirmDeadline = none ∨ s.mgmt.cfg.phase ≠ .flipped
    ∨ s.bolrothRuns = false) : s.confirmDue = s := by
  rw [State.confirmDue]
  cases harmed : s.mgmt.cfg.confirmDeadline with
  | none => rfl
  | some d => exact if_neg fun ⟨hphase, hruns⟩ => by simp [harmed, hphase, hruns] at hidle

/-! ### ROLLBACK_FLIP (R387) -/

theorem State.rollbackFlip_of_ready (hphase : s.mgmt.cfg.phase = .rollingBack) (hruns : s.bolrothRuns = true)
    (hready : s.rollbackReady s.curPlan (s.planAt s.mgmt.cfg.previous) = true) :
    s.rollbackFlip =
      (let prev := s.planAt s.mgmt.cfg.previous
       ((s.flipBanks (BitVec.ofNat 32 prev.head.epoch)).applyRollback s.curPlan prev s.bank).endRollback prev) :=
  if_neg (by simp [hphase, hruns, hready])

theorem State.rollbackFlip_of_idle (hidle : s.mgmt.cfg.phase ≠ .rollingBack ∨ s.bolrothRuns = false
    ∨ s.rollbackReady s.curPlan (s.planAt s.mgmt.cfg.previous) = false) : s.rollbackFlip = s :=
  if_pos (by simpa using hidle)

/-! ### WARM_RESTORE (R389, R404) -/

theorem State.warmRestore_of_due (hmode : s.sys.mode = .provision) (hepoch : s.tab.epoch = 0) (himage : s.imageReadable = true)
    (hwarm : s.sys.warmPending = true) (hruns : s.bolrothRuns = true) :
    s.warmRestore =
      (let u := (s.restoreImage s.curPlan).restoreLive s.curPlan
       if u.mgmt.cfg.confirmLost = true then
         State.log { u with mgmt.cfg.confirmLost := false } 0x0507 1 [(4, s.curPlan.head.epoch), (1, 0)]
       else u) :=
  if_neg (by simp [hmode, hepoch, himage, hwarm, hruns])

theorem State.warmRestore_of_idle (hidle : s.sys.warmPending = false ∨ s.tab.epoch ≠ 0 ∨ s.sys.mode ≠ .provision
    ∨ s.imageReadable = false ∨ s.bolrothRuns = false) : s.warmRestore = s := by
  refine if_pos ?_
  rw [Bool.not_eq_true, Bool.not_eq_true, Bool.not_eq_true]
  tauto

/-! ### What each command runs -/

theorem exec_epochDrained : exec .epochDrained s = act (fun t => t.epochDrained) s := rfl
theorem exec_confirmDeadline : exec .confirmDeadline s = act (fun t => t.confirmDue) s := rfl
theorem exec_rollbackFlip : exec .rollbackFlip s = act (fun t => t.rollbackFlip) s := rfl
theorem exec_warmRestore : exec .warmRestore s = act (fun t => t.warmRestore) s := rfl

/-- Settles O46: each clause is one branch of its event, in the state with no output yet; the rollback flips the banks as
`State.flipBanks_tab` says. -/
theorem epochsDrainEndAndAreRestored : Obligations.EpochsDrainEndAndAreRestored := by
  refine ⟨fun s => ⟨fun lo old new hundrained => ⟨fun hempty => ?drained, fun hlive => ?live⟩, fun d harmed hphase hruns => ?confirm,
    fun hidle => ?noConfirm, fun hphase hruns hready => ⟨?rollback, ?bank, ?epoch⟩, fun hidle => ?noRollback,
    fun hnone => ?noOld⟩, fun s => ⟨fun hmode hepoch himage hwarm hruns => ?restore, fun hidle => ?noRestore⟩⟩
  case drained => exact State.settlesTo_of_act exec_epochDrained (State.epochDrained_of_empty (s := s.start) hundrained hempty)
  case live => exact State.settlesTo_of_act exec_epochDrained (State.epochDrained_of_live (s := s.start) hundrained hlive)
  case noOld => exact State.settlesTo_of_act exec_epochDrained (State.epochDrained_of_none (s := s.start) hnone)
  case confirm =>
    exact State.settlesTo_of_act exec_confirmDeadline (State.confirmDue_of_armed (s := s.start) harmed hphase hruns)
  case noConfirm => exact State.settlesTo_of_act exec_confirmDeadline (State.confirmDue_of_idle (s := s.start) hidle)
  case rollback =>
    exact State.settlesTo_of_act exec_rollbackFlip (State.rollbackFlip_of_ready (s := s.start) hphase hruns hready)
  case bank => rw [State.flipBanks_tab, State.start_tab]
  case epoch => rw [State.flipBanks_tab]
  case noRollback => exact State.settlesTo_of_act exec_rollbackFlip (State.rollbackFlip_of_idle (s := s.start) hidle)
  case restore =>
    exact State.settlesTo_of_act exec_warmRestore (State.warmRestore_of_due (s := s.start) hmode hepoch himage hwarm hruns)
  case noRestore => exact State.settlesTo_of_act exec_warmRestore (State.warmRestore_of_idle (s := s.start) hidle)

end Sys2Proof.Machine
end

section
/-! SUPPORT. Laws of packed words: what a field of a packed word is, and which bits a list of flags sets. -/

namespace Sys2Proof.Machine

/-! ### Packed fields -/

/-- The bits that a list of fields takes. -/
def packWidth (l : List (Nat × Nat)) : Nat := (l.map Prod.fst).sum

theorem packWidth_cons (w v : Nat) (l : List (Nat × Nat)) : packWidth ((w, v) :: l) = w + packWidth l := by
  simp [packWidth]

theorem pack_lt (l : List (Nat × Nat)) : pack l < 2 ^ packWidth l := by
  induction l with
  | nil => simp [pack, packWidth]
  | cons f rest ih =>
    obtain ⟨w, v⟩ := f
    have hmod : v % 2 ^ w < 2 ^ w := Nat.mod_lt _ (Nat.two_pow_pos w)
    rw [packWidth_cons, pow_add]
    calc v % 2 ^ w + 2 ^ w * pack rest < 2 ^ w + 2 ^ w * pack rest := Nat.add_lt_add_right hmod _
      _ = 2 ^ w * (pack rest + 1) := by ring
      _ ≤ 2 ^ w * 2 ^ packWidth rest := Nat.mul_le_mul_left _ ih

theorem pack_append (l m : List (Nat × Nat)) : pack (l ++ m) = pack l + 2 ^ packWidth l * pack m := by
  induction l with
  | nil => simp [pack, packWidth]
  | cons f rest ih =>
    obtain ⟨w, v⟩ := f
    rw [List.cons_append, pack, pack, ih, packWidth_cons]
    ring

theorem field_pack_first (w v : Nat) (l : List (Nat × Nat)) : field (pack ((w, v) :: l)) 0 w = v % 2 ^ w := by
  simp [field, pack]

theorem field_pack_later (w v lo n : Nat) (l : List (Nat × Nat)) :
    field (pack ((w, v) :: l)) (w + lo) n = field (pack l) lo n := by
  rw [field, field, pack, pow_add, ← Nat.div_div_eq_div_mul, Nat.add_mul_div_left _ _ (Nat.two_pow_pos w),
    Nat.div_eq_of_lt (Nat.mod_lt _ (Nat.two_pow_pos w)), Nat.zero_add]

/-! ### Lists of flags -/

theorem bitsOf_cons (b : Bool) (l : List Bool) : bitsOf (b :: l) = Nat.bit b (bitsOf l) := by
  cases b <;> simp [bitsOf, pack, b2n, Nat.bit, Nat.add_comm]

theorem bitsOf_lt (l : List Bool) : bitsOf l < 2 ^ l.length := by
  simpa [bitsOf, packWidth, Function.comp_def] using pack_lt (l.map fun b => (1, b2n b))

theorem bitsOf_testBit (l : List Bool) (k : Nat) : (bitsOf l).testBit k = l.getD k false := by
  induction l generalizing k with
  | nil => simp [bitsOf, pack]
  | cons b l ih =>
    rw [bitsOf_cons]
    cases k with
    | zero => simp
    | succ k => simpa [Nat.testBit_bit_succ] using ih k

/-! ### The parity of a byte -/

/-- Whether an odd number of the low k bits is set. -/
def oddOnes (n k : Nat) : Bool := popcount n k % 2 == 1

theorem oddOnes_succ (n k : Nat) : oddOnes n (k + 1) = (oddOnes n k ^^ n.testBit k) := by
  have hmod : popcount n k % 2 = 0 ∨ popcount n k % 2 = 1 := by omega
  cases hbit : n.testBit k <;> obtain h | h := hmod <;> simp [oddOnes, popcount, b2n, hbit, h, Nat.add_mod]

theorem oddOnes_congr {m n k : Nat} (h : ∀ i < k, m.testBit i = n.testBit i) : oddOnes m k = oddOnes n k := by
  induction k with
  | zero => rfl
  | succ k ih => rw [oddOnes_succ, oddOnes_succ, ih fun i hi => h i (Nat.lt_succ_of_lt hi), h k (Nat.lt_succ_self k)]

theorem oddOnes_xor (m n k : Nat) : oddOnes (m ^^^ n) k = (oddOnes m k ^^ oddOnes n k) := by
  induction k with
  | zero => rfl
  | succ k ih =>
    simp only [oddOnes_succ, ih, Nat.testBit_xor, Bool.xor_assoc, Bool.xor_left_comm (oddOnes n k)]

theorem oddOnes_zero (k : Nat) : oddOnes 0 k = false := by
  induction k with
  | zero => rfl
  | succ k ih => simp [oddOnes_succ, ih]

theorem oddOnes_two_pow (i k : Nat) : oddOnes (2 ^ i) k = decide (i < k) := by
  induction k with
  | zero => rfl
  | succ k ih =>
    rw [oddOnes_succ, ih, Nat.testBit_two_pow, Bool.eq_iff_iff]
    simp
    omega

theorem byteParity_eq_oddOnes (v k : Nat) : byteParity v k = oddOnes (v >>> (8 * k)) 8 := by
  rw [Nat.shiftRight_eq_div_pow]; rfl

theorem byteParity_congr {v u k : Nat} (h : ∀ i < 8, v.testBit (8 * k + i) = u.testBit (8 * k + i)) :
    byteParity v k = byteParity u k := by
  rw [byteParity_eq_oddOnes, byteParity_eq_oddOnes]
  exact oddOnes_congr fun i hi => by simpa [Nat.testBit_shiftRight] using h i hi

theorem byteParity_xor (v u k : Nat) : byteParity (v ^^^ u) k = (byteParity v k ^^ byteParity u k) := by
  simp only [byteParity_eq_oddOnes, Nat.shiftRight_xor_distrib, oddOnes_xor]

/-- One set bit makes the parity of its own byte odd, and of no other. -/
theorem byteParity_two_pow (b k : Nat) : byteParity (2 ^ b) k = decide (k = b / 8) := by
  rw [byteParity_eq_oddOnes, Nat.shiftRight_eq_div_pow]
  by_cases hbelow : b < 8 * k
  · have hother : k ≠ b / 8 := by omega
    rw [Nat.div_eq_of_lt (Nat.pow_lt_pow_right (by decide) hbelow), oddOnes_zero, decide_eq_false hother]
  · rw [Nat.pow_div (Nat.le_of_not_lt hbelow) (by decide), oddOnes_two_pow, decide_eq_decide]
    omega

end Sys2Proof.Machine
end

section
/-! Directory entries (R93, R94, R122): the word of an entry gives its fields back, and its parity bits catch one
flipped bit. -/

namespace Sys2Proof.Machine

/-- The fields of an entry's word below its parity, with their widths (R93). -/
def DirE.fields (e : DirE) : List (Nat × Nat) := [(36, e.tag), (3, e.state), (7, e.owner), (64, e.sharers), (2, e.age)]

/-- The parity bits of an entry's word, from byte 0 (R122). -/
def DirE.parities (e : DirE) : List Bool := (List.range 14).map (byteParity (pack e.fields))

theorem DirE.packWidth_fields (e : DirE) : packWidth e.fields = 112 := rfl

theorem DirE.pack_fields_lt (e : DirE) : pack e.fields < 2 ^ 112 := pack_lt e.fields

theorem DirE.bitsOf_parities_lt (e : DirE) : bitsOf e.parities < 2 ^ 14 := by
  simpa [DirE.parities] using bitsOf_lt e.parities

theorem DirE.encode_toNat (e : DirE) : e.encode.toNat = pack e.fields + 2 ^ 112 * bitsOf e.parities := by
  have hfields := e.pack_fields_lt
  have hparities := e.bitsOf_parities_lt
  refine (BitVec.toNat_ofNat _ _).trans (Nat.mod_eq_of_lt ?_)
  change pack e.fields + 2 ^ 112 * bitsOf e.parities < 2 ^ 128
  omega

/-- The word is the fields with the parity bits as one more field. -/
theorem DirE.encode_toNat_eq_pack (e : DirE) : e.encode.toNat = pack (e.fields ++ [(14, bitsOf e.parities)]) := by
  rw [e.encode_toNat, pack_append, e.packWidth_fields, pack, pack, Nat.mod_eq_of_lt e.bitsOf_parities_lt, Nat.mul_zero,
    Nat.add_zero]

theorem DirE.encode_testBit_data (e : DirE) {i : Nat} (hi : i < 112) :
    e.encode.toNat.testBit i = (pack e.fields).testBit i := by
  rw [e.encode_toNat, Nat.add_comm, Nat.testBit_two_pow_mul_add _ e.pack_fields_lt, if_pos hi]

theorem DirE.encode_testBit_parity (e : DirE) {k : Nat} (hk : k < 14) :
    e.encode.toNat.testBit (112 + k) = byteParity (pack e.fields) k := by
  rw [e.encode_toNat, Nat.add_comm, Nat.testBit_two_pow_mul_add _ e.pack_fields_lt, if_neg (by omega),
    Nat.add_sub_cancel_left, bitsOf_testBit]
  simp [DirE.parities, hk]

theorem DirE.byteParity_encode (e : DirE) {k : Nat} (hk : k < 14) :
    byteParity e.encode.toNat k = byteParity (pack e.fields) k :=
  byteParity_congr fun _ _ => e.encode_testBit_data (by omega)

theorem DirE.byteOk_encode (e : DirE) {k : Nat} (hk : k < 14) : byteOk e.encode k = true := by
  rw [byteOk, e.byteParity_encode hk, e.encode_testBit_parity hk, beq_self_eq_true]

/-- A flipped data bit changes what parity says of its own byte, and of no other. -/
theorem byteOk_xor_two_pow (w : BitVec 128) {b k : Nat} (hb : b < 112) :
    byteOk (w ^^^ BitVec.ofNat 128 (2 ^ b)) k = (byteOk w k ^^ decide (k = b / 8)) := by
  have hflip : (BitVec.ofNat 128 (2 ^ b)).toNat = 2 ^ b :=
    (BitVec.toNat_ofNat _ _).trans (Nat.mod_eq_of_lt (Nat.pow_lt_pow_right (by decide) (by omega)))
  have hparityBit : (2 ^ b).testBit (112 + k) = false := by
    rw [Nat.testBit_two_pow]; exact decide_eq_false (by omega)
  rw [byteOk, byteOk, BitVec.toNat_xor, hflip, byteParity_xor, byteParity_two_pow, Nat.testBit_xor, hparityBit,
    Bool.xor_false]
  cases byteParity w.toNat k <;> cases w.toNat.testBit (112 + k) <;> cases decide (k = b / 8) <;> rfl

/-- Each field of the word is the entry's, cut to its width. -/
theorem DirE.decode_encode_eq_mod (e : DirE) :
    DirE.decode e.encode =
      { tag := e.tag % 2 ^ 36, state := e.state % 2 ^ 3, owner := e.owner % 2 ^ 7, sharers := e.sharers % 2 ^ 64,
        age := e.age % 2 ^ 2 } := by
  rw [DirE.decode, e.encode_toNat_eq_pack, DirE.mk.injEq]
  simp only [DirE.fields, List.cons_append, List.nil_append]
  refine ⟨field_pack_first .., ?stateEq, ?ownerEq, ?sharersEq, ?ageEq⟩
  case stateEq => exact (field_pack_later 36 _ 0 ..).trans (field_pack_first ..)
  case ownerEq => exact (field_pack_later 36 _ 3 ..).trans <| (field_pack_later 3 _ 0 ..).trans (field_pack_first ..)
  case sharersEq =>
    exact (field_pack_later 36 _ 10 ..).trans <| (field_pack_later 3 _ 7 ..).trans <|
      (field_pack_later 7 _ 0 ..).trans (field_pack_first ..)
  case ageEq =>
    exact (field_pack_later 36 _ 74 ..).trans <| (field_pack_later 3 _ 71 ..).trans <|
      (field_pack_later 7 _ 64 ..).trans <| (field_pack_later 64 _ 0 ..).trans (field_pack_first ..)

theorem DirE.decode_encode {e : DirE} (htag : e.tag < 2 ^ 36) (hstate : e.state < 8) (howner : e.owner < 128)
    (hsharers : e.sharers < 2 ^ 64) (hage : e.age < 4) : DirE.decode e.encode = e := by
  rw [e.decode_encode_eq_mod, Nat.mod_eq_of_lt htag, Nat.mod_eq_of_lt (b := 2 ^ 3) hstate,
    Nat.mod_eq_of_lt (b := 2 ^ 7) howner, Nat.mod_eq_of_lt hsharers, Nat.mod_eq_of_lt (b := 2 ^ 2) hage]

/-- The parity of an entry's word is good, so only the shape of what it decodes to counts. -/
theorem DirE.dirPass_encode (e : DirE) : dirPass e.encode = (DirE.decode e.encode).wf := by
  have hbytes : (List.range 14).all (byteOk e.encode) = true :=
    List.all_eq_true.mpr fun k hk => e.byteOk_encode (List.mem_range.mp hk)
  rw [dirPass, hbytes, Bool.true_and]

/-- Settles O31: the fields of the packed word are the entry's; each parity bit is that of its byte, and one flipped data bit
changes the parity of its own byte only. -/
theorem directoryEntriesRoundTrip : Obligations.DirectoryEntriesRoundTrip := by
  intro e htag hstate howner hsharers hage
  have hdecode : DirE.decode e.encode = e := DirE.decode_encode htag hstate howner hsharers hage
  refine ⟨hdecode, fun k hk => e.byteOk_encode hk, ?_, fun b hb k hk => ?_⟩
  · rw [e.dirPass_encode, hdecode]
  · rw [byteOk_xor_two_pow _ hb, e.byteOk_encode hk, Bool.true_xor, decide_not]

end Sys2Proof.Machine
end

section
/-! Lines, sets and TAGs (R95), and the candidates of a sweep (R127). -/

namespace Sys2Proof.Machine

/-! ### The hash of a line number -/

/-- The number whose remainder modulo the groups is g of R95, of a TAG. -/
def tagHash (tag : Nat) : Nat := tag ^^^ tag >>> 18

theorem tagHash_lt {v : Nat} (hv : v < 2 ^ 36) : tagHash v < 2 ^ 36 :=
  Nat.xor_lt_two_pow hv (Nat.lt_of_le_of_lt (Nat.shiftRight_le v 18) hv)

/-- Of 36 bits the upper 18 stay as they are, so the hash undoes itself. -/
theorem tagHash_tagHash {v : Nat} (hv : v < 2 ^ 36) : tagHash (tagHash v) = v := by
  have hgone : v >>> 18 >>> 18 = 0 := by
    rw [← Nat.shiftRight_add, Nat.shiftRight_eq_div_pow]; exact Nat.div_eq_of_lt hv
  rw [tagHash, tagHash, Nat.shiftRight_xor_distrib, hgone, Nat.xor_zero, Nat.xor_assoc, Nat.xor_self, Nat.xor_zero]

/-- The hash of 36 bits, half by half, as R127 computes it. -/
theorem tagHash_eq_halves {v : Nat} (hv : v < 2 ^ 36) :
    tagHash v = v / 2 ^ 18 * 2 ^ 18 + ((v % 2 ^ 18) ^^^ (v / 2 ^ 18)) := by
  have hhigh : v / 2 ^ 18 < 2 ^ 18 := by omega
  have hdiv : tagHash v / 2 ^ 18 = v / 2 ^ 18 := by
    rw [tagHash, Nat.shiftRight_eq_div_pow, Nat.xor_div_two_pow, Nat.div_eq_of_lt hhigh, Nat.xor_zero]
  have hmod : tagHash v % 2 ^ 18 = (v % 2 ^ 18) ^^^ (v / 2 ^ 18) := by
    rw [tagHash, Nat.shiftRight_eq_div_pow, Nat.xor_mod_two_pow, Nat.mod_eq_of_lt hhigh]
  rw [← hmod, ← hdiv, Nat.div_add_mod']

theorem setOf_eq_tagHash (n : Nat) : setOf n = 32 * (tagHash (tagOf n) % dirGroups) + n % 32 := by
  have hhigh : n / 2 ^ 23 = (n / 32) >>> 18 := by
    rw [Nat.shiftRight_eq_div_pow, Nat.div_div_eq_div_mul]; rfl
  rw [setOf, hhigh]; rfl

/-! ### A line, its set and its TAG -/

theorem setOf_mod (n : Nat) : setOf n % 32 = n % 32 := by
  rw [setOf]; omega

theorem setOf_div (n : Nat) : setOf n / 32 = tagHash (tagOf n) % dirGroups := by
  rw [setOf_eq_tagHash]; omega

theorem setOf_lt (n : Nat) : setOf n < 58720256 := by
  have hgroup : tagHash (tagOf n) % dirGroups < 1835008 := Nat.mod_lt _ (by decide)
  rw [setOf_eq_tagHash]; omega

theorem lineAt_tagOf_setOf (n : Nat) : lineAt (tagOf n) (setOf n) = n := by
  rw [lineAt, setOf_mod, tagOf, Nat.div_add_mod']

theorem tagOf_lineAt (tag set : Nat) : tagOf (lineAt tag set) = tag := by
  rw [tagOf, lineAt]; omega

/-- A TAG names a line of a set when its hash lies in the set's group. -/
theorem setOf_lineAt {tag set : Nat} (hgroup : tagHash tag % dirGroups = set / 32) : setOf (lineAt tag set) = set := by
  have hlow : lineAt tag set % 32 = set % 32 := by rw [lineAt]; omega
  rw [setOf_eq_tagHash, tagOf_lineAt, hgroup, hlow, Nat.div_add_mod]

theorem tagOf_lt {n : Nat} (hn : n < 2 ^ 41) : tagOf n < 2 ^ 36 := by
  rw [tagOf]; omega

theorem lineOf_tile_add {tile off : Nat} (htile : tile < 2 ^ 19) (hoff : off < 2 ^ 28) :
    lineOf (tile * 2 ^ 28 + off) = tile * 2 ^ 22 + off / 2 ^ 6 := by
  simp only [lineOf, field]
  omega

theorem line_ext {m n : Nat} (hset : setOf m = setOf n) (htag : tagOf m = tagOf n) : m = n := by
  rw [← lineAt_tagOf_setOf m, hset, htag, lineAt_tagOf_setOf]

theorem setOf_add {n k : Nat} (hn : n % 32 = 0) (hk : k < 32) : setOf (n + k) = setOf n + k := by
  have htag : tagOf (n + k) = tagOf n := by rw [tagOf, tagOf]; omega
  rw [setOf_eq_tagHash, setOf_eq_tagHash, htag]
  omega

/-- Settles O29: a set is its group of 32 with the line's low five bits, which the TAG lacks. -/
theorem setAndTagNameTheLine : Obligations.SetAndTagNameTheLine := by
  intro tile off n hoff hn hn41
  refine ⟨?line, ?set, ?tag, setOf_lt n, tagOf_lt hn41, lineAt_tagOf_setOf n, fun m => line_ext,
    fun k hk hlow => setOf_add hlow hk⟩
  case line =>
    have htile : tile < 2 ^ 19 := by omega
    exact (lineOf_tile_add htile hoff).trans hn.symm
  case set => rw [Nat.shiftRight_eq_div_pow, Nat.shiftRight_eq_div_pow]; rfl
  case tag => rw [Nat.shiftRight_eq_div_pow]; rfl

/-! ### The candidates of a sweep -/

/-- Candidate k of a set is the TAG whose hash is the set's group and k times the groups more. -/
theorem sweepTag_eq_some_iff {set k tag : Nat} :
    sweepTag set k = some tag ↔ tag < 2 ^ 36 ∧ tagHash tag = set / 32 + k * dirGroups := by
  have hsweep : sweepTag set k =
      if set / 32 + k * dirGroups < 2 ^ 36 then some (tagHash (set / 32 + k * dirGroups)) else none := by
    rw [sweepTag]
    exact ite_congr rfl (fun hv => by rw [tagHash_eq_halves hv]) fun _ => rfl
  rw [hsweep, Option.ite_none_right_eq_some, Option.some.injEq]
  constructor
  · rintro ⟨hv, rfl⟩
    exact ⟨tagHash_lt hv, tagHash_tagHash hv⟩
  · rintro ⟨htag, hhash⟩
    rw [← hhash]
    exact ⟨tagHash_lt htag, tagHash_tagHash htag⟩

theorem sweepTag_eq_none {k : Nat} (set : Nat) (hk : 37450 ≤ k) : sweepTag set k = none := by
  refine if_neg ?_
  rw [dirGroups]
  omega

/-- Settles O30: the hash of a TAG is the set's group plus k times the number of groups for exactly one k. -/
theorem sweepCandidatesAreTheTagsOfTheSet : Obligations.SweepCandidatesAreTheTagsOfTheSet := by
  intro set hset
  have hgroup : set / 32 < dirGroups := by rw [dirGroups]; omega
  refine ⟨fun k tag hcand => ?sound, fun n hn hmem => ?complete, fun k => sweepTag_eq_none set⟩
  case sound =>
    obtain ⟨htag, hhash⟩ := sweepTag_eq_some_iff.mp hcand
    refine ⟨htag, setOf_lineAt ?_, tagOf_lineAt tag set⟩
    rw [hhash, Nat.add_mul_mod_self_right, Nat.mod_eq_of_lt hgroup]
  case complete =>
    have hdiv : tagHash (tagOf n) % dirGroups = set / 32 := by rw [← setOf_div, hmem]
    have hhash : tagHash (tagOf n) = set / 32 + tagHash (tagOf n) / dirGroups * dirGroups := by
      rw [← hdiv, Nat.mod_add_div']
    refine ⟨tagHash (tagOf n) / dirGroups, sweepTag_eq_some_iff.mpr ⟨tagOf_lt hn, hhash⟩, fun j hj => ?_⟩
    rw [(sweepTag_eq_some_iff.mp hj).2, Nat.add_mul_div_right _ _ (by decide), Nat.div_eq_of_lt hgroup, Nat.zero_add]

end Sys2Proof.Machine
end

section
/-! SUPPORT. The wanted state of a request (R98), its snoops and the holders it leaves (R99). -/

namespace Sys2Proof.Machine

variable {t : Txn} {w : Want} {hs : List Nat} {o : Option Nat} {q : Bool} {r : Nat}

/-- The slots of a list that are not the requester's. -/
def Txn.others (t : Txn) (l : List Nat) : List Nat := l.filter fun i => t.ownSlot ≠ some i

/-! ### The wanted state (R98) -/

theorem wantOf_of_meta0State {op : Nat} {m : Msg} (hop : op ≠ 2) (hmeta : m.metaField = .meta0State) :
    (m.metaValue = .invalid → wantOf op m = .none) ∧ (m.metaValue = .shared → wantOf op m = .shared)
      ∧ (m.metaValue = .any → wantOf op m = .excl) := by
  refine ⟨fun hv => ?_, fun hv => ?_, fun hv => ?_⟩ <;> simp [wantOf, hop, hmeta, hv]

theorem wantOf_of_noOp {op : Nat} {m : Msg} (hop : op ≠ 2) (hmeta : m.metaField = .noOp) :
    (m.snpType = .snpInv → wantOf op m = .excl) ∧ (m.snpType = .snpData → wantOf op m = .shared)
      ∧ (m.snpType = .snpCur ∨ m.snpType = .noOp → wantOf op m = .none) := by
  refine ⟨fun hv => ?_, fun hv => ?_, fun hv => ?_⟩
  · simp [wantOf, hop, hmeta, hv]
  · simp [wantOf, hop, hmeta, hv]
  · obtain hv | hv := hv <;> simp [wantOf, hop, hmeta, hv]

/-! ### The snoop set and the snoop type (R99) -/

theorem ownSlot_ne_of_mem_snoopFor {a i : Nat} (hi : i ∈ (snoopFor t a w hs o).1) : t.ownSlot ≠ some i :=
  of_decide_eq_true (List.mem_filter.mp hi).2

theorem snoopFor_invalidate (hinv : t.opcode = 0 ∨ t.opcode = 9) : snoopFor t 0 w hs o = (t.others hs, .inv) := by
  simp [snoopFor, Txn.others, hinv]

/-- A read snoops by what it wants: every holder, or the owner alone. -/
theorem snoopFor_read (hread : ¬ (t.opcode = 0 ∨ t.opcode = 9)) :
    snoopFor t 0 w hs o = (match w with
      | .excl => (t.others hs, .inv)
      | .shared => (t.others o.toList, .data)
      | .none => (t.others o.toList, .cur)) := by
  cases w <;> cases o <;> simp [snoopFor, Txn.others, hread]

theorem snoopFor_writeback (hcls : t.cls = 1) (hsnp : t.msg.snpType = .noOp) (howner : o = some r)
    (hreq : t.reqSlot = some r) : snoopFor t 1 w hs o = ([], .inv) := by
  simp [snoopFor, hcls, hsnp, howner, hreq]

theorem snoopFor_write (hother : t.cls ≠ 1 ∨ t.msg.snpType ≠ .noOp ∨ o = none ∨ o ≠ t.reqSlot) :
    snoopFor t 1 w hs o = (t.others hs, .inv) := by
  have hnot : ¬ (t.cls = 1 ∧ t.msg.snpType = .noOp ∧ o.isSome ∧ o = t.reqSlot) := by
    rintro ⟨hcls, hsnp, hsome, hreq⟩
    obtain h | h | h | h := hother
    · exact h hcls
    · exact h hsnp
    · simp [h] at hsome
    · exact h hreq
  simp [snoopFor, Txn.others, hnot]

theorem snoopFor_evict : snoopFor t 2 w hs o = ([], .inv) := rfl

theorem snoopFor_engine : snoopFor t 3 w hs o = (t.others o.toList, .cur) := by cases o <;> rfl

/-! ### The holders after a read or an invalidation (R99, R216) -/

theorem Txn.after_excl (hreq : t.reqSlot = some r) (hwant : t.want = .excl) : t.after 0 false = ([r], some r, 2) := by
  simp [Txn.after, hreq, hwant]

theorem Txn.after_shared_alone (hreq : t.reqSlot = some r) (hwant : t.want = .shared)
    (hread : ¬ (t.opcode = 0 ∨ t.opcode = 9)) (hleft : t.others t.holders = []) : t.after 0 false = ([r], some r, 2) := by
  have hempty : (t.others t.holders).isEmpty = true := List.isEmpty_iff.mpr hleft
  simp only [Txn.after, hreq, hwant]
  exact (if_neg hread).trans (if_pos hempty)

theorem Txn.after_shared_joined (hreq : t.reqSlot = some r) (hwant : t.want = .shared)
    (hread : ¬ (t.opcode = 0 ∨ t.opcode = 9)) (hleft : t.others t.holders ≠ []) :
    t.after 0 false = (t.others t.holders ++ [r], none, 1) := by
  have hsome : (t.others t.holders).isEmpty ≠ true := fun h => hleft (List.isEmpty_iff.mp h)
  simp only [Txn.after, hreq, hwant]
  exact (if_neg hread).trans (if_neg hsome)

/-- A request that wants NONE, comes in NO_CACHE or has no usable slot takes no place in the entry. -/
theorem Txn.after_of_no_place (hnone : t.want = .none ∨ q = true ∨ t.reqSlot = none) :
    t.after 0 q = if t.opcode = 0 ∨ t.opcode = 9 then
        (t.others t.holders, t.ownerNow.filter fun i => t.ownSlot ≠ some i, 0)
      else (t.holders, t.ownerNow, 0) := by
  obtain hwant | rfl | hreq := hnone
  · cases q <;> cases hreq : t.reqSlot <;> simp [Txn.after, Txn.others, hwant, hreq]
  · cases hreq : t.reqSlot <;> simp [Txn.after, Txn.others, hreq]
  · simp [Txn.after, Txn.others, hreq]

theorem Txn.after_read_of_no_place (hnone : t.want = .none ∨ q = true ∨ t.reqSlot = none)
    (hread : ¬ (t.opcode = 0 ∨ t.opcode = 9)) : t.after 0 q = (t.holders, t.ownerNow, 0) :=
  (Txn.after_of_no_place hnone).trans (if_neg hread)

theorem Txn.after_invalidate_of_no_place (hnone : t.want = .none ∨ q = true ∨ t.reqSlot = none)
    (hinv : t.opcode = 0 ∨ t.opcode = 9) : (t.after 0 q).1 = t.others t.holders := by
  rw [Txn.after_of_no_place hnone, if_pos hinv]

theorem Txn.after_invalidate_of_shared (hwant : t.want = .shared) (hinv : t.opcode = 0 ∨ t.opcode = 9) :
    (t.after 0 q).1 = t.others t.holders := by
  cases hreq : t.reqSlot with
  | none => exact Txn.after_invalidate_of_no_place (.inr (.inr hreq)) hinv
  | some r =>
    cases q
    case true => exact Txn.after_invalidate_of_no_place (.inr (.inl rfl)) hinv
    case false => simp [Txn.after, Txn.others, hreq, hwant, hinv]

/-! ### The holders after a write, an eviction and a read of an engine (R99, R216) -/

theorem Txn.after_write_noOp (hown : t.ownSlot = some r) (hmeta : t.msg.metaField = .noOp) :
    t.after 1 false = (t.holders, t.ownerNow, 0) := by
  simp [Txn.after, hown, hmeta]

theorem Txn.after_write_invalid (hown : t.ownSlot = some r) (hmeta : t.msg.metaField = .meta0State)
    (hvalue : t.msg.metaValue = .invalid) : (t.after 1 false).1 = t.others t.holders := by
  simp [Txn.after, Txn.others, hown, hmeta, hvalue]

theorem Txn.after_write_shared (hown : t.ownSlot = some r) (hmeta : t.msg.metaField = .meta0State)
    (hreq : t.reqSlot = some r) (hvalue : t.msg.metaValue = .shared) : t.after 1 false = ([r], none, 0) := by
  simp [Txn.after, hown, hmeta, hreq, hvalue]

theorem Txn.after_write_any (hown : t.ownSlot = some r) (hmeta : t.msg.metaField = .meta0State)
    (hreq : t.reqSlot = some r) (hvalue : t.msg.metaValue = .any) : t.after 1 false = ([r], some r, 0) := by
  simp [Txn.after, hown, hmeta, hreq, hvalue]

/-- In NO_CACHE a write drops its requester, whatever its meta field says. -/
theorem Txn.after_write_noCache (hown : t.ownSlot = some r) : (t.after 1 true).1 = t.others t.holders := by
  simp [Txn.after, Txn.others, hown]

theorem Txn.after_evict : (t.after 2 q).1 = t.others t.holders := rfl

theorem Txn.after_engine : t.after 3 q = ([], none, 0) := rfl

end Sys2Proof.Machine
end

section
/-! A request's wanted state, its snoops and the holders it leaves. -/

namespace Sys2Proof.Machine

/-- Settles O36: each clause is one row of R98 or R99, for the requester's place in the entry that it finds. -/
theorem snoopsAndGrantsFollowTheRequest : Obligations.SnoopsAndGrantsFollowTheRequest := by
  intro t w hs o op m
  refine ⟨rfl, fun hop hmeta => ?wantMeta, fun hop hmeta => ?wantSnp, fun a i => ownSlot_ne_of_mem_snoopFor,
    snoopFor_invalidate, fun hread => ⟨snoopFor_read hread, snoopFor_read hread, snoopFor_read hread⟩,
    fun hcls hsnp r howner hreq => ?writeback, snoopFor_write, ⟨?evict, snoopFor_engine⟩,
    fun r hreq => ⟨Txn.after_excl hreq, Txn.after_shared_alone hreq, Txn.after_shared_joined hreq⟩,
    fun q hnone => ⟨Txn.after_read_of_no_place hnone, Txn.after_invalidate_of_no_place hnone⟩,
    fun q => Txn.after_invalidate_of_shared,
    fun r hown => ⟨Txn.after_write_noOp hown, Txn.after_write_invalid hown,
      fun hmeta hreq => ⟨Txn.after_write_shared hown hmeta hreq, Txn.after_write_any hown hmeta hreq⟩,
      Txn.after_write_noCache hown⟩,
    fun q => ⟨Txn.after_evict, Txn.after_engine⟩⟩
  case wantMeta =>
    obtain ⟨hinvalid, hshared, hany⟩ := wantOf_of_meta0State hop hmeta
    cases hvalue : m.metaValue with
    | invalid => exact hinvalid hvalue
    | shared => exact hshared hvalue
    | any => exact hany hvalue
  case wantSnp =>
    obtain ⟨hinv, hdata, hnone⟩ := wantOf_of_noOp hop hmeta
    cases hsnp : m.snpType with
    | snpInv => exact hinv hsnp
    | snpData => exact hdata hsnp
    | snpCur => exact hnone (.inl hsnp)
    | noOp => exact hnone (.inr hsnp)
  case writeback => rw [snoopFor_writeback hcls hsnp howner hreq]
  case evict => rw [snoopFor_evict]

end Sys2Proof.Machine
end

section
/-! The store: retired channels and their relocation, patrols, candidate sweeps and the live log (R125, R127, R128, R130, R132,
R133, R134, R403). -/

namespace Sys2Proof.Machine

variable {s : State} {c cause set way : Nat}

/-! ### CHANNEL_RETIRED (R132, R133, R134) -/

/-- The other channel of the pair of channel c (R118). -/
def mateOf (c : Nat) : Nat := if c < 16 then c + 16 else c - 16

/-- Channel c has passed the limit of the cause that retires it (R120, R132). -/
def State.pastLimit (s : State) (c : Nat) : RetireCause → Bool
  | .write fails => decide (4 ≤ fails.toNat)
  | .retrain errors => decide (s.tab.dirParam.retrainErrors < errors.toNat)
  | .corrections => decide (s.tab.dirParam.correctionLimit < (s.dir.corrections.get c).length)

/-- The number by which a retirement's records name its cause. -/
def retireCauseNo : RetireCause → Nat
  | .write _ => 0
  | .retrain _ => 1
  | .corrections => 2

/-- The retirement of channel c is counted and logged, and may freeze the log. -/
def State.logRetired (s : State) (c cause : Nat) : State :=
  ((s.countGlobal 87).log 0x0205 2 [(1, c), (1, cause)]).freezeMaskable 5

/-- The state in which channel c serves no longer. -/
def State.withRetired (s : State) (c : Nat) : State :=
  { s with dir.retired := s.dir.retired ||| BitVec.ofNat 32 (2 ^ c) }

/-- The pair of channel c is lost with it, and so are its parts of the bitmaps (R134, R224). -/
def State.losePair (s : State) (c cause : Nat) : State :=
  State.loseBitmaps ((State.logRetired { s with
    dir.retired := s.dir.retired ||| BitVec.ofNat 32 (2 ^ c), dir.lost := s.dir.lost ||| BitVec.ofNat 16 (2 ^ (c % 16)) }
      c cause).log 0x0207 3 [(1, c % 16), (1, cause)])

theorem State.retireFor_of_not_past {r : RetireCause} (hlimit : s.pastLimit c r = false) : s.retireFor c r = s := by
  cases r <;> exact if_pos (by simpa [State.pastLimit] using hlimit)

theorem State.retireFor_of_past {r : RetireCause} (hlimit : s.pastLimit c r = true) :
    s.retireFor c r = s.retireChannel c (retireCauseNo r) := by
  cases r <;> exact if_neg (by simpa [State.pastLimit] using hlimit)

/-- Pair p has moved to the reserve (R133). -/
def State.pairMoved (s : State) (p : Nat) : Bool :=
  match s.dir.reloc with
  | some r => r.pair == p && r.done
  | none => false

/-- A copy of pair p to the reserve is under way. -/
def State.pairCopying (s : State) (p : Nat) : Bool :=
  match s.dir.reloc with
  | some r => r.pair == p && !r.done
  | none => false

/-- The state in which the copy of pair p has reached a block that is free (log entry 1), and gets no further. -/
def State.cutCopy (s : State) (p : Nat) : State :=
  let k := s.free.1 % (pairBlocks + 1)
  let q := s.free.2.relocSkips p k
  { q.2.copyPair p k q.1 with dir.reloc := some { pair := p, pointer := k, skipped := q.1 } }

theorem State.pair_idle_of_elsewhere {p : Nat} (hother : ∀ r, s.dir.reloc = some r → r.pair ≠ p) :
    s.pairMoved p = false ∧ s.pairCopying p = false := by
  rw [State.pairMoved, State.pairCopying]
  cases hreloc : s.dir.reloc with
  | none => exact ⟨rfl, rfl⟩
  | some r => simp [hother r hreloc]

theorem State.pairMoved_of_reloc {p : Nat} {r : Reloc} (hreloc : s.dir.reloc = some r) (hpair : r.pair = p) :
    s.pairMoved p = r.done := by
  simp [State.pairMoved, hreloc, hpair]

theorem State.pairCopying_of_reloc {p : Nat} {r : Reloc} (hreloc : s.dir.reloc = some r) (hpair : r.pair = p) :
    s.pairCopying p = !r.done := by
  simp [State.pairCopying, hreloc, hpair]

/-- A channel in service is retired in one of three ways: its partner, then the copy to the reserve, tells which. -/
theorem State.retireChannel_eq (s : State) (c cause : Nat) :
    s.retireChannel c cause =
      if ¬ s.chanOk c = true then s
      else if s.chanOk (mateOf c) = true then State.logRetired (if s.dir.reloc.isNone = true
        then { s.withRetired c with dir.reloc := some { pair := c % 16 } } else s.withRetired c) c cause
      else if s.pairMoved (c % 16) = true then (s.withRetired c).logRetired c cause
      else State.losePair (if s.pairCopying (c % 16) = true then s.cutCopy (c % 16) else s) c cause := rfl

theorem State.retireChannel_of_retired (hchan : s.chanOk c = false) : s.retireChannel c cause = s :=
  if_pos (by simp [hchan])

theorem State.retireFor_of_idle {r : RetireCause} (hidle : s.chanOk c = false ∨ s.pastLimit c r = false) :
    s.retireFor c r = s := by
  cases hlimit : s.pastLimit c r with
  | false => exact State.retireFor_of_not_past hlimit
  | true =>
    rw [State.retireFor_of_past hlimit]
    exact State.retireChannel_of_retired (by simpa [hlimit] using hidle)

section
variable (hchan : s.chanOk c = true)
include hchan

/-- With its partner in service the pair goes on from the partner, and starts to move unless another pair does. -/
theorem State.retireChannel_of_mate (hmate : s.chanOk (mateOf c) = true) :
    s.retireChannel c cause = State.logRetired (if s.dir.reloc.isNone = true
      then { s.withRetired c with dir.reloc := some { pair := c % 16 } } else s.withRetired c) c cause := by
  rw [State.retireChannel_eq, if_neg (not_not.mpr hchan), if_pos hmate]

variable (hmate : s.chanOk (mateOf c) = false)
include hmate

/-- A pair that has moved to the reserve loses nothing with its second channel. -/
theorem State.retireChannel_of_moved (hmoved : s.pairMoved (c % 16) = true) :
    s.retireChannel c cause = (s.withRetired c).logRetired c cause := by
  rw [State.retireChannel_eq, if_neg (not_not.mpr hchan), hmate, if_neg Bool.false_ne_true, if_pos hmoved]

/-- Any other pair is lost, but for what a copy under way has copied. -/
theorem State.retireChannel_of_lost (hmoved : s.pairMoved (c % 16) = false) :
    s.retireChannel c cause =
      State.losePair (if s.pairCopying (c % 16) = true then s.cutCopy (c % 16) else s) c cause := by
  rw [State.retireChannel_eq, if_neg (not_not.mpr hchan), hmate, if_neg Bool.false_ne_true, hmoved, if_neg Bool.false_ne_true]

end

/-! ### RELOCATION_DONE (R133) -/

theorem State.relocationDone_of_none (hnone : s.dir.reloc = none) : s.relocationDone = s := by
  rw [State.relocationDone, hnone]

theorem State.relocationDone_of_idle {r : Reloc} (hreloc : s.dir.reloc = some r)
    (hidle : r.done = true ∨ s.sys.mode = .safe ∨ s.dir.lost.toNat.testBit r.pair = true) : s.relocationDone = s := by
  rw [State.relocationDone, hreloc]
  exact if_pos hidle

theorem State.relocationDone_of_copying {r : Reloc} (hreloc : s.dir.reloc = some r) (hdone : r.done = false)
    (hsafe : s.sys.mode ≠ .safe) (hlost : s.dir.lost.toNat.testBit r.pair = false) :
    s.relocationDone =
      (let q := s.relocSkips r.pair pairBlocks
       State.log { q.2.copyPair r.pair pairBlocks q.1 with
         dir.reloc := some { r with pointer := pairBlocks, done := true, skipped := q.1 } } 0x0206 0 [(1, r.pair), (1, 0)]) := by
  rw [State.relocationDone, hreloc]
  exact if_neg (by simp [hdone, hsafe, hlost])

/-! ### PATROL (R130) -/

theorem State.patrol_of_idle (hidle : s.tab.dirParam.patrolH = 0 ∨ s.sys.mode = .safe ∨ s.sys.served = false) :
    s.patrol = s := if_pos (by simpa using hidle)

theorem State.patrol_of_due (hperiod : s.tab.dirParam.patrolH ≠ 0) (hsafe : s.sys.mode ≠ .safe)
    (hserved : s.sys.served = true) :
    s.patrol =
      (let t := s.advanceTo (s.dir.lastPatrol + s.tab.dirParam.patrolH * 3600000000000)
       (State.scrubPass { t with dir.lastPatrol := t.sys.ft } 0 939524096).2) :=
  if_neg (by simp [hperiod, hsafe, hserved])

/-! ### CANDIDATE_SWEEP (R127) -/

/-- Only the first queued sweep starts, while fewer than four run and not in SAFE. -/
theorem State.startSweep_of_idle (hidle : s.dir.sweepQueue.head? ≠ some (set, way) ∨ 4 ≤ s.dir.sweeps.length
    ∨ s.sys.mode = .safe) : s.startSweep set way = s := by
  rw [State.startSweep]
  cases hqueue : s.dir.sweepQueue with
  | nil => rfl
  | cons e rest =>
    obtain ⟨a, b⟩ := e
    refine if_neg ?_
    rintro ⟨rfl, rfl, hroom, hsafe⟩
    simp [hqueue, hsafe, Nat.not_le.mpr hroom] at hidle

theorem State.startSweep_of_first {rest : List (Nat × Nat)} (hqueue : s.dir.sweepQueue = (set, way) :: rest)
    (hroom : s.dir.sweeps.length < 4) (hsafe : s.sys.mode ≠ .safe) :
    s.startSweep set way =
      (let q := s.scrubAsk set 1
       if q.1 = true then { q.2 with
         dir.sweepQueue := rest, dir.sweeps := q.2.dir.sweeps ++ [{ set := set, way := way }] }
       else { q.2 with dir.sweepQueue := rest }) := by
  rw [State.startSweep, hqueue]
  exact if_pos ⟨rfl, rfl, hroom, hsafe⟩

/-! ### SWEEP_DONE (R128) -/

/-- The running sweep of a way. -/
def State.sweepOf (s : State) (set way : Nat) : Option Sweep := s.dir.sweeps.find? fun w => w.set == set && w.way == way

/-- The state in which the row of a set can be written through the cache: a lost set needs none. -/
def State.sweepRow (s : State) (set : Nat) : Option State := if s.setLost set = true then some s else s.fetchSet set

theorem State.sweepDone_of_none (hnone : s.sweepOf set way = none) : s.sweepDone set way = s := by
  rw [State.sweepOf] at hnone
  rw [State.sweepDone, hnone]

section
variable {w : Sweep} (hsweep : s.sweepOf set way = some w)
include hsweep

theorem State.sweepDone_of_idle
    (hidle : w.exhausted = false ∨ w.running ≠ 0 ∨ s.sys.mode = .safe ∨ s.sweepRow set = none) :
    s.sweepDone set way = s := by
  rw [State.sweepOf] at hsweep
  rw [State.sweepRow] at hidle
  rw [State.sweepDone, hsweep]
  dsimp only
  split
  · rfl
  · next hgo =>
    have hrow : (if s.setLost set = true then some s else s.fetchSet set) = none := by
      simp only [Bool.not_eq_true] at hgo
      tauto
    rw [hrow]

theorem State.sweepDone_of_ended {t : State} (hexhausted : w.exhausted = true) (hrunning : w.running = 0)
    (hsafe : s.sys.mode ≠ .safe) (hrow : s.sweepRow set = some t) :
    s.sweepDone set way =
      (let q := t.scrubAsk set 2
       let u : State := if q.1 = true ∧ q.2.setLost set = false then q.2.writeWay set way dirFill else q.2
       State.log { u with
         dir.sweeps := u.dir.sweeps.filter fun v => !(v.set == set && v.way == way), dp.freed := true }
         0x0204 0 [(4, set), (1, way), (4, w.rebuilt), (4, w.poisoned)]) := by
  rw [State.sweepOf] at hsweep
  rw [State.sweepRow] at hrow
  rw [State.sweepDone, hsweep]
  dsimp only
  rw [if_neg (by simp [hexhausted, hrunning, hsafe]), hrow]
  simp only [Bool.not_eq_true]

end

/-! ### What each command runs -/

theorem exec_channelRetired (ch : ChannelId) (r : RetireCause) :
    exec (.channelRetired ch r) s = act (fun t => t.retireFor ch.val r) s := rfl
theorem exec_relocationDone : exec .relocationDone s = act (fun t => t.relocationDone) s := rfl
theorem exec_patrol : exec .patrol s = act (fun t => t.patrol) s := rfl
theorem exec_candidateSweep (set : BitVec 26) (way : Fin 16) :
    exec (.candidateSweep set way) s = act (fun t => t.startSweep set.toNat way.val) s := rfl
theorem exec_sweepDone (set : BitVec 26) (way : Fin 16) :
    exec (.sweepDone set way) s = act (fun t => t.sweepDone set.toNat way.val) s := rfl
theorem exec_liveLogDrain (n : Nat) : exec (.liveLogDrain n) s = act (fun t => t.drainLive n) s := rfl

/-- Settles O17: a channel that has passed its limit is retired in one of five ways, by its partner and by the copy under way;
each other clause is one branch of its event. -/
theorem channelsPassesAndSweepsOfTheStore : Obligations.ChannelsPassesAndSweepsOfTheStore := by
  intro s c cause set way n p mate sweep due why logged gone lost
  have hdueEq : due = s.start.pastLimit c.val cause := by cases cause <;> rfl
  have hwhyEq : why = retireCauseNo cause := by cases cause <;> rfl
  refine ⟨fun hidle => ?idle, fun hchan hdue => ?retired, fun hnone => ?noCopy,
    fun r hreloc => ⟨fun hidle => ?copyIdle, fun hdone hsafe hlost => ?copied⟩, fun hidle => ?patrolIdle,
    fun hperiod hsafe hserved => ?patrol, fun rest hqueue hroom hsafe => ?sweep, fun hidle => ?sweepIdle,
    fun hnone => ?noSweep, fun w hsweep => ⟨fun hidle => ?sweepWaits, fun t hexhausted hrunning hsafe hrow => ?swept⟩,
    ⟨s.start.drainLive n, State.settlesTo_of_act (exec_liveLogDrain n) rfl, rfl⟩⟩
  case idle =>
    rw [hdueEq] at hidle
    exact State.settlesTo_of_act (exec_channelRetired c cause) (State.retireFor_of_idle (s := s.start) hidle)
  case retired =>
    rw [hdueEq] at hdue
    have hretires {t : State} (ht : s.start.retireChannel c.val (retireCauseNo cause) = t) :
        s.settlesTo (.channelRetired c cause) t :=
      State.settlesTo_of_act (exec_channelRetired c cause) ((State.retireFor_of_past hdue).trans ht)
    rw [← hwhyEq] at hretires
    refine ⟨fun hmate hnone => ?starts, fun hmate hmoving => ?survives, fun hmate => ⟨fun hother => ?lost,
      fun r hreloc hpair => ⟨fun hdone => ?moved, fun hdone => ?copying⟩⟩⟩
    case starts =>
      refine hretires ((State.retireChannel_of_mate (s := s.start) hchan hmate).trans ?_)
      rw [State.start_dir, hnone]
      rfl
    case survives =>
      refine hretires ((State.retireChannel_of_mate (s := s.start) hchan hmate).trans ?_)
      rw [State.start_dir, if_neg (by simpa using hmoving)]
      rfl
    case lost =>
      obtain ⟨hmoved, hcopying⟩ := State.pair_idle_of_elsewhere (s := s.start) hother
      refine hretires ((State.retireChannel_of_lost (s := s.start) hchan hmate hmoved).trans ?_)
      rw [hcopying]
      rfl
    case moved =>
      have hmoved : s.start.pairMoved p = true := (State.pairMoved_of_reloc (s := s.start) hreloc hpair).trans hdone
      exact hretires (State.retireChannel_of_moved (s := s.start) hchan hmate hmoved)
    case copying =>
      have hmoved : s.start.pairMoved p = false := (State.pairMoved_of_reloc (s := s.start) hreloc hpair).trans hdone
      have hcopying : s.start.pairCopying p = true := by
        rw [State.pairCopying_of_reloc (s := s.start) hreloc hpair, hdone, Bool.not_false]
      refine hretires ((State.retireChannel_of_lost (s := s.start) hchan hmate hmoved).trans ?_)
      rw [hcopying]
      rfl
  case noCopy => exact State.settlesTo_of_act exec_relocationDone (State.relocationDone_of_none (s := s.start) hnone)
  case copyIdle => exact State.settlesTo_of_act exec_relocationDone (State.relocationDone_of_idle (s := s.start) hreloc hidle)
  case copied =>
    exact State.settlesTo_of_act exec_relocationDone (State.relocationDone_of_copying (s := s.start) hreloc hdone hsafe hlost)
  case patrolIdle => exact State.settlesTo_of_act exec_patrol (State.patrol_of_idle (s := s.start) hidle)
  case patrol => exact State.settlesTo_of_act exec_patrol (State.patrol_of_due (s := s.start) hperiod hsafe hserved)
  case sweep =>
    exact State.settlesTo_of_act (exec_candidateSweep set way) (State.startSweep_of_first (s := s.start) hqueue hroom hsafe)
  case sweepIdle => exact State.settlesTo_of_act (exec_candidateSweep set way) (State.startSweep_of_idle (s := s.start) hidle)
  case noSweep => exact State.settlesTo_of_act (exec_sweepDone set way) (State.sweepDone_of_none (s := s.start) hnone)
  case sweepWaits => exact State.settlesTo_of_act (exec_sweepDone set way) (State.sweepDone_of_idle (s := s.start) hsweep hidle)
  case swept =>
    exact State.settlesTo_of_act (exec_sweepDone set way)
      (State.sweepDone_of_ended (s := s.start) hsweep hexhausted hrunning hsafe hrow)

end Sys2Proof.Machine
end

section
/-! Parity of on-die SRAM and of GDDR6 reads, and the repair of damaged table entries (R121, R123, R135, R136, R211). -/

namespace Sys2Proof.Machine

variable {s : State} {m n : ParityMem} {i : Nat}

/-! ### Damaged table entries -/

/-- The counter and the entry number of a table entry that waits for Bolroth once it fails (R135): none of the other memories. -/
def tableEntry : ParityMem → Option (Nat × Nat)
  | .window n | .tenant n | .translation n | .homeTile n | .snoopAddr n => some (177, n.toNat)
  | .sharer n => some (177, n.val)
  | .checkerRegion k r => some (177, 64 * k.val + r.val)
  | .recipeWord r k => some (178, 16 * r.toNat + k.toNat)
  | .dispatch n => some (178, n.toNat)
  | _ => none

theorem State.parityFailure_of_tableEntry {g e : Nat} :
    ∀ {m : ParityMem}, tableEntry m = some (g, e) → s.parityFailure m = (s.logParity g e).markDamaged m
  | .window _, rfl | .tenant _, rfl | .translation _, rfl | .homeTile _, rfl | .snoopAddr _, rfl => rfl
  | .sharer _, rfl | .checkerRegion _ _, rfl => rfl
  | .recipeWord _ _, rfl | .dispatch _, rfl => rfl

/-- An entry that is damaged already is not noted twice. -/
theorem State.isDamaged_markDamaged : (s.markDamaged m).isDamaged n = true ↔ s.isDamaged n = true ∨ n = m := by
  have hnoted : (s.markDamaged m).isDamaged n
      = (if s.isDamaged m then s.tab.damaged else s.tab.damaged ++ [(m, s.sys.ft)]).any (·.1 == n) := rfl
  rw [hnoted]
  cases hm : s.isDamaged m with
  | true => exact ⟨.inl, fun h => h.elim id fun heq => heq ▸ hm⟩
  | false =>
    rw [if_neg Bool.false_ne_true, List.any_append, Bool.or_eq_true, List.any_cons, List.any_nil, Bool.or_false, beq_iff_eq,
      eq_comm (a := m)]
    rfl

/-! ### PARITY_REPAIR -/

/-- The fabric time at which entry m failed. -/
def State.failedAt (s : State) (m : ParityMem) : Nat := ((s.tab.damaged.find? (·.1 == m)).map (·.2)).getD 0

/-- The state in which entry m is damaged no longer. -/
def State.undamaged (s : State) (m : ParityMem) : State :=
  { s with tab.damaged := s.tab.damaged.filter (·.1 ≠ m), dp.freed := true }

theorem State.parityRepair_of_idle (hidle : s.isDamaged m = false ∨ s.executorFree = false) : s.parityRepair m = s :=
  if_pos (by simpa using hidle)

/-- What Bolroth does for the entry it rewrites, besides rewriting it. -/
def State.restoreEntry (s : State) (m : ParityMem) (failed : Nat) : State :=
  match m with
  | .homeTile _ => s.drainLive s.sys.liveLog.length
  | .translation n =>
    if (s.tab.tt.get n.toNat).state = .releasing then
      let u := s.advanceTo (failed + s.tab.ident.completionMs * 1000000 + 2000)
      { u with tab.tt := u.tab.tt.set n.toNat {} }
    else s
  | _ => s

theorem State.parityRepair_of_damaged (hdamaged : s.isDamaged m = true) (hfree : s.executorFree = true) :
    s.parityRepair m = (s.undamaged m).restoreEntry m (s.failedAt m) :=
  if_neg (by simp [hdamaged, hfree])

/-! ### Buffered records -/

@[simp] theorem State.logParity_txn (g e : Nat) : (s.logParity g e).txn i = s.txn i := by
  simp [State.logParity, State.txn]

section
variable {x : PointId} {c : Fin 8}

theorem State.parityFailure_bufferData_of_none {w : Bool} (hnone : s.queuedRecord x.val c.val = none) :
    s.parityFailure (.bufferData x c w) = s := by
  simp only [State.parityFailure, hnone]

theorem State.parityFailure_bufferHeader_of_none (hnone : s.queuedRecord x.val c.val = none) :
    s.parityFailure (.bufferHeader x c) = s := by
  simp only [State.parityFailure, hnone]

variable {k : Nat} {e : QEntry} (hqueued : s.queuedRecord x.val c.val = some (k, e))
include hqueued

theorem State.parityFailure_bufferData_read :
    s.parityFailure (.bufferData x c false) =
      (let t := s.logParity 67 (e.record.getD 0)
       { t with
         dp.queues := t.dp.queues.upd (8 * x.val + c.val) fun l =>
           l.set k { e with msg := { e.msg with poison := true } } }) := by
  simp only [State.parityFailure, hqueued, Bool.false_eq_true, if_false]

theorem State.parityFailure_bufferData_write :
    s.parityFailure (.bufferData x c true) = { s with
      dp.recs := s.dp.recs.upd (e.record.getD 0) (·.map fun r => { r with badWrite := true }),
      dp.queues := s.dp.queues.upd (8 * x.val + c.val) (·.modify k fun e => { e with sf := true }) } := by
  simp only [State.parityFailure, hqueued, if_true]

theorem State.parityFailure_bufferHeader_of_message (htxn : e.txn = none) :
    s.parityFailure (.bufferHeader x c) =
      ((s.logParity 67 (e.record.getD 0)).dequeueAt x.val c.val k).releaseRec e.record := by
  simp only [State.parityFailure, hqueued, htxn]

variable (htxn : e.txn = some i)
include htxn

theorem State.parityFailure_bufferHeader_of_sent (hfinal : e.final = false) :
    s.parityFailure (.bufferHeader x c) =
      (((s.logParity 67 (e.record.getD 0)).dequeueAt x.val c.val k).releaseRec e.record).failSent i := by
  simp only [State.parityFailure, hqueued, htxn, hfinal, Bool.false_eq_true, if_false]

theorem State.parityFailure_bufferHeader_of_answer {a : Msg} {u : Nat} (hfinal : e.final = true)
    (hanswer : (s.txn i).errorAnswer = some (a, u)) :
    s.parityFailure (.bufferHeader x c) =
      (let t := s.logParity 67 (e.record.getD 0)
       { t with dp.queues := t.dp.queues.upd (8 * x.val + c.val) fun l => l.set k { e with msg := a, units := u } }) := by
  simp only [State.parityFailure, hqueued, htxn, hfinal, if_true, State.logParity_txn, hanswer]

theorem State.parityFailure_bufferHeader_of_noAnswer (hfinal : e.final = true) (hanswer : (s.txn i).errorAnswer = none) :
    s.parityFailure (.bufferHeader x c) = ((s.logParity 67 (e.record.getD 0)).dequeueAt x.val c.val k).freeTxn i := by
  simp only [State.parityFailure, hqueued, htxn, hfinal, if_true, State.logParity_txn, hanswer]

end

/-! ### Entries of the data plane, the directory cache, counters and GDDR6 -/

theorem State.parityFailure_txn_of_free {j : BitVec 17} {ok : Bool} (hfree : (s.txn j.toNat).state = .free) :
    s.parityFailure (.txn j ok) = s := if_pos hfree

section
variable {j : BitVec 17} (hused : (s.txn j.toNat).state ≠ .free)
include hused

theorem State.parityFailure_txn_of_intact :
    s.parityFailure (.txn j true) = ((s.logParity 176 j.toNat).quarantine j.toNat).endError j.toNat := by
  rw [State.parityFailure, if_neg hused, if_pos rfl]

theorem State.parityFailure_txn_of_broken : s.parityFailure (.txn j false) = (s.logParity 176 j.toNat).freeTxn j.toNat 2 := by
  rw [State.parityFailure, if_neg hused, if_neg Bool.false_ne_true]

end

theorem State.parityFailure_conflict (j : BitVec 16) :
    s.parityFailure (.conflict j) = if (s.dp.conflicts.get j.toNat).valid = true
      then (s.logParity 179 j.toNat).forceTimeout (s.dp.conflicts.get j.toNat).txn else s := rfl

theorem State.parityFailure_activeLine_of_none {j : BitVec 41} (hnone : s.dp.lines.get j.toNat = none) :
    s.parityFailure (.activeLine j) = s := by
  simp only [State.parityFailure, hnone]

theorem State.parityFailure_activeLine_of_held {j : BitVec 41} {l : ActiveLine} (hheld : s.dp.lines.get j.toNat = some l) :
    s.parityFailure (.activeLine j) = (s.logParity 179 (j.toNat % 2 ^ 32)).forceTimeout l.holder := by
  simp only [State.parityFailure, hheld]

theorem State.parityFailure_dirCache_of_absent {j : BitVec 26} (habsent : s.cachedSet j.toNat = none) :
    s.parityFailure (.dirCache j) = s := by
  simp only [State.parityFailure, habsent]

theorem State.parityFailure_dirCache_of_cached {j : BitVec 26} {r : CacheSet} (hcached : s.cachedSet j.toNat = some r) :
    s.parityFailure (.dirCache j) = State.logParity
      { s with dir.cache := s.dir.cache.upd (cacheRow j.toNat) fun row => row.filter (·.set ≠ j.toNat) } 82 j.toNat := by
  simp only [State.parityFailure, hcached]

theorem State.parityFailure_counter (j : BitVec 13) :
    s.parityFailure (.counter j) = if 5120 ≤ j.toNat then s else State.logParity
      { s with obs.counters := s.obs.counters.upd j.toNat fun c => { c with value := 0, ovf := true } } 180 j.toNat := rfl

theorem State.parityFailure_dirtySummary (k : BitVec 10) (b : BitVec 11) :
    s.parityFailure (.dirtySummary k b) = if (s.mig k.toNat).valid = true
      then { s with wq.summary := s.wq.summary.set (2048 * k.toNat + b.toNat) true } else s := rfl

theorem State.parityFailure_gddrRead (c : ChannelId) (f : BitVec 3) :
    s.parityFailure (.gddrRead c f) = if f.toNat < 4 then s
      else { s with dir.readErr := s.dir.readErr ||| BitVec.ofNat 32 (2 ^ c.val) } := rfl

/-! ### What each command runs -/

theorem exec_parityFailure : exec (.parityFailure m) s = act (fun t => t.parityFailure m) s := rfl
theorem exec_parityRepair : exec (.parityRepair m) s = act (fun t => t.parityRepair m) s := rfl

/-- Settles O18: the clauses go through the memories one by one, each by what its failure finds there. -/
theorem parityFailuresDamageAndAreRepaired : Obligations.ParityFailuresDamageAndAreRepaired := by
  intro s logged
  have hfails {m : ParityMem} {t : State} (ht : s.start.parityFailure m = t) : s.settlesTo (.parityFailure m) t :=
    State.settlesTo_of_act exec_parityFailure ht
  refine ⟨fun m g e hentry => ?table, fun t m n => State.isDamaged_markDamaged, fun m hidle => ?undamaged,
    fun m hdamaged hfree => ?repaired, fun x c w hnone => ?noRecord, fun x c k e hqueued => ?record, fun i ok hfree => ?freeTxn,
    fun i hused => ?usedTxn, fun n => ?conflict, fun n => ?activeLine, fun n habsent => ?uncached, fun n r hcached => ?cached,
    fun n hbound => ?noCounter, fun n hbound => ?counter, fun k b => ?summary, fun c f => ?read, fun a one f => hfails rfl⟩
  case table =>
    have htable : tableEntry m = some (g, e) := by
      simp only [Prod.mk.injEq] at hentry
      obtain ⟨j, rfl, rfl, rfl⟩ | ⟨j, rfl, rfl, rfl⟩ | ⟨j, rfl, rfl, rfl⟩ | ⟨k, r, rfl, rfl, rfl⟩ | ⟨j, rfl, rfl, rfl⟩
        | ⟨j, rfl, rfl, rfl⟩ | ⟨j, rfl, rfl, rfl⟩ | ⟨r, k, rfl, rfl, rfl⟩ | ⟨j, rfl, rfl, rfl⟩ := hentry
      all_goals rfl
    exact hfails (State.parityFailure_of_tableEntry htable)
  case undamaged => exact State.settlesTo_of_act exec_parityRepair (State.parityRepair_of_idle (s := s.start) hidle)
  case repaired =>
    exact State.settlesTo_of_act exec_parityRepair (State.parityRepair_of_damaged (s := s.start) hdamaged hfree)
  case noRecord =>
    exact ⟨hfails (State.parityFailure_bufferData_of_none (s := s.start) hnone),
      hfails (State.parityFailure_bufferHeader_of_none (s := s.start) hnone)⟩
  case record =>
    exact ⟨hfails (State.parityFailure_bufferData_read (s := s.start) hqueued),
      hfails (State.parityFailure_bufferData_write (s := s.start) hqueued),
      fun htxn => hfails (State.parityFailure_bufferHeader_of_message (s := s.start) hqueued htxn), fun i htxn =>
        ⟨fun hfinal => hfails (State.parityFailure_bufferHeader_of_sent (s := s.start) hqueued htxn hfinal),
        fun m u hfinal hanswer =>
          hfails (State.parityFailure_bufferHeader_of_answer (s := s.start) hqueued htxn hfinal hanswer),
        fun hfinal hanswer =>
          hfails (State.parityFailure_bufferHeader_of_noAnswer (s := s.start) hqueued htxn hfinal hanswer)⟩⟩
  case freeTxn => exact hfails (State.parityFailure_txn_of_free (s := s.start) hfree)
  case usedTxn =>
    exact ⟨hfails (State.parityFailure_txn_of_intact (s := s.start) hused),
      hfails (State.parityFailure_txn_of_broken (s := s.start) hused)⟩
  case conflict =>
    constructor <;> intro hvalid <;> refine hfails ((State.parityFailure_conflict n).trans ?_)
    · exact if_neg (Bool.eq_false_iff.mp hvalid)
    · exact if_pos hvalid
  case activeLine =>
    exact ⟨fun hnone => hfails (State.parityFailure_activeLine_of_none (s := s.start) hnone),
      fun l hheld => hfails (State.parityFailure_activeLine_of_held (s := s.start) hheld)⟩
  case uncached => exact hfails (State.parityFailure_dirCache_of_absent (s := s.start) habsent)
  case cached => exact hfails (State.parityFailure_dirCache_of_cached (s := s.start) hcached)
  case noCounter => exact hfails ((State.parityFailure_counter n).trans (if_pos hbound))
  case counter => exact hfails ((State.parityFailure_counter n).trans (if_neg (Nat.not_le.mpr hbound)))
  case summary =>
    constructor <;> intro hvalid <;> refine hfails ((State.parityFailure_dirtySummary k b).trans ?_)
    · exact if_neg (Bool.eq_false_iff.mp hvalid)
    · exact if_pos hvalid
  case read =>
    exact ⟨fun hfew => hfails ((State.parityFailure_gddrRead c f).trans (if_pos hfew)),
      fun hmany => hfails ((State.parityFailure_gddrRead c f).trans (if_neg (Nat.not_lt.mpr hmany)))⟩

end Sys2Proof.Machine
end

section
/-! The resets, and what each keeps (R129, R155, R181, R332, R333, R393, R394, R396, R402, R456). -/

namespace Sys2Proof.Machine

variable {s : State} {n : Nat}

/-! ### The check of the archive slots (R129) -/

/-- The state with other archives, crossbar-written bytes and differing bits of the copies. -/
def State.withArchive (s : State) (a : Tbl ({} : Archive)) (m : Tbl (none : Option Byte)) (f g : Tbl (0 : Byte)) : State :=
  { s with obs.archives := a, mgmt.store := m, dir.flip0 := f, dir.flip1 := g }

/-- The check of the archive slots changes nothing else. -/
theorem State.checkArchives_eq : ∃ a m f g, s.checkArchives = s.withArchive a m f g := by
  have hrest : s.checkArchives.withArchive {} {} {} {} = s.withArchive {} {} {} {} :=
    State.checkArchives_keep (fun t => t.withArchive {} {} {} {}) fun _ _ _ _ _ => rfl
  generalize s.checkArchives = u at hrest
  refine ⟨u.obs.archives, u.mgmt.store, u.dir.flip0, u.dir.flip1, ?_⟩
  calc u = (u.withArchive {} {} {} {}).withArchive u.obs.archives u.mgmt.store u.dir.flip0 u.dir.flip1 := rfl
    _ = (s.withArchive {} {} {} {}).withArchive u.obs.archives u.mgmt.store u.dir.flip0 u.dir.flip1 := by rw [hrest]

/-! ### The slot-power channels at a warm reset (R332, R333) -/

/-- What a channel's power hangs on. -/
def Channel.power (c : Channel) := (c.state, c.energy, c.fault)

/-- In `u` the channels' table is in its canonical form, and channel j has the power that it has in `s`. -/
def State.samePower (s : State) (j : Nat) (u : State) : Prop :=
  u.slots.chans.wf = true ∧ (u.slots.chans.get j).power = (s.slots.chans.get j).power

theorem State.updChan_samePower {u : State} {j : Nat} {f : Channel → Channel} (hf : ∀ c, (f c).power = c.power)
    (hu : s.samePower j u) : s.samePower j (u.updChan n f) := by
  obtain ⟨hwf, hpower⟩ := hu
  refine ⟨Tbl.wf_upd _ _ _ hwf, Eq.trans ?_ hpower⟩
  rw [State.updChan]
  by_cases hj : j = n
  · rw [hj, Tbl.get_upd_same _ _ _ hwf, hf]
  · rw [Tbl.get_upd_other _ _ _ _ hj]

theorem State.slotPins_samePower {u : State} {j : Nat} (hu : s.samePower j u) : s.samePower j (u.slotPins n) :=
  State.updChan_samePower (fun _ => rfl) hu

/-- The pins are driven channel by channel. -/
def State.drivePins (s : State) (l : List Nat) : State := l.foldl (fun t n => t.slotPins n) s

theorem State.drivePins_keep {β : Type} (p : State → β)
    (hp : ∀ (u : State) e k, p { u with edge := e, slots := k } = p u) (l : List Nat) : p (s.drivePins l) = p s :=
  Laws.foldl_keep p (fun u n => hp u (u.slotPins n).edge (u.slotPins n).slots) l s

theorem State.drivePins_samePower {u : State} {j : Nat} (hu : s.samePower j u) (l : List Nat) :
    s.samePower j (u.drivePins l) :=
  Laws.foldl_inv (s.samePower j) (fun _ _ => State.slotPins_samePower) l u hu

/-! ### The tables that a warm reset rebuilds (R155, R181) -/

theorem State.warmCheckers_locked (hwf : s.tab.checkers.wf = true) (c : Nat) :
    (s.warmCheckers.get c).locked = (s.tab.checkers.get c).locked := by
  rw [State.warmCheckers, (Tbl.get_foldl_set _ c _ .empty Tbl.wf_empty).1]
  split
  · rfl
  · next hnot =>
    rw [Tbl.mem_find _ _ _ hwf, not_and_or] at hnot
    obtain habsent | hopen := hnot
    · rw [Tbl.get_of_not_key _ _ habsent]
      rfl
    · exact .symm (by simpa using hopen)

/-- What a warm reset makes of a queue pair (R181). -/
def Qp.warm (k : Qp) : Qp :=
  if k.state = .unassigned then { qpGen := k.qpGen }
  else { state := .disabled, tenant := k.tenant, hostPort := k.hostPort, dbPage := k.dbPage, qpGen := k.qpGen }

theorem State.warmQps_get (q : Nat) : s.warmQps.get q = (s.wq.qps.get q).warm := by
  refine (Tbl.get_foldl_set (fun q => (s.wq.qps.get q).warm) q s.wq.qps.keys .empty Tbl.wf_empty).1.trans ?_
  split
  · rfl
  · next habsent =>
    rw [Tbl.get_of_not_key _ _ habsent]
    rfl

section
variable (k : Qp)

theorem Qp.warm_qpGen : k.warm.qpGen = k.qpGen := by rw [Qp.warm]; split <;> rfl

variable {k}

theorem Qp.warm_of_unassigned (hnone : k.state = .unassigned) : k.warm = { qpGen := k.qpGen } := if_pos hnone

theorem Qp.warm_of_assigned (hassigned : k.state ≠ .unassigned) : k.warm =
    { state := .disabled, tenant := k.tenant, hostPort := k.hostPort, dbPage := k.dbPage, qpGen := k.qpGen } :=
  if_neg hassigned

end

/-! ### The state after a warm reset (R402) -/

/-- Every group but those that the channels' pins belong to, and the management plane. -/
theorem State.warm_groups :
    s.warm.sys = {
      ft := s.sys.ft, frac := s.sys.frac, warmPending := true, stopped := s.sys.stopped
      status := { kind := 3, bootSlot := s.sys.status.bootSlot, bootConfirmed := s.sys.status.bootConfirmed
                  safeCause := s.sys.status.safeCause
                  warmCount := if s.sys.status.warmCount = 0xFFFF then 0xFFFF else s.sys.status.warmCount + 1 }
      thermal := s.sys.thermal, railPg := s.sys.railPg, pps := { missed := s.sys.pps.missed }
      handoverCount := s.sys.handoverCount, liveLog := s.sys.liveLog }
    ∧ s.warm.tab = {
      bank0 := { regions := s.tab.bank0.regions, tenants := s.tab.bank0.tenants }
      bank1 := { regions := s.tab.bank1.regions, tenants := s.tab.bank1.tenants }
      gens := s.tab.gens, checkers := s.warmCheckers }
    ∧ s.warm.dp = {} ∧ s.warm.dir.retired = s.dir.retired
    ∧ s.warm.obs = {
      log := s.obs.log, status := { s.obs.status with archiving := false }, freezeTime := s.obs.freezeTime
      archived := s.obs.archived, archives := s.checkArchives.obs.archives, archiveSeq := s.obs.archiveSeq, out := s.obs.out }
    ∧ s.warm.wq = { qps := s.warmQps } := by
  obtain ⟨a, m, f, g, hcheck⟩ := State.checkArchives_eq (s := s)
  rw [State.warm, hcheck]
  exact ⟨State.drivePins_keep (·.sys) (fun _ _ _ => rfl) _, State.drivePins_keep (·.tab) (fun _ _ _ => rfl) _,
    State.drivePins_keep (·.dp) (fun _ _ _ => rfl) _, State.drivePins_keep (·.dir.retired) (fun _ _ _ => rfl) _,
    State.drivePins_keep (·.obs) (fun _ _ _ => rfl) _, State.drivePins_keep (·.wq) (fun _ _ _ => rfl) _⟩

theorem State.warm_mgmt : s.warm.mgmt.fuses = s.mgmt.fuses ∧ s.warm.mgmt.cfg.current = s.mgmt.cfg.current
    ∧ s.warm.mgmt.cfg.digest = s.mgmt.cfg.digest ∧ s.warm.mgmt.ticket = 1 ∧ s.warm.mgmt.sessions = {} := by
  obtain ⟨a, m, f, g, hcheck⟩ := State.checkArchives_eq (s := s)
  have hmgmt : s.warm.mgmt = _ := State.drivePins_keep (·.mgmt) (fun _ _ _ => rfl) _
  rw [hmgmt, hcheck]
  exact ⟨rfl, rfl, rfl, rfl, rfl⟩

theorem State.warm_samePower (hwf : s.slots.chans.wf = true) (j : Nat) : s.samePower j s.warm := by
  obtain ⟨a, m, f, g, hcheck⟩ := State.checkArchives_eq (s := s)
  rw [State.warm, hcheck]
  refine State.drivePins_samePower ?_ _
  exact ⟨hwf, rfl⟩

/-! ### The state after a cold reset (R129, R393) -/

/-- Whether or not GDDR6 keeps its contents, the log, the counters and both copies of the directory are gone. -/
theorem State.cold_lost (kind : BitVec 3) (keep : Bool) :
    (s.cold kind keep).obs.counters = {} ∧ (s.cold kind keep).dir.copy0 = {} ∧ (s.cold kind keep).dir.copy1 = {}
      ∧ (s.cold kind keep).dir.retired = 0 ∧ (s.cold kind keep).obs.log = {} := by
  cases keep <;> exact ⟨rfl, rfl, rfl, rfl, rfl⟩

/-! ### THERMTRIP and WARM_PIN (R394, R456) -/

theorem State.thermtrip_of_cool {tj : Byte} {k : Fin 28} (hcool : tj.toNat < 125) : s.thermtrip tj k = s.readTj tj k :=
  if_pos hcool

theorem State.thermtrip_of_hot {tj : Byte} {k : Fin 28} (hhot : 125 ≤ tj.toNat) :
    s.thermtrip tj k = { s.checkArchives.cold s.sys.status.kind true with
      sys.thermal := { (s.readTj tj k).sys.thermal with trip := true } } :=
  if_neg (Nat.not_lt.mpr hhot)

theorem State.warmPin_of_reset (hmode : s.sys.mode = .reset) : s.warmPin = s := if_pos hmode

theorem State.warmPin_of_running (hmode : s.sys.mode ≠ .reset) :
    s.warmPin = ((s.endDebug.setMode .reset).freezeAlways 3).warm := if_neg hmode

/-! ### What each command runs -/

theorem exec_powerOn : exec .powerOn s = act (fun t => t.powerOn) s := rfl
theorem exec_coldPin : exec .coldPin s = act (fun t => t.coldPin) s := rfl
theorem exec_railFault (r : Rail) : exec (.railFault r) s = act (fun t => t.railFault r) s := rfl
theorem exec_thermtrip (tj : Byte) (k : Fin 28) : exec (.thermtrip tj k) s = act (fun t => t.thermtrip tj k) s := rfl
theorem exec_warmPin : exec .warmPin s = act (fun t => t.warmPin) s := rfl

/-- Settles O19: each event brings one of the two resets; what a warm reset keeps is what the check of the archive slots and
the channels' pins leave of its state. -/
theorem resetsKeepWhatTheyKeep : Obligations.ResetsKeepWhatTheyKeep := by
  intro s r tj k kind keep
  refine ⟨State.settlesTo_of_act exec_powerOn rfl, State.settlesTo_of_act exec_coldPin rfl,
    State.settlesTo_of_act (exec_railFault r) rfl, fun hcool => ?cool, fun hhot => ?hot, fun hmode => ?held, fun hmode => ?pin,
    ?cold, ?warm⟩
  case cool => exact State.settlesTo_of_act (exec_thermtrip tj k) (State.thermtrip_of_cool (s := s.start) hcool)
  case hot => exact State.settlesTo_of_act (exec_thermtrip tj k) (State.thermtrip_of_hot (s := s.start) hhot)
  case held => exact State.settlesTo_of_act exec_warmPin (State.warmPin_of_reset (s := s.start) hmode)
  case pin => exact State.settlesTo_of_act exec_warmPin (State.warmPin_of_running (s := s.start) hmode)
  case cold =>
    intro c
    obtain ⟨hcounters, hdirAndLog⟩ := State.cold_lost (s := s) kind keep
    refine ⟨rfl, rfl, rfl, rfl, rfl, rfl, rfl, rfl, rfl, rfl, rfl, rfl, rfl, hcounters, fun hkeeps => ?keeps,
      fun hloses => ?loses, hdirAndLog⟩
    case keeps => subst hkeeps; rfl
    case loses => subst hloses; exact ⟨rfl, rfl⟩
  case warm =>
    intro w
    obtain ⟨hsys, htab, hdp, hdir, hobs, hwq⟩ := State.warm_groups (s := s)
    obtain ⟨hfuses, hcurrent, hdigest, hticket, hsessions⟩ := State.warm_mgmt (s := s)
    simp only [w, hsys, htab, hdp, hdir, hobs, hwq, State.warmQps_get, true_and]
    refine ⟨rfl, rfl, rfl, hfuses, hcurrent, hdigest, hticket, hsessions, fun hwf n => ?power,
      fun hwf c => State.warmCheckers_locked hwf c, fun hwf q => ⟨?gen, fun hnone => ?unassigned, fun hassigned => ?assigned⟩⟩
    case power => simpa only [Channel.power, Prod.mk.injEq] using (State.warm_samePower hwf n).2
    case gen => exact Qp.warm_qpGen _
    case unassigned => rw [Qp.warm_of_unassigned hnone]
    case assigned =>
      rw [Qp.warm_of_assigned hassigned]
      exact ⟨rfl, rfl, rfl⟩

end Sys2Proof.Machine
end

section
/-! PREPARE and the release of the pairs (R129, R157, R338, R394, R397, R398, R410). -/

namespace Sys2Proof.Machine

variable {s : State} {r : PrepareReport}

/-! ### RESET_RELEASE (R394, R397) -/

theorem State.release_of_held (hheld : s.sys.mode ≠ .reset ∨ s.sys.thermal.trip = true) : s.release r = s := if_pos hheld

/-- The state in which PREPARE loads the fuses (step 1). -/
def State.loadingFuses (s : State) : State := (State.setMode { s with sys.railPg := 0xF } .prepare).prepareStep 1

/-- The state in which PREPARE reads the straps (step 4): the die-to-die links have been trained. -/
def State.readingStraps (s : State) (r : PrepareReport) : State :=
  (((s.loadingFuses.prepareStep 2).prepareStep 3).trainLinks r.linkUp).prepareStep 4

/-- The state in which the channels that failed training or read-back are retired (step 6). -/
def State.storeFilled (s : State) (r : PrepareReport) : State :=
  (((s.readingStraps r).retireMask r.trainFail).prepareStep 6).retireMask r.readFail

/-- The log that a reset froze is archived. -/
def State.archiveFrozen (s : State) : State := if s.obs.status.frozen ∧ ¬ s.obs.archived then s.archiveLog else s

/-- PREPARE runs up to its first step that fails. -/
theorem State.release_eq (hmode : s.sys.mode = .reset) (htrip : s.sys.thermal.trip = false) :
    s.release r =
      if ¬ r.fusesOk = true then s.loadingFuses.enterSafe 1
      else if ¬ r.sramOk = true then (s.loadingFuses.prepareStep 2).enterSafe 1
      else if r.straps = 3 then (s.readingStraps r).enterSafe 1
      else if (s.storeFilled r).pairGone = true then (s.storeFilled r).enterSafe 1
      else (s.storeFilled r).archiveFrozen.bootVerify :=
  if_neg (by simp [hmode, htrip])

section
variable (hmode : s.sys.mode = .reset) (htrip : s.sys.thermal.trip = false)
include hmode htrip

theorem State.release_of_fuses (hfuses : r.fusesOk = false) : s.release r = s.loadingFuses.enterSafe 1 := by
  rw [State.release_eq hmode htrip, if_pos (Bool.eq_false_iff.mp hfuses)]

variable (hfuses : r.fusesOk = true)
include hfuses

theorem State.release_of_sram (hsram : r.sramOk = false) : s.release r = (s.loadingFuses.prepareStep 2).enterSafe 1 := by
  rw [State.release_eq hmode htrip, if_neg (not_not.mpr hfuses), if_pos (Bool.eq_false_iff.mp hsram)]

variable (hsram : r.sramOk = true)
include hsram

theorem State.release_of_straps (hstraps : r.straps = 3) : s.release r = (s.readingStraps r).enterSafe 1 := by
  rw [State.release_eq hmode htrip, if_neg (not_not.mpr hfuses), if_neg (not_not.mpr hsram), if_pos hstraps]

variable (hstraps : r.straps ≠ 3)
include hstraps

theorem State.release_of_pairGone (hgone : (s.storeFilled r).pairGone = true) :
    s.release r = (s.storeFilled r).enterSafe 1 := by
  rw [State.release_eq hmode htrip, if_neg (not_not.mpr hfuses), if_neg (not_not.mpr hsram), if_neg hstraps, if_pos hgone]

theorem State.release_of_good (hgone : (s.storeFilled r).pairGone = false) :
    s.release r = (s.storeFilled r).archiveFrozen.bootVerify := by
  rw [State.release_eq hmode htrip, if_neg (not_not.mpr hfuses), if_neg (not_not.mpr hsram), if_neg hstraps,
    if_neg (Bool.eq_false_iff.mp hgone)]

end

/-! ### The boot choice (R398, R410) -/

/-- The state in which both images have been verified (step 7). -/
def State.verified (s : State) : State :=
  { s with sys.status := { s.sys.status with slot0Ok := s.imageOk 0, slot1Ok := s.imageOk 1, prepareStep := 7 } }

/-- The part boots the chosen image, or enters SAFE without one. -/
def State.takeChoice (s : State) : Option (Bool × Bool) → State
  | none => s.enterSafe 2
  | some (slot, fb) => { s with sys.status := { s.sys.status with bootSlot := slot, fallback := fb } }

theorem State.imageField_congr {t : State} (hflash : t.mgmt.flash = s.mgmt.flash) (k off n : Nat) :
    t.imageField k off n = s.imageField k off n := by
  simp only [State.imageField, State.imageBytes, State.flashByte, hflash]

theorem State.bootVerify_eq : s.bootVerify = s.verified.takeChoice
    (bootChoice (s.imageOk 0) (s.imageOk 1) (s.imageField 0 4 4) (s.imageField 1 4 4) (s.sys.status.kind == 3)
      s.sys.status.bootConfirmed s.sys.status.bootSlot) := by
  rw [← State.imageField_congr (s := s) (t := s.verified) rfl, ← State.imageField_congr (s := s) (t := s.verified) rfl,
    beq_eq_decide]
  unfold State.bootVerify State.verified
  generalize s.imageOk 0 = zero
  generalize s.imageOk 1 = one
  rfl

theorem State.bootVerify_of_none (hzero : s.imageOk 0 = false) (hone : s.imageOk 1 = false) :
    s.bootVerify = s.verified.enterSafe 2 := by
  rw [State.bootVerify_eq, hzero, hone, bootChoice, State.takeChoice]

theorem State.bootVerify_of_some {slot fb : Bool}
    (hchoice : bootChoice (s.imageOk 0) (s.imageOk 1) (s.imageField 0 4 4) (s.imageField 1 4 4) (s.sys.status.kind == 3)
      s.sys.status.bootConfirmed s.sys.status.bootSlot = some (slot, fb)) :
    s.bootVerify =
      { s.verified with sys.status := { s.verified.sys.status with bootSlot := slot, fallback := fb } } := by
  rw [State.bootVerify_eq, hchoice, State.takeChoice]

/-! ### RELEASED (R155, R157, R338, R397) -/

/-- The lock entries are written one by one. -/
def State.writeLocks (s : State) (l : List (Nat × Nat × Nat)) : State := l.foldl (fun u e => u.lockRegion e) s

/-- Locks change the tables alone. -/
theorem State.writeLocks_keep {β : Type} (p : State → β) (hp : ∀ (u : State) t, p { u with tab := t } = p u)
    (l : List (Nat × Nat × Nat)) : p (s.writeLocks l) = p s :=
  Laws.foldl_keep p (fun u e => hp u (u.lockRegion e).tab) l s

@[simp] theorem State.writeLocks_sys (l : List (Nat × Nat × Nat)) : (s.writeLocks l).sys = s.sys :=
  State.writeLocks_keep (·.sys) (fun _ _ => rfl) l

@[simp] theorem State.writeLocks_mgmt (l : List (Nat × Nat × Nat)) : (s.writeLocks l).mgmt = s.mgmt :=
  State.writeLocks_keep (·.mgmt) (fun _ _ => rfl) l

theorem State.writeLocks_checkers_wf (l : List (Nat × Nat × Nat)) (hwf : s.tab.checkers.wf = true) :
    (s.writeLocks l).tab.checkers.wf = true :=
  Laws.foldl_inv (fun u : State => u.tab.checkers.wf = true) (fun _ _ hu => Tbl.wf_upd _ _ _ hu) l s hwf

/-- The number of the chosen slot. -/
def State.bootSlotNo (s : State) : Nat := if s.sys.status.bootSlot then 1 else 0

/-- The lock table of the image in the chosen slot (R437). -/
def State.lockBytes (s : State) : List Byte :=
  s.imageBytes s.bootSlotNo (s.imageField s.bootSlotNo 16 4) (40 * s.imageField s.bootSlotNo 20 2)

/-- The state that holds the lock table of the chosen image. -/
def State.withLockTable (s : State) : State := { s with mgmt.lockTable := s.lockBytes }

/-- The state in which step 8 has written its locks: none after a warm reset. -/
def State.locksWritten (s : State) : State :=
  if s.sys.status.kind = 3 then s else s.withLockTable.writeLocks (s.withLockTable.lockEntries s.bootSlotNo)

/-- Step 8 ends with the key store. -/
theorem State.lockStep_eq : s.lockStep = State.prepareStep { s.locksWritten with
    mgmt.keystoreReady := true, mgmt.challenge := Config.randomChallenge s.locksWritten.mgmt.challengeNo
    mgmt.challengeNo := s.locksWritten.mgmt.challengeNo + 1 } 8 := rfl

@[simp] theorem State.locksWritten_sys : s.locksWritten.sys = s.sys := by
  unfold State.locksWritten
  split
  · rfl
  · exact State.writeLocks_sys _

theorem State.locksWritten_checkers_wf (hwf : s.tab.checkers.wf = true) : s.locksWritten.tab.checkers.wf = true := by
  unfold State.locksWritten
  split
  · exact hwf
  · exact State.writeLocks_checkers_wf _ hwf

theorem State.locksWritten_lockTable (hcold : s.sys.status.kind ≠ 3) : s.locksWritten.mgmt.lockTable = s.lockBytes := by
  rw [State.locksWritten, if_neg hcold, State.writeLocks_mgmt]
  rfl

theorem State.lockStep_bootSlot : s.lockStep.sys.status.bootSlot = s.sys.status.bootSlot := by
  rw [State.lockStep_eq]
  change s.locksWritten.sys.status.bootSlot = _
  rw [State.locksWritten_sys]

/-- The listed checkers are enabled (R157). -/
def enableCheckers (t : Tbl ({} : Checker)) (l : List Nat) : Tbl ({} : Checker) :=
  l.foldl (fun t k => t.upd k fun c => { c with enabled := true }) t

theorem enableCheckers_enabled (k : Nat) : ∀ (l : List Nat) (t : Tbl ({} : Checker)), t.wf = true →
    (k ∈ l ∨ (t.get k).enabled = true) → ((enableCheckers t l).get k).enabled = true
  | [], _, _, h => h.resolve_left (List.not_mem_nil)
  | j :: l, t, hwf, h => by
    refine enableCheckers_enabled k l _ (Tbl.wf_upd _ _ _ hwf) ?_
    by_cases hk : k = j
    · exact .inr (by rw [hk, Tbl.get_upd_same _ _ _ hwf])
    · rw [Tbl.get_upd_other _ _ _ _ hk]
      exact h.imp_left fun hmem => (List.mem_cons.mp hmem).resolve_left hk

/-- The state in which both pairs boot the chosen slot and the checkers are enabled (step 9). -/
def State.pairsBooting (s : State) : State :=
  let slot := s.sys.status.bootSlot
  let boot (r : PairRegs) : PairRegs := { r with imageSlot := slot, since := s.sys.ft }
  let v := (((s.setPair .a .booting).setPair .b .booting).updPair .a boot).updPair .b boot
  State.prepareStep { v with
    tab.checkers := enableCheckers v.tab.checkers ((List.range 77).filter (· ≠ 75))
    sys.status := { v.sys.status with bootConfirmed := false } } 9

/-- A frozen log resumes. -/
def State.resumeFrozen (s : State) : State := if s.obs.status.frozen = true then s.resumeLog else s

theorem State.resumeLog_eq : s.resumeLog = { s with obs := s.resumeLog.obs } := by
  unfold State.resumeLog
  dsimp only
  split
  · rw [State.freezeNow_eq]
  · rfl

theorem State.resumeFrozen_eq : s.resumeFrozen = { s with obs := s.resumeFrozen.obs } := by
  unfold State.resumeFrozen
  split
  · exact State.resumeLog_eq
  · rfl

/-- PROVISION is entered, and the release is logged. -/
def State.enterProvision (s : State) (slot : Bool) : State :=
  let w := s.resumeFrozen.setMode .provision
  w.log 0x050D 0 [(1, b2n slot), (1, b2n w.sys.status.fallback), (1, w.sys.status.kind.toNat)]

theorem State.enterProvision_sys (slot : Bool) : (s.enterProvision slot).sys = { s.sys with mode := .provision } := by
  rw [State.enterProvision, State.log_sys, State.setMode_sys, State.resumeFrozen_eq]

theorem State.enterProvision_mgmt (slot : Bool) : (s.enterProvision slot).mgmt = s.mgmt := by
  rw [State.enterProvision, State.log_mgmt, State.setMode_mgmt, State.resumeFrozen_eq]

theorem State.releasePairs_of_idle (hidle : s.sys.mode ≠ .prepare ∨ s.sys.stopped = true ∨ s.sys.status.prepareStep ≠ 7) :
    s.releasePairs = s := if_pos hidle

theorem State.releasePairs_of_ready (hmode : s.sys.mode = .prepare) (hstopped : s.sys.stopped = false)
    (hstep : s.sys.status.prepareStep = 7) :
    s.releasePairs = s.lockStep.pairsBooting.enterProvision s.lockStep.sys.status.bootSlot :=
  if_neg (by simp [hmode, hstopped, hstep])

/-! ### What each command runs -/

theorem exec_resetRelease : exec (.resetRelease r) s = act (fun t => t.release r) s := rfl
theorem exec_released : exec .released s = act (fun t => t.releasePairs) s := rfl

/-- Settles O20: RESET_RELEASE ends where the first step of PREPARE fails, as `State.release_eq` says; what RELEASED leaves is
what the entry into PROVISION leaves of the booting pairs. -/
theorem prepareRunsItsStepsAndReleases : Obligations.PrepareRunsItsStepsAndReleases := by
  intro s r
  have hreleases {t : State} (ht : s.start.release r = t) : s.settlesTo (.resetRelease r) t :=
    State.settlesTo_of_act exec_resetRelease ht
  refine ⟨fun hheld => hreleases (State.release_of_held (s := s.start) hheld), fun hmode htrip => ?steps,
    ⟨State.bootVerify_of_none, fun slot fb => State.bootVerify_of_some⟩,
    fun hidle => State.settlesTo_of_act exec_released (State.releasePairs_of_idle (s := s.start) hidle),
    fun hmode hstopped hstep => ?released⟩
  case steps =>
    exact ⟨fun hfuses => hreleases (State.release_of_fuses (s := s.start) hmode htrip hfuses),
      fun hfuses hsram => hreleases (State.release_of_sram (s := s.start) hmode htrip hfuses hsram),
      fun hfuses hsram hstraps => hreleases (State.release_of_straps (s := s.start) hmode htrip hfuses hsram hstraps),
      fun hfuses hsram hstraps hgone =>
        hreleases (State.release_of_pairGone (s := s.start) hmode htrip hfuses hsram hstraps hgone),
      fun hfuses hsram hstraps hgone =>
        hreleases (State.release_of_good (s := s.start) hmode htrip hfuses hsram hstraps hgone)⟩
  case released =>
    intro u slot boot v v' w t
    have hsys : t.sys = { u.pairsBooting.sys with mode := .provision } := State.enterProvision_sys _
    have hmgmt : t.mgmt = u.mgmt := State.enterProvision_mgmt _
    have hslot : slot = s.sys.status.bootSlot := State.lockStep_bootSlot (s := s.start)
    refine ⟨State.settlesTo_of_act exec_released (State.releasePairs_of_ready (s := s.start) hmode hstopped hstep),
      by rw [hsys], by rw [hsys]; rfl, by rw [hsys]; rfl, by rw [hsys]; rfl, ?slotA, ?slotB, by rw [hmgmt]; rfl,
      by rw [hsys]; rfl, fun hcold => ?lockTable, fun hwf k hk hopen => ?checkers⟩
    case slotA => rw [hsys, ← hslot]; rfl
    case slotB => rw [hsys, ← hslot]; rfl
    case lockTable =>
      rw [hmgmt]
      exact State.locksWritten_lockTable (s := s.start) hcold
    case checkers =>
      refine enableCheckers_enabled k _ _ (State.locksWritten_checkers_wf (s := s.start) hwf) (.inl ?_)
      simp [hk, hopen]

end Sys2Proof.Machine
end

section
/-! The management crossbar: arbitration, checks, accesses and the hold of the grant (R140, R147, R346 to R351). -/

namespace Sys2Proof.Machine

variable {s t : State}

/-! ### Masters and spaces (R141, R346) -/

/-- The number of a master fits the register that names the owner. -/
theorem masterNo_toNat (m : Master) : (BitVec.ofNat 3 (masterNo m)).toNat = masterNo m := by cases m <;> rfl

@[simp] theorem masterNo_eq_zero {m : Master} : masterNo m = 0 ↔ m = .pairA := by cases m <;> decide
@[simp] theorem masterNo_eq_one {m : Master} : masterNo m = 1 ↔ m = .pairB := by cases m <;> decide
@[simp] theorem masterNo_eq_two {m : Master} : masterNo m = 2 ↔ m = .debug := by cases m <;> decide
@[simp] theorem masterNo_eq_three {m : Master} : masterNo m = 3 ↔ m = .scrub := by cases m <;> decide
@[simp] theorem masterNo_eq_four {m : Master} : masterNo m = 4 ↔ m = .loader := by cases m <;> decide
@[simp] theorem spaceNo_eq_one {sp : Space} : spaceNo sp = 1 ↔ sp = .fabric := by cases sp <;> decide

/-! ### Arbitration (R349, R350) -/

section
variable {k : Nat} {fabric : Bool}

/-- The state in which master k owns the crossbar: by its hold, or by a new grant. -/
def State.owning (s : State) (k : Nat) : State := if s.sys.owner.toNat = k then s else s.takeGrant k

theorem State.arbitrate_of_lost
    (hlost : ¬ (s.sys.owner = 7 ∨ s.sys.owner.toNat = k) ∨ fabric = true ∧ s.sharedRoom xMgmt = false) :
    s.arbitrate k fabric = (false, s.loseGrant k) := by
  rw [State.arbitrate]
  split
  · rfl
  next howner => exact if_pos (by simpa using hlost.resolve_left fun hother => howner (not_or.mp hother))

theorem State.arbitrate_of_granted (hmine : s.sys.owner = 7 ∨ s.sys.owner.toNat = k)
    (hroom : ¬ (fabric = true ∧ s.sharedRoom xMgmt = false)) : s.arbitrate k fabric = (true, s.owning k) := by
  rw [State.arbitrate, if_neg (by tauto), if_neg (by simpa using hroom), State.owning]
  split <;> rfl

/-- What a grant says of its owner: who it is, how many accesses it has made, and the back-off counts. -/
def State.grantee (s : State) : BitVec 3 × Nat × List Nat := (s.sys.owner, s.sys.heldCount, s.sys.backoff)

/-- The end of a window of grants tells nothing about an owner. -/
theorem State.grantee_ite_newWindow (p : Prop) [Decidable p] : (if p then s.newWindow else s).grantee = s.grantee := by
  split <;> rfl

theorem State.takeGrant_grantee : (s.takeGrant k).grantee = (BitVec.ofNat 3 k, 0, s.sys.backoff.set k 4) := by
  let u := if s.sys.masked.toNat.testBit k then s.newWindow else s
  have hu : u.sys.backoff = s.sys.backoff := congrArg (·.2.2) (State.grantee_ite_newWindow _)
  calc (s.takeGrant k).grantee = (BitVec.ofNat 3 k, 0, u.sys.backoff.set k 4) := State.grantee_ite_newWindow _
    _ = (BitVec.ofNat 3 k, 0, s.sys.backoff.set k 4) := by rw [hu]

end

/-! ### The hold of the grant (R350) -/

section
variable {k : Nat} {hold : Bool}

/-- May master k keep its grant after its n-th access? The debug bridge may, and a pair and the sequencers up to a number. -/
def State.mayKeep (s : State) (k n : Nat) : Bool :=
  k == 2 && s.mgmt.dbg.enabled || (decide (k < 2) && decide (n < 16)) || ((k == 3 || k == 4) && decide (n < 4))

theorem State.mayKeep_master {m : Master} {n : Nat} (hkeep : s.mayKeep (masterNo m) n = true) :
    m = .debug ∨ masterNo m < 2 ∧ n < 16 ∨ (m = .scrub ∨ m = .loader) ∧ n < 4 := by
  simp only [State.mayKeep, Bool.or_eq_true, Bool.and_eq_true, beq_iff_eq, decide_eq_true_eq, masterNo_eq_two,
    masterNo_eq_three, masterNo_eq_four] at hkeep
  tauto

theorem State.dropHold_grantee : s.dropHold.grantee = s.grantee := by
  rw [State.dropHold]
  split
  · rfl
  · cases s.active with
    | none => rfl
    | some p => cases p <;> rfl

/-- The state in which an access of master k has been counted, and the grant kept or given up. -/
def State.countAccess (s : State) (k : Nat) (hold : Bool) : State :=
  { s with
    sys.heldCount := s.sys.heldCount + 1
    sys.owner := if hold && s.mayKeep k (s.sys.heldCount + 1) then BitVec.ofNat 3 k else 7 }

/-- Beside that, an access of the debug bridge notes or drops its hold. -/
theorem State.endAccess_eq : s.endAccess k hold =
    if k ≠ 2 then s.countAccess k hold
    else if hold && s.mayKeep k (s.sys.heldCount + 1) then { s.countAccess k hold with mgmt.dbg.hold := true }
    else (s.countAccess k hold).dropHold := rfl

theorem State.endAccess_grantee : (s.endAccess k hold).grantee =
    (if hold && s.mayKeep k (s.sys.heldCount + 1) then BitVec.ofNat 3 k else 7, s.sys.heldCount + 1, s.sys.backoff) := by
  change _ = (s.countAccess k hold).grantee
  rw [State.endAccess_eq]
  split
  · rfl
  · split
    · rfl
    · exact State.dropHold_grantee

/-- The owner after an access: the same master, if it holds its request and may keep its grant, or none. -/
theorem State.endAccess_owner : (s.endAccess k hold).sys.owner = 7
    ∨ hold = true ∧ (s.endAccess k hold).sys.owner = BitVec.ofNat 3 k ∧ s.mayKeep k (s.sys.heldCount + 1) = true := by
  have howner : (s.endAccess k hold).sys.owner = if hold && s.mayKeep k (s.sys.heldCount + 1) then BitVec.ofNat 3 k else 7 :=
    congrArg (·.1) State.endAccess_grantee
  split at howner
  next hkeep =>
    obtain ⟨hhold, hmay⟩ := Bool.and_eq_true_iff.mp hkeep
    exact .inr ⟨hhold, howner, hmay⟩
  · exact .inl howner

end

/-! ### The check and the access (R140, R147, R346, R347, R351) -/

section
variable {m sp a b v : Nat} {w : Bool}

/-- The loader and the gateway have no checker: outside the hardwired window their access ends with an error. -/
theorem State.crossCheck_of_outside (hm : 4 ≤ m) (hout : hardwired m sp a b w = false) :
    s.crossCheck m sp a b w = (some 1, s) := by
  rw [State.crossCheck, if_pos hm, hout]
  rfl

theorem State.access_of_refused {st : Nat} (hcheck : s.crossCheck m sp a b w = (some st, t)) :
    s.access m sp a b v w = (.now 0 st, t) := by
  rw [State.access, hcheck]

theorem State.access_of_fabric (hcheck : s.crossCheck m 1 a b w = (none, t)) :
    s.access m 1 a b v w = t.fabricAccess m a b v w := by
  rw [State.access, hcheck]
  rfl

theorem State.access_of_storeRead (hcheck : s.crossCheck m 2 a b false = (none, t)) :
    s.access m 2 a b v false = (.now (t.storeRead a b).1 (b2n (t.storeRead a b).2.1), (t.storeRead a b).2.2) := by
  rw [State.access, hcheck]
  rfl

theorem State.access_of_storeWrite {r : Bool × State} (hcheck : s.crossCheck m 2 a b true = (none, t))
    (hwrite : t.storeWrite a b v = some r) : s.access m 2 a b v true = (.now 0 (b2n r.1), r.2) := by
  simp [State.access, hcheck, hwrite]

theorem State.access_of_storeWait (hcheck : s.crossCheck m 2 a b true = (none, t)) (hwrite : t.storeWrite a b v = none) :
    s.access m 2 a b v true = (.later, t) := by
  simp [State.access, hcheck, hwrite]

theorem State.access_of_csrRead (hcheck : s.crossCheck m 3 a b false = (none, t)) :
    s.access m 3 a b v false = (.now (t.csrRead a b).1 (b2n (t.csrRead a b).2.1), (t.csrRead a b).2.2) := by
  rw [State.access, hcheck]
  rfl

/-- A write of MGMT_CSR is told whether its master is the ACTIVE pair and whether it is the loader. -/
theorem State.access_of_csrWrite {m : Master} {r : Bool × State} (hcheck : s.crossCheck (masterNo m) 3 a b true = (none, t))
    (hwrite : t.csrWrite (decide (m = .pairA ∧ t.sys.pairA = .active ∨ m = .pairB ∧ t.sys.pairB = .active))
      (decide (m = .loader)) a b v = r) : s.access (masterNo m) 3 a b v true = (.now 0 (b2n r.1), r.2) := by
  have hactive : (masterNo m == 0 && t.sys.pairA == .active || masterNo m == 1 && t.sys.pairB == .active)
      = decide (m = .pairA ∧ t.sys.pairA = .active ∨ m = .pairB ∧ t.sys.pairB = .active) := by
    rw [Bool.eq_iff_iff]
    simp
  have hloader : (masterNo m == 4) = decide (m = .loader) := by
    rw [Bool.eq_iff_iff]
    simp
  rw [State.access, hcheck, ← hwrite, ← hactive, ← hloader]
  rfl

end

/-! ### The command -/

section
variable {m : Master} {sp : Space} {a : BitVec 51} {w : Bool} {n : Nat} {d : Line} {hold : Bool}

theorem State.crossbarCommand_of_mute (hmute : s.canRequest (masterNo m) = false) :
    s.crossbarCommand m sp a w n d hold = s := by
  rw [State.crossbarCommand, State.crossbarAccess, if_pos (by simp [hmute])]

theorem State.crossbarCommand_of_lost (hcan : s.canRequest (masterNo m) = true)
    (hlost : s.arbitrate (masterNo m) (spaceNo sp == 1) = (false, t)) : s.crossbarCommand m sp a w n d hold = t := by
  rw [State.crossbarCommand, State.crossbarAccess, if_neg (by simp [hcan]), hlost]
  rfl

variable {g : State}

/-- A granted access that ends is answered to its master. -/
theorem State.crossbarCommand_of_now {v st : Nat} (hcan : s.canRequest (masterNo m) = true)
    (hgrant : s.arbitrate (masterNo m) (spaceNo sp == 1) = (true, g))
    (haccess : g.access (masterNo m) (spaceNo sp) a.toNat (Nat.min n 64) d.toNat w = (.now v st, t)) :
    s.crossbarCommand m sp a w n d hold = (t.endAccess (masterNo m) hold).emit (.crossbar (masterNo m) v st) := by
  rw [State.crossbarCommand, State.crossbarAccess, if_neg (by simp [hcan]), hgrant]
  dsimp only
  rw [if_neg (by simp), haccess]

/-- One that does not end yet has no answer. -/
theorem State.crossbarCommand_of_later (hcan : s.canRequest (masterNo m) = true)
    (hgrant : s.arbitrate (masterNo m) (spaceNo sp == 1) = (true, g))
    (haccess : g.access (masterNo m) (spaceNo sp) a.toNat (Nat.min n 64) d.toNat w = (.later, t)) :
    s.crossbarCommand m sp a w n d hold = t.endAccess (masterNo m) hold := by
  rw [State.crossbarCommand, State.crossbarAccess, if_neg (by simp [hcan]), hgrant]
  dsimp only
  rw [if_neg (by simp), haccess]

theorem exec_crossbarAccess :
    exec (.crossbarAccess m sp a w n d hold) s = act (fun u => u.crossbarCommand m sp a w n d hold) s := rfl

end

/-- Settles O16: the arbiter grants the request or not; a granted access ends as its check and then its space have it; the
registers of the grant are those of `State.takeGrant_grantee` and `State.endAccess_grantee`. -/
theorem crossbarGrantsChecksAndAnswers : Obligations.CrossbarGrantsChecksAndAnswers := by
  intro s m sp a w n d hold k b i mine full
  have hfabric : (spaceNo sp == 1) = true ↔ sp = .fabric := by rw [beq_iff_eq, spaceNo_eq_one]
  refine ⟨fun hmute => ?mute, fun hcan hlost => ?lost, fun hcan hmine hroom => ?granted,
    fun g x b v hm hout => State.access_of_refused (State.crossCheck_of_outside hm hout), fun g => ?grant, fun g => ?hold⟩
  case mute => exact State.settlesTo_of_act exec_crossbarAccess (State.crossbarCommand_of_mute (s := s.start) hmute)
  case lost =>
    have harb : s.start.arbitrate k (spaceNo sp == 1) = (false, s.start.loseGrant k) :=
      State.arbitrate_of_lost (hlost.imp_right fun ⟨hsp, hquota⟩ => ⟨hfabric.mpr hsp, hquota⟩)
    exact State.settlesTo_of_act exec_crossbarAccess (State.crossbarCommand_of_lost (s := s.start) hcan harb)
  case granted =>
    intro g c done
    have harb : s.start.arbitrate k (spaceNo sp == 1) = (true, g) :=
      State.arbitrate_of_granted hmine fun ⟨hsp, hquota⟩ => hroom ⟨hfabric.mp hsp, hquota⟩
    have hdone {v st : Nat} {t : State} (haccess : g.access k (spaceNo sp) a.toNat b d.toNat w = (.now v st, t)) :
        done v st t :=
      State.settlesTo_of_act exec_crossbarAccess (State.crossbarCommand_of_now (s := s.start) hcan harb haccess)
    have hlater {t : State} (haccess : g.access k (spaceNo sp) a.toNat b d.toNat w = (.later, t)) :
        s.settlesTo i (t.endAccess k hold) :=
      State.settlesTo_of_act exec_crossbarAccess (State.crossbarCommand_of_later (s := s.start) hcan harb haccess)
    refine ⟨fun st hrefused => hdone (State.access_of_refused (Prod.ext hrefused rfl)), fun hnone => ?passed⟩
    have hpass : g.crossCheck k (spaceNo sp) a.toNat b w = (none, c) := Prod.ext hnone rfl
    refine ⟨?csrRead, ?csrWrite, ?storeRead, ?storeWrite, ?storeWait, ?fabric⟩
    case csrRead =>
      rintro rfl rfl
      exact hdone (State.access_of_csrRead hpass)
    case csrWrite =>
      rintro rfl rfl
      exact hdone (State.access_of_csrWrite hpass rfl)
    case storeRead =>
      rintro rfl rfl
      exact hdone (State.access_of_storeRead hpass)
    case storeWrite =>
      rintro r rfl rfl hwrite
      exact hdone (State.access_of_storeWrite hpass hwrite)
    case storeWait =>
      rintro rfl rfl hwrite
      exact hlater (State.access_of_storeWait hpass hwrite)
    case fabric =>
      rintro rfl
      have haccess := State.access_of_fabric (v := d.toNat) hpass
      exact ⟨fun v st hnow => hdone (haccess.trans (Prod.ext hnow rfl)),
        fun hgoes => hlater (haccess.trans (Prod.ext hgoes rfl))⟩
  case grant =>
    have howner : (g.takeGrant k).sys.owner = BitVec.ofNat 3 k := congrArg (·.1) State.takeGrant_grantee
    have hcount : (g.takeGrant k).sys.heldCount = 0 := congrArg (·.2.1) State.takeGrant_grantee
    have hbackoff : (g.takeGrant k).sys.backoff = g.sys.backoff.set k 4 := congrArg (·.2.2) State.takeGrant_grantee
    refine ⟨by rw [howner, masterNo_toNat], hcount, fun hk => ?_⟩
    simp [hbackoff, List.getD_eq_getElem?_getD, hk]
  case hold =>
    intro u
    have hcount : u.sys.heldCount = g.sys.heldCount + 1 := congrArg (·.2.1) State.endAccess_grantee
    refine ⟨hcount, State.endAccess_owner.imp_right fun ⟨hhold, howner, hkeep⟩ => ⟨hhold, ?_, ?_⟩⟩
    · rw [howner, masterNo_toNat]
    · rw [hcount]
      exact State.mayKeep_master hkeep

end Sys2Proof.Machine
end

section
/-! The METER step: the colour of a request and the tokens it takes (R164). -/

namespace Sys2Proof.Machine

/-! ### What a request pays -/

/-- The colour of a request of k tokens that finds the buckets of r, and the tokens it takes from the first and the second. -/
def MeterState.toll (r : MeterState) (m : MeterCfg) (k : Nat) : Colour × Nat × Nat :=
  if m.srtcm then if k ≤ r.tc then (.green, k, 0) else if k ≤ r.tpTe then (.yellow, 0, k) else (.red, 0, 0)
  else if r.tpTe < k then (.red, 0, 0) else if r.tc < k then (.yellow, 0, k) else (.green, k, k)

/-- The colour of a request of c bytes that pays toll p, and the meter after it: the buckets have paid, and the byte counter of
the colour has grown. -/
def MeterState.paid (r : MeterState) (c : Nat) (p : Colour × Nat × Nat) : Colour × MeterState :=
  (p.1, { r with
    tc := r.tc - p.2.1
    tpTe := r.tpTe - p.2.2
    green := if p.1 = .green then r.green + BitVec.ofNat 48 c else r.green
    yellow := if p.1 = .yellow then r.yellow + BitVec.ofNat 48 c else r.yellow
    red := if p.1 = .red then r.red + BitVec.ofNat 48 c else r.red })

section
variable {st r : MeterState} {m : MeterCfg} {c k t : Nat}

theorem MeterState.meter_of_disabled (hen : m.meterEn = false) :
    st.meter m c t = (.green, { st with green := st.green + BitVec.ofNat 48 c }) :=
  if_pos (Bool.eq_false_iff.mp hen)

/-- An enabled meter is refilled, and the request then pays its toll. -/
theorem MeterState.meter_of_enabled (hen : m.meterEn = true) :
    st.meter m c t = (st.refill m t).paid c ((st.refill m t).toll m (c * 1000)) := by
  rw [MeterState.meter, if_neg (not_not.mpr hen)]
  simp only [MeterState.toll, apply_ite ((st.refill m t).paid c)]
  rfl

/-- In two-rate mode the second bucket says whether the request is red, and the first whether it is yellow. -/
theorem MeterState.toll_of_twoRate (hmode : m.srtcm = false) :
    r.tpTe < k ∧ r.toll m k = (.red, 0, 0)
    ∨ k ≤ r.tpTe ∧ r.tc < k ∧ r.toll m k = (.yellow, 0, k)
    ∨ k ≤ r.tpTe ∧ k ≤ r.tc ∧ r.toll m k = (.green, k, k) := by
  rw [MeterState.toll, if_neg (Bool.eq_false_iff.mp hmode)]
  rcases Nat.lt_or_ge r.tpTe k with hsecond | hsecond
  · exact .inl ⟨hsecond, if_pos hsecond⟩
  rw [if_neg hsecond.not_gt]
  rcases Nat.lt_or_ge r.tc k with hfirst | hfirst
  · exact .inr (.inl ⟨hsecond, hfirst, if_pos hfirst⟩)
  · exact .inr (.inr ⟨hsecond, hfirst, if_neg hfirst.not_gt⟩)

/-- In single-rate mode the first bucket pays if it can, and else the second if it can. -/
theorem MeterState.toll_of_singleRate (hmode : m.srtcm = true) :
    k ≤ r.tc ∧ r.toll m k = (.green, k, 0)
    ∨ r.tc < k ∧ k ≤ r.tpTe ∧ r.toll m k = (.yellow, 0, k)
    ∨ r.tc < k ∧ r.tpTe < k ∧ r.toll m k = (.red, 0, 0) := by
  rw [MeterState.toll, if_pos hmode]
  rcases Nat.lt_or_ge r.tc k with hfirst | hfirst
  · rw [if_neg hfirst.not_ge]
    rcases Nat.lt_or_ge r.tpTe k with hsecond | hsecond
    · exact .inr (.inr ⟨hfirst, hsecond, if_neg hsecond.not_ge⟩)
    · exact .inr (.inl ⟨hfirst, hsecond, if_pos hsecond⟩)
  · exact .inl ⟨hfirst, if_pos hfirst⟩

/-! ### The caps of the buckets -/

theorem MeterState.refill_tc_le : (st.refill m t).tc ≤ m.cbs * 1000 := Nat.min_le_right _ _

theorem MeterState.refill_tpTe_le : (st.refill m t).tpTe ≤ m.pbsEbs * 1000 := by
  unfold MeterState.refill
  dsimp only
  split <;> exact Nat.min_le_right _ _

end

/-- Settles O13: an enabled meter refills, and what a request then pays is a case of `MeterState.toll_of_twoRate` or of
`MeterState.toll_of_singleRate`. -/
theorem metersColourByTheirBuckets : Obligations.MetersColourByTheirBuckets := by
  intro st m c t r k out
  have hdisabled : m.meterEn = false → out = _ := MeterState.meter_of_disabled
  have hout (hen : m.meterEn = true) : out = r.paid c (r.toll m k) := MeterState.meter_of_enabled hen
  have htc : r.tc ≤ m.cbs * 1000 := MeterState.refill_tc_le
  have htpTe : r.tpTe ≤ m.pbsEbs * 1000 := MeterState.refill_tpTe_le
  refine ⟨htc, htpTe, fun hen => ?caps, hdisabled, fun hen hmode => ?twoRate, fun hen hmode => ?singleRate, ?counters⟩
  case caps =>
    rw [hout hen]
    exact ⟨(Nat.sub_le _ _).trans htc, (Nat.sub_le _ _).trans htpTe⟩
  case twoRate =>
    rw [hout hen]
    obtain ⟨hsecond, htoll⟩ | ⟨hsecond, hfirst, htoll⟩ | ⟨hsecond, hfirst, htoll⟩ :=
      MeterState.toll_of_twoRate (r := r) (k := k) hmode
    · simp [htoll, MeterState.paid, hsecond]
    · simp [htoll, MeterState.paid, hsecond, hfirst]
    · simp [htoll, MeterState.paid, hsecond, hfirst]
  case singleRate =>
    rw [hout hen]
    obtain ⟨hfirst, htoll⟩ | ⟨hfirst, hsecond, htoll⟩ | ⟨hfirst, hsecond, htoll⟩ :=
      MeterState.toll_of_singleRate (r := r) (k := k) hmode
    · simp [htoll, MeterState.paid, hfirst]
    · simp [htoll, MeterState.paid, hsecond, hfirst]
    · simp [htoll, MeterState.paid, hsecond, hfirst]
  case counters =>
    cases hen : m.meterEn with
    | false =>
      rw [hdisabled hen]
      exact ⟨rfl, rfl, rfl⟩
    | true =>
      rw [hout hen]
      exact ⟨rfl, rfl, rfl⟩

end Sys2Proof.Machine
end

section
/-! The engine of a queue pair: doorbells, descriptor fetch, completions, stalls, failed reads and time-outs (R185, R187, R191,
R192, R193, R194, R195). -/

namespace Sys2Proof.Machine

variable {s : State} {q : Nat}

/-! ### Doorbells and OWN_REREAD (R185, R192) -/

section
variable {p page n : Nat}

theorem State.sqDoorbell_of_none (hpage : s.qpAt p page = none) : s.sqDoorbell p page = s := by rw [State.sqDoorbell, hpage]

theorem State.sqDoorbell_of_enabled (hpage : s.qpAt p page = some n) (henabled : (s.qp n).state = .enabled) :
    s.sqDoorbell p page = s.updQp n fun k => { k with dbPending := true } := by
  rw [State.sqDoorbell, hpage]
  exact if_pos henabled

theorem State.sqDoorbell_of_notEnabled (hpage : s.qpAt p page = some n) (hstate : (s.qp n).state ≠ .enabled) :
    s.sqDoorbell p page = s.countPort p 41 := by
  rw [State.sqDoorbell, hpage]
  exact if_neg hstate

theorem State.cqDoorbell_of_none (hpage : s.qpAt p page = none) : s.cqDoorbell p page = s := by rw [State.cqDoorbell, hpage]

theorem State.cqDoorbell_of_some (hpage : s.qpAt p page = some n) : s.cqDoorbell p page = s.rereadOwn n := by
  rw [State.cqDoorbell, hpage]

end

theorem State.ownTimer_of_notStalled {late : Nat} (hstalled : (s.qp q).ownStalled = false) : s.ownTimer q late = s :=
  if_neg (Bool.eq_false_iff.mp hstalled)

theorem State.ownTimer_of_stalled {late : Nat} (hstalled : (s.qp q).ownStalled = true) :
    s.ownTimer q late = (s.advanceTo ((s.qp q).ownDue + late)).rereadOwn q :=
  if_pos hstalled

/-! ### Halts and the tail word (R187, R194, R195) -/

theorem State.halt_qp {st : QpState} {seq : U32} {status jobType result : Nat} {irq : Bool} (hwf : s.wq.qps.wf = true) :
    (s.halt q st seq status jobType result irq).qp q =
      { (s.qp q).queueEntry status jobType seq.toNat result irq with state := st, haltSeq := seq } :=
  Tbl.get_upd_same s.wq.qps q _ hwf

/-- A failed read halts the queue pair at the descriptor that it names, whether or not that one's job type is known. -/
theorem State.hostError_halts {seq : U32} {jobType : Option Nat} (hwf : s.wq.qps.wf = true) :
    ((s.hostError q seq jobType).qp q).state = .haltedError ∧ ((s.hostError q seq jobType).qp q).haltSeq = seq := by
  cases jobType with
  | some t =>
    rw [State.hostError, State.halt_qp hwf]
    exact ⟨rfl, rfl⟩
  | none =>
    have hfree : s.free.2.wq.qps.wf = true := hwf
    rw [State.hostError, State.halt_qp hfree]
    exact ⟨rfl, rfl⟩

theorem State.takeTail_of_beyond {t : U32} (hbeyond : 2 ^ (s.qp q).sqLog2 < (t - (s.qp q).head).toNat) :
    s.takeTail q t = s.halt q .haltedMalformed t 2 0 5 false :=
  if_pos hbeyond

theorem State.takeTail_of_inRing {t : U32} (hring : (t - (s.qp q).head).toNat ≤ 2 ^ (s.qp q).sqLog2) :
    s.takeTail q t = s.updQp q fun k => { k with tailSeen := if t = (s.qp q).head then none else some t } :=
  if_neg (Nat.not_lt.mpr hring)

/-! ### DESCRIPTOR_FETCH (R187) -/

/-- What a read of the tail word comes to once it has left. -/
def State.tailRead (s : State) (q : Nat) : HostRead U32 → State
  | .failed => (s.updQp q fun k => { k with ask := none }).hostError q (s.qp q).head none
  | .ok t => (s.updQp q fun k => { k with ask := none }).takeTail q t

/-- What a read of up to n descriptors comes to once it has left. -/
def State.descsRead (s : State) (q n : Nat) : HostRead (List (BitVec 512)) → State
  | .failed => (s.updQp q fun k => { k with ask := none, tailSeen := none }).hostError q (s.qp q).head none
  | .ok [] => s
  | .ok (d :: l) => (s.updQp q fun k => { k with ask := none }).takeBatch q ((d :: l).take n)

section
variable {tail : HostRead U32} {ds : HostRead (List (BitVec 512))} {a : HostAsk}

theorem State.descriptorFetch_of_noAsk (hask : (s.qp q).ask = none) : s.descriptorFetch q tail ds = s := by
  rw [State.descriptorFetch, hask]

/-- DESCRIPTOR_FETCH acts for an ENABLED queue pair on a read of its queue that has left. -/
theorem State.fetch_awaited (henabled : (s.qp q).state = .enabled) (hsent : a.sent = true) (hkind : a.kind ≠ .ownBit) :
    ¬ ((s.qp q).state ≠ .enabled ∨ ¬ a.sent = true ∨ a.kind = .ownBit) := by
  simp [henabled, hsent, hkind]

variable (hask : (s.qp q).ask = some a)
include hask

theorem State.descriptorFetch_of_notAwaited (hidle : (s.qp q).state ≠ .enabled ∨ a.sent = false ∨ a.kind = .ownBit) :
    s.descriptorFetch q tail ds = s := by
  rw [State.descriptorFetch, hask]
  exact if_pos (by simpa using hidle)

variable (henabled : (s.qp q).state = .enabled) (hsent : a.sent = true)
include henabled hsent

theorem State.descriptorFetch_of_tailWord (hkind : a.kind = .tailWord) :
    s.descriptorFetch q tail ds = s.tailRead q tail := by
  rw [State.descriptorFetch, hask]
  refine (if_neg (State.fetch_awaited henabled hsent (by simp [hkind]))).trans ((if_pos hkind).trans ?_)
  cases tail <;> rfl

theorem State.descriptorFetch_of_descriptor (hkind : a.kind = .descriptor) :
    s.descriptorFetch q tail ds = s.descsRead q a.count ds := by
  rw [State.descriptorFetch, hask]
  refine (if_neg (State.fetch_awaited henabled hsent (by simp [hkind]))).trans ((if_neg (by simp [hkind])).trans ?_)
  match ds with
  | .failed => rfl
  | .ok [] => rfl
  | .ok (_ :: _) => rfl

end

/-! ### COMPLETION_WRITE (R192, R193) -/

/-- What a read of up to n OWN bits comes to once it has left, with completion c to write. -/
def State.ownRead (s : State) (q n : Nat) (c : Completion) (wr : Bool) : HostRead (List Bool) → State
  | .failed => (s.updQp q fun k => { k with askOwn := none }).ownFailed q
  | .ok [] => s
  | .ok (true :: _) => s.updQp q fun k => { k with askOwn := none, ownStalled := true, ownDue := s.sys.ft + 8000 }
  | .ok (false :: l) =>
    State.writeCompletion (s.updQp q fun k => { k with
      askOwn := none, ownFree := (((false :: l).take n).takeWhile (· == false)).length }) q c wr

theorem State.writeCompletion_false {c : Completion} : s.writeCompletion q c false = s.entryLost q c := rfl

theorem State.writeCompletion_true {c : Completion} : s.writeCompletion q c true =
    State.dropEntry (State.updQp
      (s.wqWrite q ((s.qp q).cqBase.toNat + 32 * ((s.qp q).cqNext.toNat % 2 ^ (s.qp q).cqLog2)) c.bytes
        (if c.irq = true then some (s.qp q).msix else none)) q fun k =>
          { k with cqNext := k.cqNext + 1, ownFree := k.ownFree - 1 }) q :=
  rfl

section
variable {own : HostRead (List Bool)} {wr : Bool} {c : Completion} {rest : List Completion} {a : HostAsk}

theorem State.completionWrite_of_nil (hnone : (s.qp q).completions = []) : s.completionWrite q own wr = s := by
  rw [State.completionWrite, hnone]

variable (hcompletions : (s.qp q).completions = c :: rest)
include hcompletions

theorem State.completionWrite_of_ownFree (hfree : (s.qp q).ownFree ≠ 0) :
    s.completionWrite q own wr = s.writeCompletion q c wr := by
  rw [State.completionWrite, hcompletions]
  exact if_pos hfree

variable (hfree : (s.qp q).ownFree = 0)
include hfree

theorem State.completionWrite_of_noAsk (hask : (s.qp q).askOwn = none) : s.completionWrite q own wr = s := by
  rw [State.completionWrite, hcompletions]
  dsimp only
  rw [if_neg (not_not.mpr hfree), hask]

variable (hask : (s.qp q).askOwn = some a)
include hask

theorem State.completionWrite_of_notSent (hsent : a.sent = false) : s.completionWrite q own wr = s := by
  rw [State.completionWrite, hcompletions]
  dsimp only
  rw [if_neg (not_not.mpr hfree), hask]
  exact if_pos (Bool.eq_false_iff.mp hsent)

theorem State.completionWrite_of_sent (hsent : a.sent = true) :
    s.completionWrite q own wr = s.ownRead q a.count c wr own := by
  rw [State.completionWrite, hcompletions]
  dsimp only
  rw [if_neg (not_not.mpr hfree), hask]
  refine (if_neg (not_not.mpr hsent)).trans ?_
  match own with
  | .failed => rfl
  | .ok [] => rfl
  | .ok (true :: _) => rfl
  | .ok (false :: _) => rfl

end

/-! ### CXL_IO_COMPLETION_TIMEOUT (R195) -/

section
variable {ask : Option HostAsk} {what : WqRead}

theorem waitsFor_of_sent {a : HostAsk} (hask : ask = some a) (hsent : a.sent = true) (hkind : a.kind = what) :
    waitsFor ask what = true := by
  simp [waitsFor, hask, hsent, hkind]

theorem waitsFor_eq_false (hnone : ∀ a : HostAsk, ask = some a → a.sent = false ∨ a.kind ≠ what) :
    waitsFor ask what = false := by
  cases ask with
  | none => rfl
  | some a => simpa [waitsFor, imp_iff_not_or] using hnone a rfl

theorem State.wqTimeout_of_own (hown : Machine.waitsFor (s.qp q).askOwn what = true) :
    s.wqTimeout q what = (s.updQp q fun k => { k with askOwn := none }).ownFailed q :=
  if_pos hown

variable (hown : Machine.waitsFor (s.qp q).askOwn what = false)
include hown

theorem State.wqTimeout_of_ask (hask : Machine.waitsFor (s.qp q).ask what = true) (henabled : (s.qp q).state = .enabled) :
    s.wqTimeout q what =
      (s.updQp q fun k => { k with ask := none, tailSeen := none }).hostError q (s.qp q).head none :=
  (if_neg (Bool.eq_false_iff.mp hown)).trans (if_pos ⟨hask, henabled⟩)

theorem State.wqTimeout_of_notAwaited (hidle : (s.qp q).state ≠ .enabled ∨ Machine.waitsFor (s.qp q).ask what = false) :
    s.wqTimeout q what = s :=
  (if_neg (Bool.eq_false_iff.mp hown)).trans <| if_neg fun ⟨hask, henabled⟩ =>
    hidle.elim (· henabled) fun hnone => Bool.eq_false_iff.mp hnone hask

end

/-! ### What each command runs -/

section
variable {p : PortId} {g : BitVec 12} {value late : U32} {q : BitVec 12} {tail : HostRead U32}
  {ds : HostRead (List (BitVec 512))} {own : HostRead (List Bool)} {wr : Bool} {what : WqRead}

theorem exec_sqDoorbell : exec (.sqDoorbell p g) s = act (fun t => t.sqDoorbell p.val g.toNat) s := rfl
theorem exec_cqDoorbell : exec (.cqDoorbell p g value) s = act (fun t => t.cqDoorbell p.val g.toNat) s := rfl
theorem exec_ownReread : exec (.ownReread q late) s = act (fun t => t.ownTimer q.toNat late.toNat) s := rfl
theorem exec_descriptorFetch :
    exec (.descriptorFetch q tail ds) s = act (fun t => t.descriptorFetch q.toNat tail ds) s := rfl
theorem exec_completionWrite : exec (.completionWrite q own wr) s = act (fun t => t.completionWrite q.toNat own wr) s := rfl
theorem exec_cxlIoCompletionTimeout :
    exec (.cxlIoCompletionTimeout q what) s = act (fun t => t.wqTimeout q.toNat what) s := rfl

end

/-- Settles O27: each event acts on what the queue pair waits for, and each clause is one branch of its event; what a read
comes to is told by what it found. -/
theorem queueEnginesFetchAndComplete : Obligations.QueueEnginesFetchAndComplete := by
  intro s p g value late q own tail ds wr what
  have hfetch {t : State} (ht : s.start.descriptorFetch q.toNat tail ds = t) : s.settlesTo (.descriptorFetch q tail ds) t :=
    State.settlesTo_of_act exec_descriptorFetch ht
  have hwrite {t : State} (ht : s.start.completionWrite q.toNat own wr = t) : s.settlesTo (.completionWrite q own wr) t :=
    State.settlesTo_of_act exec_completionWrite ht
  have htimeout {t : State} (ht : s.start.wqTimeout q.toNat what = t) : s.settlesTo (.cxlIoCompletionTimeout q what) t :=
    State.settlesTo_of_act exec_cxlIoCompletionTimeout ht
  refine ⟨fun hpage => ⟨?sqNone, ?cqNone⟩, fun n hpage => ⟨fun henabled => ?sqEnabled, fun hstate => ?sqCounted, ?cqSome⟩,
    fun hstalled => ?running, fun hstalled => ?stalled, fun hask => hfetch (State.descriptorFetch_of_noAsk hask),
    fun a hask => ⟨fun hidle => hfetch (State.descriptorFetch_of_notAwaited hask hidle),
      fun henabled hsent hkind => ?tail, fun henabled hsent hkind => ?descriptors⟩,
    fun hnone => hwrite (State.completionWrite_of_nil hnone),
    fun c rest hcompletions => ⟨fun hfree => hwrite (State.completionWrite_of_ownFree hcompletions hfree),
      fun hfree hask => hwrite (State.completionWrite_of_noAsk hcompletions hfree hask), fun a hfree hask => ?own⟩,
    fun u n c => ⟨State.writeCompletion_false, State.writeCompletion_true⟩,
    fun a hask hsent hkind => htimeout (State.wqTimeout_of_own (waitsFor_of_sent hask hsent hkind)), fun hown => ?timeout,
    fun u n w => ⟨State.takeTail_of_beyond, State.takeTail_of_inRing⟩, fun n seq t => State.hostError_halts⟩
  case sqNone => exact State.settlesTo_of_act exec_sqDoorbell (State.sqDoorbell_of_none hpage)
  case cqNone => exact State.settlesTo_of_act exec_cqDoorbell (State.cqDoorbell_of_none hpage)
  case sqEnabled => exact State.settlesTo_of_act exec_sqDoorbell (State.sqDoorbell_of_enabled hpage henabled)
  case sqCounted => exact State.settlesTo_of_act exec_sqDoorbell (State.sqDoorbell_of_notEnabled hpage hstate)
  case cqSome => exact State.settlesTo_of_act exec_cqDoorbell (State.cqDoorbell_of_some hpage)
  case running => exact State.settlesTo_of_act exec_ownReread (State.ownTimer_of_notStalled hstalled)
  case stalled => exact State.settlesTo_of_act exec_ownReread (State.ownTimer_of_stalled hstalled)
  case tail =>
    have hread := hfetch (State.descriptorFetch_of_tailWord hask henabled hsent hkind)
    constructor
    · rintro rfl
      exact hread
    · rintro w rfl
      exact hread
  case descriptors =>
    have hread := hfetch (State.descriptorFetch_of_descriptor hask henabled hsent hkind)
    refine ⟨?_, ?_, ?_⟩
    · rintro rfl
      exact hread
    · rintro rfl
      exact hread
    · rintro d l rfl
      exact hread
  case own =>
    have hread (hsent : a.sent = true) := hwrite (State.completionWrite_of_sent hcompletions hfree hask hsent)
    refine ⟨?_, ?_, ?_, ?_⟩
    · intro hnothing
      cases hsent : a.sent with
      | false => exact hwrite (State.completionWrite_of_notSent hcompletions hfree hask hsent)
      | true =>
        obtain rfl := hnothing.resolve_left (by simp [hsent])
        exact hread hsent
    · rintro hsent rfl
      exact hread hsent
    · rintro l hsent rfl
      exact hread hsent
    · rintro l hsent rfl
      exact hread hsent
  case timeout =>
    have hother := waitsFor_eq_false hown
    exact ⟨fun a hask hsent hkind henabled =>
        htimeout (State.wqTimeout_of_ask hother (waitsFor_of_sent hask hsent hkind) henabled),
      fun hidle => htimeout (State.wqTimeout_of_notAwaited hother (hidle.imp_right waitsFor_eq_false))⟩

end Sys2Proof.Machine
end

section
/-! The jobs of a queue pair, the passes and holds of a migration slot, and zeroing (R190, R203, R209, R212, R214, R216, R218). -/

namespace Sys2Proof.Machine

variable {s : State} {i : Instr} {q k : Nat}

/-! ### Starting the next descriptor (R190) -/

/-- A job command starts the next descriptor that may start, if it is of its type, as `run` says; it has no effect otherwise, nor
where `run` says that the engine cannot take the job yet. -/
def State.startsNext (s : State) (i : Instr) (q type : Nat) (run : State → Held → Byte → JobBody → Option State) : Prop :=
  (s.nextJob q = none → s.ignores i)
  ∧ (∀ h : Held, s.nextJob q = some h →
    (dfield h.desc 0 8 ≠ type → s.ignores i)
    ∧ (dfield h.desc 0 8 = type →
      let r := run (s.start.startHeld q h.seq) h (s.qp q).qpGen (JobBody.ofDesc h.desc)
      (r = none → s.ignores i) ∧ (∀ t : State, r = some t → s.settlesTo i t)))

/-- A job command whose act has these three branches. -/
theorem State.startsNext_of_act {type : Nat} {f : State → State} {run : State → Held → Byte → JobBody → Option State}
    (hexec : exec i s = act f s) (hnone : s.nextJob q = none → f s.start = s.start)
    (hother : ∀ h : Held, s.nextJob q = some h → dfield h.desc 0 8 ≠ type → f s.start = s.start)
    (hnext : ∀ h : Held, s.nextJob q = some h → dfield h.desc 0 8 = type → f s.start =
      (run (s.start.startHeld q h.seq) h (s.qp q).qpGen (JobBody.ofDesc h.desc)).getD s.start) :
    s.startsNext i q type run := by
  refine ⟨fun hn => State.settlesTo_of_act hexec (hnone hn),
    fun h hh => ⟨fun htype => State.settlesTo_of_act hexec (hother h hh htype), fun htype => ⟨fun hr => ?_, fun t hr => ?_⟩⟩⟩
  · exact State.settlesTo_of_act hexec (by rw [hnext h hh htype, hr]; rfl)
  · exact State.settlesTo_of_act hexec (by rw [hnext h hh htype, hr]; rfl)

/-- How a job of a type begins, in the state in which its descriptor is marked as started. -/
def State.runJob (t : State) (q type : Nat) (h : Held) (gen : Byte) (b : JobBody) : Option State :=
  if type = 0 then some (t.jobEnd q h.seq gen 0 0)
  else if type = 2 then t.startZero q h.seq gen b
  else if type = 4 then t.mirrorSplit q h.seq gen b
  else t.startMig q h.seq gen b

section
variable {type : Nat} {h : Held}

theorem State.startJob_of_none (hnext : s.nextJob q = none) : s.startJob q type = s := by rw [State.startJob, hnext]

variable (hnext : s.nextJob q = some h)
include hnext

theorem State.startJob_of_otherType (htype : dfield h.desc 0 8 ≠ type) : s.startJob q type = s := by
  rw [State.startJob, hnext]
  exact if_pos htype

theorem State.startJob_of_type (htype : dfield h.desc 0 8 = type) : s.startJob q type =
    ((s.startHeld q h.seq).runJob q type h (s.qp q).qpGen (JobBody.ofDesc h.desc)).getD s := by
  rw [State.startJob, hnext]
  exact if_neg (not_not.mpr htype)

end

/-- A command that starts jobs of one type. -/
theorem State.startsNext_of_startJob {type : Nat} (hexec : exec i s = act (fun t => t.startJob q type) s) :
    s.startsNext i q type fun t h g b => t.runJob q type h g b :=
  State.startsNext_of_act hexec (fun hnext => State.startJob_of_none (s := s.start) hnext)
    (fun _ hnext htype => State.startJob_of_otherType (s := s.start) hnext htype)
    fun _ hnext htype => State.startJob_of_type (s := s.start) hnext htype

/-! ### SCRUB_DIR (R203) -/

section
variable {h : Held}

theorem State.scrubJob_of_none (hnext : s.nextJob q = none) : s.scrubJob q = s := by rw [State.scrubJob, hnext]

variable (hnext : s.nextJob q = some h)
include hnext

theorem State.scrubJob_of_refused (hrefused : dfield h.desc 0 8 ≠ 6 ∨ s.sys.mode = .safe) : s.scrubJob q = s := by
  rw [State.scrubJob, hnext]
  exact if_pos hrefused

theorem State.scrubJob_of_type (htype : dfield h.desc 0 8 = 6) (hmode : s.sys.mode ≠ .safe) : s.scrubJob q =
    (let r := (s.startHeld q h.seq).scrubPass (dfield h.desc 192 30) (dfield h.desc 224 30)
     r.2.jobEnd q h.seq (s.qp q).qpGen 0 r.1.word) := by
  rw [State.scrubJob, hnext]
  exact if_neg (not_or.mpr ⟨not_not.mpr htype, hmode⟩)

end

/-- In SAFE no scrub job starts, whatever descriptor is next. -/
theorem State.scrubJob_of_safe (hmode : s.sys.mode = .safe) : s.scrubJob q = s := by
  cases hnext : s.nextJob q with
  | none => exact State.scrubJob_of_none hnext
  | some h => exact State.scrubJob_of_refused hnext (.inr hmode)

/-! ### Jobs with a migration slot (R208, R209, R212) -/

/-- The job lends a donor of the switch of this rank (R209). -/
abbrev JobBody.lends (b : JobBody) (rank : Nat) : Prop := b.type = 3 ∨ (b.type = 1 ∧ b.dstRank = rank)

/-- The migration slot of a job that starts. -/
def State.newSlot (s : State) (q : Nat) (seq : U32) (gen : Byte) (b : JobBody) : MigSlot :=
  { valid := true, jobType := b.type, srcTile := b.tile, dstRank := b.dstRank, dstTile := b.dstTile, qp := q,
    descSeq := seq, qpGen := gen, start := s.sys.ft, zeroReleased := b.zero, repair := b.repair, maxPasses := b.passes,
    converge := b.converge, before := s.tile b.tile, pass := 1 }

/-- The state in which a job has taken slot k, and its tile is MIGRATING. -/
def State.takeSlot (s : State) (q : Nat) (seq : U32) (gen : Byte) (b : JobBody) (k : Nat) : State :=
  State.writeTile { s.countGlobal 224 with wq.slots := s.wq.slots.set k (s.newSlot q seq gen b) } b.tile
    { s.tile b.tile with state := .migrating, migSlot := k }

section
variable {seq : U32} {gen : Byte} {b : JobBody}

theorem State.startMig_of_refused {r : Nat} (hrefused : s.jobRefused b = some r) :
    s.startMig q seq gen b = some (s.endOfJob q seq gen b.tile 4 (jobResult r 0 0 0 [])) := by
  rw [State.startMig, hrefused]

variable (haccepted : s.jobRefused b = none)
include haccepted

theorem State.startMig_of_waiting (hwaits : s.liveFull = true
    ∨ (b.lends s.rank ∧ s.placeBusy (s.tile b.dstTile).pPort (s.tile b.dstTile).pTile = true) ∨ s.freeSlot = none) :
    s.startMig q seq gen b = none := by
  rw [State.startMig, haccepted]
  dsimp only
  rw [ite_eq_left_iff]
  intro hready
  rw [(or_assoc.mpr hwaits).resolve_left hready]

theorem State.startMig_of_ready (hroom : s.liveFull = false)
    (hplace : ¬ (b.lends s.rank ∧ s.placeBusy (s.tile b.dstTile).pPort (s.tile b.dstTile).pTile = true))
    (hslot : s.freeSlot = some k) : s.startMig q seq gen b =
      some (if b.lends s.rank then
        (s.takeSlot q seq gen b k).writeTile b.dstTile
          { s.tile b.dstTile with state := .moved, fwdRank := s.rank, fwdTile := b.tile }
      else s.takeSlot q seq gen b k) := by
  rw [State.startMig, haccepted]
  dsimp only
  rw [if_neg (not_or.mpr ⟨Bool.eq_false_iff.mp hroom, hplace⟩), hslot]
  rfl

end

/-! ### ZERO_TILE and ZEROING_DONE (R209, R218) -/

/-- The tile of a ZERO_TILE can be written: it is FREE, or LOST with its member's link up. -/
abbrev State.zeroable (s : State) (n : Nat) : Prop :=
  (s.tile n).state = .free ∨ (s.tile n).state = .lost ∧ s.linkUp (s.tile n).pPort = true

theorem State.zeroable.not_refused {n : Nat} (hzeroable : s.zeroable n) :
    ¬ ((s.tile n).state ≠ .free ∧ ¬ ((s.tile n).state = .lost ∧ s.linkUp (s.tile n).pPort = true)) :=
  not_and_or.mpr (hzeroable.imp not_not.mpr not_not.mpr)

/-- A transaction holds one of the places that zeroing a tile writes. -/
abbrev State.zeroHeld (s : State) (n : Nat) : Prop :=
  s.placeBusy (s.tile n).pPort (s.tile n).pTile = true
    ∨ (s.tile n).mirrored = true ∧ (s.tile n).singleCopy = false ∧ s.placeBusy (s.tile n).mPort (s.tile n).mTile = true

/-- The zeroing that a ZERO_TILE orders. -/
def State.newZero (s : State) (q : Nat) (seq : U32) (gen : Byte) (b : JobBody) : ZeroJob :=
  { tile := b.tile, job := some (q, seq, gen), poison := b.poison, wasLost := decide ((s.tile b.tile).state = .lost),
    mirrored := (s.tile b.tile).mirrored && !(s.tile b.tile).singleCopy }

section
variable {seq : U32} {gen : Byte} {b : JobBody}

theorem State.startZero_of_refused (hrefused : ¬ s.zeroable b.tile) :
    s.startZero q seq gen b = some (s.endOfJob q seq gen b.tile 4 (jobResult 1 0 0 0 [])) :=
  if_pos (not_or.mp hrefused)

variable (hzeroable : s.zeroable b.tile)
include hzeroable

theorem State.startZero_of_waiting (hwaits : s.liveFull = true ∨ s.zeroHeld b.tile) : s.startZero q seq gen b = none :=
  (if_neg hzeroable.not_refused).trans (if_pos (by simpa [State.zeroHeld] using hwaits))

theorem State.startZero_of_ready (hroom : s.liveFull = false) (hplace : ¬ s.zeroHeld b.tile) :
    s.startZero q seq gen b =
      some (State.writeTile { s with wq.zeros := s.wq.zeros ++ [s.newZero q seq gen b] } b.tile
        { s.tile b.tile with state := .zeroing }) :=
  (if_neg hzeroable.not_refused).trans <|
    if_neg (by simpa [State.zeroHeld, hroom] using hplace)

end

section
variable {n : Nat}

theorem State.zeroingDone_of_none (hnone : (s.wq.zeros.find? fun z => z.tile == n && z.release) = none) :
    s.zeroingDone n = s := by
  rw [State.zeroingDone, hnone]

variable {z : ZeroJob} (hfound : (s.wq.zeros.find? fun z => z.tile == n && z.release) = some z)
include hfound

theorem State.zeroingDone_of_incomplete (hcomplete : z.complete = false) : s.zeroingDone n = s := by
  rw [State.zeroingDone, hfound]
  exact if_pos (Bool.eq_false_iff.mp hcomplete)

theorem State.zeroingDone_of_complete (hcomplete : z.complete = true) : s.zeroingDone n =
    (s.dropZero n).writeTile n
      { s.tile n with state := if s.linkUp (s.tile n).pPort then .free else .lost } := by
  rw [State.zeroingDone, hfound]
  exact if_neg (not_not.mpr hcomplete)

end

/-! ### SWEEP_AND_COPY, SWITCHOVER, HOLD_EXPIRY and NO_CACHE (R212, R214, R216) -/

theorem State.sweepAndCopy_of_idle
    (hidle : (s.mig k).valid = false ∨ (s.mig k).wait ≠ .ended ∨ (s.mig k).maxPasses ≤ (s.mig k).passes) :
    s.sweepAndCopy k = s :=
  if_pos (by simpa using hidle)

theorem State.sweepAndCopy_of_ended (hvalid : (s.mig k).valid = true) (hwait : (s.mig k).wait = .ended)
    (hpasses : (s.mig k).passes < (s.mig k).maxPasses) : s.sweepAndCopy k =
      (let r := s.sweepMap k
       let extra := if (s.mig k).jobType = 5 then (s.mig k).again.map (·, 1) else []
       let l := r.1 ++ extra.filter fun e => !(r.1.any fun q => decide (q.1 ≤ e.1) && decide (e.1 < q.1 + q.2))
       State.stepMig (r.2.updMig k fun m =>
         { m with work := m.work ++ l, passLines := 0, again := if (s.mig k).jobType = 5 then [] else m.again
                  wait := .phase (s.mig k).wphase }) k) :=
  if_neg (by simpa [hvalid, hwait] using hpasses)

theorem State.switchover_of_idle (hidle : (s.mig k).valid = false ∨ (s.mig k).wait ≠ .canSwitch) : s.switchover k = s :=
  if_pos (by simpa using hidle)

theorem State.switchover_of_canSwitch (hvalid : (s.mig k).valid = true) (hwait : (s.mig k).wait = .canSwitch) :
    s.switchover k = State.stepMig (State.sweepAgain (s.updMig k fun m =>
      { m with phase := .hold, holdStart := s.sys.ft, final := true, passLines := 0 }) k) k :=
  if_neg (by simp [hvalid, hwait])

theorem State.holdExpiry_of_noHold (hidle : (s.mig k).valid = false ∨ (s.mig k).phase ≠ .hold) : s.holdExpiry k = s :=
  if_pos (by simpa using hidle)

theorem State.holdExpiry_of_hold (hvalid : (s.mig k).valid = true) (hphase : (s.mig k).phase = .hold) :
    s.holdExpiry k = (((s.advanceTo ((s.mig k).holdStart + 20000)).countGlobal 226).remark k).endHoldPhase k :=
  if_neg (by simp [hvalid, hphase])

theorem State.noCacheEnd_of_unfinished
    (hidle : (s.mig k).valid = false ∨ (s.mig k).wait ≠ .evicts ∨ (s.mig k).again ≠ [] ∨ (s.mig k).evicts ≠ 0) :
    s.noCacheEnd k = s := by
  refine if_neg ?_
  rintro ⟨hvalid, hwait, hagain, hevicts⟩
  exact absurd hidle (by simp [hvalid, hwait, List.isEmpty_iff.mp hagain, hevicts])

theorem State.noCacheEnd_of_finished (hvalid : (s.mig k).valid = true) (hwait : (s.mig k).wait = .evicts)
    (hagain : (s.mig k).again = []) (hevicts : (s.mig k).evicts = 0) : s.noCacheEnd k =
      if (s.mig k).maxPasses ≤ (s.mig k).passes then s.failJob k 4 4 else s.updMig k fun m => { m with wait := .ended } :=
  if_pos ⟨hvalid, hwait, by rw [hagain]; rfl, hevicts⟩

/-! ### What each command runs -/

section
variable {q : BitVec 12} {n : BitVec 10} {tile : BitVec 19}

theorem exec_nop : exec (.nop q) s = act (fun t => t.startJob q.toNat 0) s := rfl
theorem exec_copyTile : exec (.copyTile q) s = act (fun t => t.startJob q.toNat 1) s := rfl
theorem exec_zeroTile : exec (.zeroTile q) s = act (fun t => t.startJob q.toNat 2) s := rfl
theorem exec_mirrorAttach : exec (.mirrorAttach q) s = act (fun t => t.startJob q.toNat 3) s := rfl
theorem exec_mirrorSplit : exec (.mirrorSplit q) s = act (fun t => t.startJob q.toNat 4) s := rfl
theorem exec_verifyTile : exec (.verifyTile q) s = act (fun t => t.startJob q.toNat 5) s := rfl
theorem exec_scrubDirJob : exec (.scrubDirJob q) s = act (fun t => t.scrubJob q.toNat) s := rfl
theorem exec_sweepAndCopy : exec (.sweepAndCopy n) s = act (fun t => t.sweepAndCopy n.toNat) s := rfl
theorem exec_switchover : exec (.switchover n) s = act (fun t => t.switchover n.toNat) s := rfl
theorem exec_holdExpiry : exec (.holdExpiry n) s = act (fun t => t.holdExpiry n.toNat) s := rfl
theorem exec_noCache : exec (.noCache n) s = act (fun t => t.noCacheEnd n.toNat) s := rfl
theorem exec_zeroingDone : exec (.zeroingDone tile) s = act (fun t => t.zeroingDone tile.toNat) s := rfl

end

/-- A SCRUB_DIR job ends with its pass's summary, except in SAFE. -/
theorem State.startsNext_scrubDirJob {q : BitVec 12} (hmode : s.sys.mode ≠ .safe) :
    s.startsNext (.scrubDirJob q) q.toNat 6 fun t h g _ =>
      let r := t.scrubPass (dfield h.desc 192 30) (dfield h.desc 224 30)
      some (r.2.jobEnd q.toNat h.seq g 0 r.1.word) :=
  State.startsNext_of_act exec_scrubDirJob (fun hnext => State.scrubJob_of_none (s := s.start) hnext)
    (fun _ hnext htype => State.scrubJob_of_refused (s := s.start) hnext (.inl htype))
    fun _ hnext htype => State.scrubJob_of_type (s := s.start) hnext htype hmode

/-- Settles O28: the six job commands share `State.startJob`; each other clause is one branch of its event, or of what begins
a job. -/
theorem jobsStartRunAndEnd : Obligations.JobsStartRunAndEnd := by
  intro s q n tile
  refine ⟨State.startsNext_of_startJob exec_nop, State.startsNext_of_startJob exec_copyTile,
    State.startsNext_of_startJob exec_zeroTile, State.startsNext_of_startJob exec_mirrorAttach,
    State.startsNext_of_startJob exec_mirrorSplit, State.startsNext_of_startJob exec_verifyTile,
    State.startsNext_scrubDirJob, fun hmode => ?scrubSafe,
    fun u j seq g b => ⟨fun r => State.startMig_of_refused, State.startMig_of_waiting, fun k => State.startMig_of_ready,
      fun hfree hlost => State.startZero_of_refused (not_or.mpr ⟨hfree, hlost⟩),
      fun hzeroable => ⟨State.startZero_of_waiting hzeroable, State.startZero_of_ready hzeroable⟩⟩,
    fun hfree => ⟨?freeSweep, ?freeSwitch, ?freeHold, ?freeNoCache⟩,
    fun hidle => ?noSweep, fun hvalid hwait hpasses => ?sweep, fun hwait => ?noSwitch, fun hvalid hwait => ?switch,
    fun hphase => ?noHold, fun hvalid hphase => ?hold, fun hidle => ?evicting, fun hvalid hwait hagain hevicts => ?evicted,
    fun hnone => ?notZeroing, fun z hfound hcomplete => ?zeroing, fun z hfound hcomplete => ?zeroed⟩
  case scrubSafe => exact State.settlesTo_of_act exec_scrubDirJob (State.scrubJob_of_safe (s := s.start) hmode)
  case freeSweep => exact State.settlesTo_of_act exec_sweepAndCopy (State.sweepAndCopy_of_idle (s := s.start) (.inl hfree))
  case freeSwitch => exact State.settlesTo_of_act exec_switchover (State.switchover_of_idle (s := s.start) (.inl hfree))
  case freeHold => exact State.settlesTo_of_act exec_holdExpiry (State.holdExpiry_of_noHold (s := s.start) (.inl hfree))
  case freeNoCache => exact State.settlesTo_of_act exec_noCache (State.noCacheEnd_of_unfinished (s := s.start) (.inl hfree))
  case noSweep => exact State.settlesTo_of_act exec_sweepAndCopy (State.sweepAndCopy_of_idle (s := s.start) (.inr hidle))
  case sweep =>
    exact State.settlesTo_of_act exec_sweepAndCopy (State.sweepAndCopy_of_ended (s := s.start) hvalid hwait hpasses)
  case noSwitch => exact State.settlesTo_of_act exec_switchover (State.switchover_of_idle (s := s.start) (.inr hwait))
  case switch => exact State.settlesTo_of_act exec_switchover (State.switchover_of_canSwitch (s := s.start) hvalid hwait)
  case noHold => exact State.settlesTo_of_act exec_holdExpiry (State.holdExpiry_of_noHold (s := s.start) (.inr hphase))
  case hold => exact State.settlesTo_of_act exec_holdExpiry (State.holdExpiry_of_hold (s := s.start) hvalid hphase)
  case evicting => exact State.settlesTo_of_act exec_noCache (State.noCacheEnd_of_unfinished (s := s.start) (.inr hidle))
  case evicted =>
    exact State.settlesTo_of_act exec_noCache (State.noCacheEnd_of_finished (s := s.start) hvalid hwait hagain hevicts)
  case notZeroing => exact State.settlesTo_of_act exec_zeroingDone (State.zeroingDone_of_none (s := s.start) hnone)
  case zeroing =>
    exact State.settlesTo_of_act exec_zeroingDone (State.zeroingDone_of_incomplete (s := s.start) hfound hcomplete)
  case zeroed => exact State.settlesTo_of_act exec_zeroingDone (State.zeroingDone_of_complete (s := s.start) hfound hcomplete)

end Sys2Proof.Machine
end

section
/-! The queue and tile commands (R180, R183, R184, R196, R199, R217, R370). -/

namespace Sys2Proof.Machine

variable {s : State} {h : CmdHdr}

/-! ### QUEUE_ENABLE (R183, R184) -/

theorem exec_queueEnable (u : QueueSetup) :
    exec (.queueEnable h u) s = act (fun t => t.cmdQueueEnable (.queueEnable h u) h u) s := rfl

/-- What the opcode table says of QUEUE_ENABLE. -/
def State.enableSpec (s : State) (u : QueueSetup) : CmdSpec :=
  { opcode := 0xC201, len := 41, scope := s.qpScope u.qp.toNat, bad := !setupOk u, changes := true
    object := some (2, u.qp.toNat) }

/-- The tenant of queue pair q. -/
def State.qpTenant (s : State) (q : Nat) : Tenant := s.bank.tenants.get (s.qp q).tenant

/-- A QUEUE_ENABLE can go on: its queue pair is DISABLED and not being enabled, its tenant is bound and no command removes it, and
it may run the jobs of the set-up (R180, R183, R184). -/
structure State.enableable (s : State) (u : QueueSetup) : Prop where
  disabled : (s.qp u.qp.toNat).state = .disabled
  notEnabling : (s.qp u.qp.toNat).enabling = none
  bound : (s.qpTenant u.qp.toNat).valid = true
  stays : s.leavingBy (s.qp u.qp.toNat).tenant = none
  jobs : u.jobMask.toNat &&& jobMaskOf (s.qpTenant u.qp.toNat).privileged = u.jobMask.toNat

section
variable {u : QueueSetup}

/-- The checks that QUEUE_ENABLE makes of its queue pair before it looks at its tenant's departure. -/
theorem State.enableable.ready (hu : s.enableable u)
    (hgen : s.oldGenLive u.qp.toNat = false ∨ (s.qp u.qp.toNat).genDeferred = true) :
    ¬ ((s.qp u.qp.toNat).state ≠ .disabled ∨ (s.qp u.qp.toNat).enabling.isSome = true ∨ ¬ (s.qpTenant u.qp.toNat).valid = true
      ∨ (s.oldGenLive u.qp.toNat = true ∧ ¬ (s.qp u.qp.toNat).genDeferred = true)) := by
  simpa [hu.disabled, hu.notEnabling, hu.bound, imp_iff_not_or] using hgen

theorem State.enableable.not_leaving (hu : s.enableable u) : ¬ (s.leavingBy (s.qp u.qp.toNat).tenant).isSome = true := by
  simp [hu.stays]

/-- With no older generation alive the queue pair is enabled at once. -/
theorem State.queueEnable_enables (hu : s.enableable u) (hgen : s.oldGenLive u.qp.toNat = false) :
    s.changeSettles (.queueEnable h u) h (s.enableSpec u) (fun v => v.enableNow u.qp.toNat u)
      [(((s.intended h).enableNow u.qp.toNat u).qp u.qp.toNat).qpGen] :=
  State.changeSettles_of_done rfl (exec_queueEnable u) <|
    (if_neg (hu.ready (.inl hgen))).trans <| (if_neg hu.not_leaving).trans <|
      (if_neg (not_not.mpr hu.jobs)).trans (if_neg (Bool.eq_false_iff.mp hgen))

/-- While a transaction of an older generation lives and a GEN change waits for it, the command stays in execution (R199). -/
theorem State.queueEnable_waits (hu : s.enableable u) (hgen : s.oldGenLive u.qp.toNat = true)
    (hdeferred : (s.qp u.qp.toNat).genDeferred = true) :
    s.changeWaits (.queueEnable h u) h (s.enableSpec u)
      (fun v => v.updQp u.qp.toNat fun k => { k with enabling := some (u, s.ticketOf h.src) }) :=
  State.changeWaits_of_wait rfl (exec_queueEnable u) <|
    (if_neg (hu.ready (.inr hdeferred))).trans <| (if_neg hu.not_leaving).trans <|
      (if_neg (not_not.mpr hu.jobs)).trans (if_pos hgen)

theorem State.queueEnable_conflicts (haway : (s.qp u.qp.toNat).state ≠ .disabled ∨ (s.qp u.qp.toNat).enabling ≠ none
    ∨ (s.qpTenant u.qp.toNat).valid = false) :
    s.turnsAway (.queueEnable h u) h (s.enableSpec u) rcConflict
      (s.conflictBytes 2 u.qp.toNat (qpNo (s.qp u.qp.toNat).state) 0) := by
  have hrefused : (s.qp u.qp.toNat).state ≠ .disabled ∨ (s.qp u.qp.toNat).enabling.isSome = true
      ∨ ¬ (s.qpTenant u.qp.toNat).valid = true
      ∨ (s.oldGenLive u.qp.toNat = true ∧ ¬ (s.qp u.qp.toNat).genDeferred = true) :=
    haway.imp_right (Or.imp Option.isSome_iff_ne_none.mpr fun hunbound => .inl (Bool.eq_false_iff.mp hunbound))
  exact State.turnsAway_of_conflict rfl (exec_queueEnable u) (if_pos hrefused)

end

/-! ### QUEUE_RESET and QUEUE_SHUTDOWN (R196) -/

theorem exec_queueReset (qp : U16) (tail : HostRead U32) :
    exec (.queueReset h qp tail) s = act (fun t => t.cmdQueueReset (.queueReset h qp tail) h qp tail) s := rfl
theorem exec_queueShutdown (qp : U16) (tail : HostRead U32) :
    exec (.queueShutdown h qp tail) s = act (fun t => t.cmdQueueShutdown (.queueShutdown h qp tail) h qp tail) s := rfl

/-- What the opcode table says of QUEUE_RESET and QUEUE_SHUTDOWN. -/
def State.stopSpec (s : State) (op q : Nat) : CmdSpec :=
  { opcode := op, len := 2, scope := s.qpScope q, bad := decide (4095 < q), changes := true, object := some (2, q) }

/-- A queue pair that is ENABLED or halted can be stopped. -/
abbrev State.stoppable (s : State) (q : Nat) : Prop :=
  (s.qp q).state = .enabled ∨ (s.qp q).state = .haltedMalformed ∨ (s.qp q).state = .haltedError

theorem State.stoppable.not_disabled {q : Nat} (hstop : s.stoppable q) : (s.qp q).state ≠ .disabled := by
  intro hdisabled
  simp [State.stoppable, hdisabled] at hstop

section
variable {qp : U16} {tail : HostRead U32}

theorem State.queueReset_stops (hstop : s.stoppable qp.toNat) (hgen : s.oldGenLive qp.toNat = false) :
    s.changeWaits (.queueReset h qp tail) h (s.stopSpec 0xC202 qp.toNat)
      (fun t => t.stopQp qp.toNat .reset tail (s.ticketOf h.src)) :=
  State.changeWaits_of_wait rfl (exec_queueReset qp tail) (if_pos ⟨hstop, Bool.eq_false_iff.mp hgen⟩)

theorem State.queueReset_conflicts (hstop : ¬ s.stoppable qp.toNat) :
    s.turnsAway (.queueReset h qp tail) h (s.stopSpec 0xC202 qp.toNat) rcConflict
      (s.conflictBytes 2 qp.toNat (qpNo (s.qp qp.toNat).state) 0) :=
  State.turnsAway_of_conflict rfl (exec_queueReset qp tail) (if_neg fun hready => hstop hready.1)

theorem State.queueShutdown_stops (hstop : s.stoppable qp.toNat) (hgen : s.oldGenLive qp.toNat = false) :
    s.changeWaits (.queueShutdown h qp tail) h (s.stopSpec 0xC203 qp.toNat)
      (fun t => t.stopQp qp.toNat .shutdown tail (s.ticketOf h.src)) :=
  State.changeWaits_of_wait rfl (exec_queueShutdown qp tail) <|
    (if_neg hstop.not_disabled).trans (if_pos ⟨hstop, Bool.eq_false_iff.mp hgen⟩)

theorem State.queueShutdown_of_disabled (hdisabled : (s.qp qp.toNat).state = .disabled) :
    s.changeSettles (.queueShutdown h qp tail) h (s.stopSpec 0xC203 qp.toNat) (fun t => t) [(s.qp qp.toNat).qpGen] :=
  State.changeSettles_of_done rfl (exec_queueShutdown qp tail) (if_pos hdisabled)

end

/-! ### TENANT_QUIESCE (R197) -/

theorem exec_tenantQuiesce (tenant : U16) (tails : List (U16 × U32)) : exec (.tenantQuiesce h tenant tails) s =
    act (fun t => t.cmdTenantQuiesce (.tenantQuiesce h tenant tails) h tenant tails) s := rfl

/-- What the opcode table says of TENANT_QUIESCE. -/
def quiesceSpec (n : Nat) : CmdSpec :=
  { opcode := 0xC205, len := 2, scope := .tenant n, bad := decide (4095 < n), changes := true, object := some (1, n) }

/-- The queue pairs of tenant n that are not DISABLED. -/
def State.liveQps (s : State) (n : Nat) : List Nat := (s.qpsOf n).filter fun q => (s.qp q).state != .disabled

/-- The queue pair keeps TENANT_QUIESCE from starting: it is STOPPING, an older generation of it lives, or a command holds it. -/
def State.keepsQuiesce (s : State) (q : Nat) : Bool :=
  (s.qp q).state == .stopping || s.oldGenLive q || (s.holder (some (2, q))).isSome

/-- What TENANT_QUIESCE reads as the tail word of queue pair q. -/
def quiesceTail (tails : List (U16 × U32)) (q : Nat) : HostRead U32 :=
  match tails.find? fun e => e.1.toNat == q with
  | some e => .ok e.2
  | none => .failed

/-- The state in which TENANT_QUIESCE has begun the stops of some queue pairs. -/
def State.quiesceQps (t : State) (l : List Nat) (tails : List (U16 × U32)) (ticket : Nat) : State :=
  l.foldl (fun t q => t.stopQp q .quiesce (quiesceTail tails q) ticket) t

theorem State.keepsQuiesce_eq_false {q : Nat} (hstop : (s.qp q).state ≠ .stopping) (hgen : s.oldGenLive q = false)
    (hholder : s.holder (some (2, q)) = none) : s.keepsQuiesce q = false := by
  simp [State.keepsQuiesce, hstop, hgen, hholder]

section
variable {tenant : U16} {tails : List (U16 × U32)}

theorem State.tenantQuiesce_of_nil (hnone : s.liveQps tenant.toNat = []) :
    s.changeSettles (.tenantQuiesce h tenant tails) h (quiesceSpec tenant.toNat) (fun t => t) [] := by
  refine State.changeSettles_of_ok rfl (exec_tenantQuiesce tenant tails) ?_
  have hlive : (s.intended h).liveQps tenant.toNat = [] := hnone
  rw [State.liveQps] at hlive
  dsimp only
  rw [hlive]
  rfl

theorem State.tenantQuiesce_stops (hsome : s.liveQps tenant.toNat ≠ [])
    (hready : ∀ q ∈ s.liveQps tenant.toNat, s.keepsQuiesce q = false) :
    s.changeWaits (.tenantQuiesce h tenant tails) h (quiesceSpec tenant.toNat)
      (fun t => t.quiesceQps (s.liveQps tenant.toNat) tails (s.ticketOf h.src)) := by
  refine State.changeWaits_of_wait rfl (exec_tenantQuiesce tenant tails) ?_
  have hfind : ((s.intended h).liveQps tenant.toNat).find? (s.intended h).keepsQuiesce = none :=
    List.find?_eq_none.mpr fun q hq => Bool.eq_false_iff.mp (hready q hq)
  rw [State.liveQps] at hfind
  unfold State.keepsQuiesce at hfind
  dsimp only
  rw [hfind]
  exact if_neg fun hnone => hsome (List.isEmpty_iff.mp hnone)

end

/-! ### TILE_MOVED_RELEASE (R217) -/

theorem exec_tileMovedRelease (tile : U32) :
    exec (.tileMovedRelease h tile) s = act (fun t => t.cmdTileMovedRelease (.tileMovedRelease h tile) h tile) s := rfl

/-- What the opcode table says of TILE_MOVED_RELEASE. -/
def releaseSpec (n : Nat) : CmdSpec :=
  { opcode := 0xC303, len := 4, bad := decide (2 ^ 19 ≤ n), changes := true, object := some (3, n) }

/-- The place of tile n is in use, or not this command's to release. -/
abbrev State.placeKept (s : State) (n : Nat) : Prop :=
  (s.tile n).state ≠ .moved ∨ (s.tile n).fwdRank = s.rank ∨ s.forwardedThrough n = true ∨ s.wq.zeros.any (·.tile == n) = true

section
variable {tile : U32}

theorem State.tileMovedRelease_zeroes (hunused : ¬ s.placeKept tile.toNat)
    (hup : s.linkUp (s.tile tile.toNat).pPort = true) :
    s.changeSettles (.tileMovedRelease h tile) h (releaseSpec tile.toNat) (fun t => t.orderZero tile.toNat) [] :=
  State.changeSettles_of_ok rfl (exec_tileMovedRelease tile) ((if_neg hunused).trans (if_neg (not_not.mpr hup)))

theorem State.tileMovedRelease_loses (hunused : ¬ s.placeKept tile.toNat)
    (hdown : s.linkUp (s.tile tile.toNat).pPort = false) :
    s.changeSettles (.tileMovedRelease h tile) h (releaseSpec tile.toNat) (fun t =>
      t.writeTile tile.toNat { s.tile tile.toNat with state := .lost, fwdRank := 0, fwdTile := 0 }) [] :=
  State.changeSettles_of_ok rfl (exec_tileMovedRelease tile) ((if_neg hunused).trans (if_pos (Bool.eq_false_iff.mp hdown)))

theorem State.tileMovedRelease_conflicts (hkept : s.placeKept tile.toNat) :
    s.turnsAway (.tileMovedRelease h tile) h (releaseSpec tile.toNat) rcConflict
      (s.conflictBytes 3 tile.toNat (htNo (s.tile tile.toNat).state) 0) :=
  State.turnsAway_of_conflict rfl (exec_tileMovedRelease tile) (if_pos hkept)

end

/-- Settles O51: each clause is one branch of its command's action on the state with the INTENT record, which leaves the queue
pairs, the tenants and the tiles. -/
theorem queueAndTileCommandsAct : Obligations.QueueAndTileCommandsAct := by
  refine ⟨fun s h => ⟨fun u => ⟨fun hdisabled henabling hbound hstays hjobs => ?enable, State.queueEnable_conflicts⟩,
      fun qp tail => ⟨fun hstop hgen => ⟨State.queueReset_stops hstop hgen, State.queueShutdown_stops hstop hgen⟩,
        State.queueShutdown_of_disabled, fun henabled hmalformed herror => ?reset⟩,
      fun tenant tails => ⟨State.tenantQuiesce_of_nil, fun hsome hready => ?quiesce⟩⟩,
    fun s h tile => ⟨fun hmoved hrank hforwarded hzeroing => ?release, State.tileMovedRelease_conflicts⟩⟩
  case enable =>
    have hu : s.enableable u := ⟨hdisabled, henabling, hbound, hstays, hjobs⟩
    exact ⟨State.queueEnable_enables hu, State.queueEnable_waits hu⟩
  case reset =>
    exact State.queueReset_conflicts (not_or.mpr ⟨henabled, not_or.mpr ⟨hmalformed, herror⟩⟩)
  case quiesce =>
    refine State.tenantQuiesce_stops hsome fun q hq => ?_
    obtain ⟨hstop, hgen, hholder⟩ := hready q hq
    exact State.keepsQuiesce_eq_false hstop hgen hholder
  case release =>
    have hunused : ¬ s.placeKept tile.toNat :=
      not_or.mpr ⟨not_not.mpr hmoved, not_or.mpr ⟨hrank,
        not_or.mpr ⟨Bool.eq_false_iff.mp hforwarded, Bool.eq_false_iff.mp hzeroing⟩⟩⟩
    exact ⟨State.tileMovedRelease_zeroes hunused, State.tileMovedRelease_loses hunused⟩

end Sys2Proof.Machine
end

section
/-! The links of edge ports: DL_UP, lane failures, L0p, LINK_DOWN, and the delays that start a port or fail it (R229 to R232, R235,
R249). -/

namespace Sys2Proof.Machine

variable {s : State} {p : Nat}

@[simp] theorem State.start_portsRun : s.start.portsRun = s.portsRun := rfl
@[simp] theorem State.start_param (p : Nat) : s.start.param p = s.param p := rfl

/-! ### DL_UP (R229, R249) -/

/-- Something keeps the link of port p from coming up: it is up, does not train, is contained or DISABLED, the mode does not let
ports run, or its die is not linked (R246, R249, R400, R406). -/
abbrev State.barsLink (s : State) (p : Nat) : Prop :=
  (s.port p).dlUp = true ∨ (s.port p).training = false ∨ (s.port p).dpc = true ∨ (s.port p).role = .disabled
    ∨ s.portsRun = false ∨ s.sys.dieLost.toNat.testBit (p / 16) = true

/-- What a port holds once its link has come up at `ft` with what its record and its partner allow (R229, R232, R235, R249). -/
def PortState.trained (k : PortState) (c : PortParam) (l : LinkTrained) (ft : Nat) : PortState :=
  { k with
    dlUp := true, rate := trainedRate c l, width := trainedWidth c l, widthNow := trainedWidth c l, flit := trainedFlit c l
    ide := idleIde c, widthDegraded := false, lanes := laneRun 0 (trainedWidth c l), lanesUp := laneRun 0 (trainedWidth c l)
    scaledFc := l.scaledFc
    mld := l.mld && c.mld && (k.role == .bound || k.role == .unbound), upAt := ft, cfgAllowed := false, viral := false
    decBase := if k.role = .host then c.decBaseTile else 0, decTilesM1 := if k.role = .host then c.decTilesM1 else 0
    decValid := k.role == .host }

/-- The state in which the link of port p has come up, and what waited may go on. -/
def State.linkTrained (s : State) (p : Nat) (l : LinkTrained) : State :=
  { s.updPort p fun k => k.trained (s.param p) l s.sys.ft with dp.freed := true }

theorem State.linkUpEvent_of_barred {l : LinkTrained} (hbars : s.barsLink p) : s.linkUpEvent p l = s :=
  if_pos (by simpa using hbars)

/-- The pool view of a HOST port queues the events that waited for its link (R404). -/
theorem State.linkUpEvent_of_open {l : LinkTrained} (hopen : ¬ s.barsLink p) :
    s.linkUpEvent p l = (if (s.port p).role = .host then (s.linkTrained p l).queueAdds p else s.linkTrained p l).log 0x0301 0
      [(1, p), (1, trainedRate (s.param p) l), (1, trainedWidth (s.param p) l), (1, trainedFlit (s.param p) l), (1, 0)] :=
  if_neg (by simpa using hopen)

/-! ### CONFIGURATION_REQUESTS_ALLOWED (R249) -/

theorem State.configAllowed_ignored (hidle : (s.port p).dlUp = false ∨ (s.port p).cfgAllowed = true) : s.configAllowed p = s :=
  if_pos (by simpa using hidle)

/-- The state 100 ms after the link of port p came up, with configuration requests allowed. -/
def State.configOpened (s : State) (p : Nat) : State :=
  (s.advanceTo ((s.port p).upAt + 100000000)).updPort p fun k => { k with cfgAllowed := true }

/-- The hosts of a BOUND port are told. -/
theorem State.configAllowed_opens (hup : (s.port p).dlUp = true) (hclosed : (s.port p).cfgAllowed = false) :
    s.configAllowed p = if (s.port p).role = .bound then (s.configOpened p).notifyVppbs p 1 [1] else s.configOpened p :=
  if_neg (by simp [hup, hclosed])

/-! ### LANE_FAILURE (R230) -/

section
variable {lane : Nat}

theorem State.laneFailure_of_unused (hunused : (s.port p).dlUp = false ∨ lane ∉ (s.port p).lanes) : s.laneFailure p lane = s :=
  if_pos (by simpa using hunused)

variable (hup : (s.port p).dlUp = true) (hlane : lane ∈ (s.port p).lanes)
include hup hlane

/-- With no run of working lanes left the link goes down. -/
theorem State.laneFailure_of_none (hrun : fallbackRun (s.param p).width ((s.port p).lanesUp.erase lane) = none) :
    s.laneFailure p lane = s.linkLost p 0 false := by
  refine (if_neg (by simp [hup, hlane])).trans ?_
  rw [hrun]

/-- The link goes on in the widest run of working lanes. -/
theorem State.laneFailure_of_some {r : List Nat}
    (hrun : fallbackRun (s.param p).width ((s.port p).lanesUp.erase lane) = some r) :
    s.laneFailure p lane =
      (((if r.length < (s.port p).widthNow then s.linkSlows p else s).updPort p fun k => { k with
        width := r.length, widthNow := Nat.min r.length k.widthNow, lanes := r, lanesUp := (s.port p).lanesUp.erase lane
        widthDegraded := true }).countPort p 28).log 0x0303 1 [(1, p), (4, r.length)] := by
  refine (if_neg (by simp [hup, hlane])).trans ?_
  rw [hrun]

end

/-! ### L0P_REQUEST (R231) -/

section
variable {w : Nat}

/-- A request for width w on port p can be granted: 256 B flit mode, and a power of two between L0P_MIN_WIDTH and the width of the
link. -/
abbrev State.grantsL0p (s : State) (p w : Nat) : Prop :=
  2 ≤ (s.port p).flit ∧ (if (s.param p).l0pMin = 0 then (s.param p).width else (s.param p).l0pMin) ≤ w
    ∧ w ≤ (s.port p).width ∧ pow2Width w = w

theorem State.l0pRequest_grants (hup : (s.port p).dlUp = true) (hgrants : s.grantsL0p p w) :
    s.l0pRequest p w = (if w < (s.port p).widthNow then s.linkSlows p else s).updPort p fun k => { k with widthNow := w } :=
  if_pos ⟨hup, hgrants⟩

theorem State.l0pRequest_of_down (hdown : (s.port p).dlUp = false) : s.l0pRequest p w = s := if_neg (by simp [hdown])

theorem State.l0pRequest_of_not_grants (hrefused : ¬ s.grantsL0p p w) : s.l0pRequest p w = s :=
  if_neg fun hgranted => hrefused hgranted.2

end

/-! ### PERST_DELAY and LINK_UP_TIMEOUT (R249, R400, R401) -/

/-- PERST_N of port p stays as it is: the slot has no power, PERST_N is deasserted, DPC holds the port, or the mode does not let it
run. -/
abbrev State.holdsPerst (s : State) (p : Nat) : Prop :=
  (s.port p).slotPg = false ∨ (s.port p).perst = false ∨ (s.port p).dpc = true ∨ s.portsRun = false ∨ s.sys.mode = .safe

/-- Port p starts of itself: a POOL_MEMBER, or a BOUND or UNBOUND port once the ports that hosts see have started (R401). -/
abbrev State.startsItself (s : State) (p : Nat) : Prop :=
  (s.port p).role = .poolMember
    ∨ ((s.port p).role = .bound ∨ (s.port p).role = .unbound) ∧ s.edge.hostPortsStarted = true

theorem State.perstDelay_ignored (hstays : s.holdsPerst p ∨ ¬ s.startsItself p) : s.perstDelay p = s := by
  obtain hholds | hnot := hstays
  · exact if_pos (by simpa using hholds)
  · exact ite_eq_left_iff.mpr fun _ => if_neg hnot

theorem State.perstDelay_starts (hholds : ¬ s.holdsPerst p) (hstarts : s.startsItself p) :
    s.perstDelay p = (s.advanceTo ((s.slots.chans.get p).pgAt + (s.param p).perstDelayMs * 1000000)).updPort p fun k =>
      { k with perst := false, training := true } :=
  (if_neg (by simpa using hholds)).trans (if_pos hstarts)

/-- LINK_UP_TIMEOUT does not run on port p: its link is up, it does not train, its role waits for no card, or the slot has no
power. -/
abbrev State.noLinkTimeout (s : State) (p : Nat) : Prop :=
  (s.port p).dlUp = true ∨ (s.port p).training = false ∨ (s.port p).role = .host ∨ (s.port p).role = .disabled
    ∨ (s.port p).slotPg = false

theorem State.linkUpTimeout_ignored (hidle : s.noLinkTimeout p) : s.linkUpTimeout p = s := if_pos (by simpa using hidle)

theorem State.linkUpTimeout_fails (hrunning : ¬ s.noLinkTimeout p) :
    s.linkUpTimeout p = ((s.advanceTo
      ((s.slots.chans.get p).pgAt + ((s.param p).perstDelayMs + (s.param p).linkUpTimeoutMs) * 1000000)).updPort p fun k =>
        { k with perst := true, training := false, memberFailed := true }).log 0x030A 2 [(1, p), (8, 0)] :=
  if_neg (by simpa using hrunning)

/-! ### What each command runs -/

section
variable (p : PortId)

theorem exec_dlUp (l : LinkTrained) : exec (.dlUp p l) s = act (fun t => t.linkUpEvent p.val l) s := rfl
theorem exec_linkDown (c : DownCause) :
    exec (.linkDown p c) s = act (fun t => t.linkLost p.val (downNo c) (c == .removal)) s := rfl
theorem exec_laneFailure (lane : Fin 16) : exec (.laneFailure p lane) s = act (fun t => t.laneFailure p.val lane.val) s := rfl
theorem exec_l0pRequest (w : BitVec 5) : exec (.l0pRequest p w) s = act (fun t => t.l0pRequest p.val w.toNat) s := rfl
theorem exec_configurationRequestsAllowed :
    exec (.configurationRequestsAllowed p) s = act (fun t => t.configAllowed p.val) s := rfl
theorem exec_perstDelay : exec (.perstDelay p) s = act (fun t => t.perstDelay p.val) s := rfl
theorem exec_linkUpTimeout : exec (.linkUpTimeout p) s = act (fun t => t.linkUpTimeout p.val) s := rfl

end

/-- Settles O6: each clause is one branch of its event's act on the state with no output yet, whose ports, records and mode are
those of `s`. -/
theorem edgeLinksTrainAndFail : Obligations.EdgeLinksTrainAndFail := by
  intro s p l w lane k c fl up freed
  refine ⟨fun hdown htrains hdpc hrole hrun hdie => ?comesUp, fun hbars => ?barred, fun cause => ?goesDown,
    fun hunused => ?unusedLane, fun hdown => ⟨?noRequests, ?noL0p⟩,
    fun hup => ⟨fun hlane => ⟨fun hrun => ?noLanes, fun r hrun => ?narrows⟩, fun hflit hleast hmost hpow => ?grants,
      fun hother => ?refuses, fun hclosed => ?opens, fun hopen => ?alreadyOpen⟩,
    fun hpg hperst hdpc hrun hmode hstarts => ?starts, fun hother => ?held, fun hidle => ?noTimeout,
    fun hdown htrains hhost hdisabled hpg => ?timesOut⟩
  case comesUp =>
    have hopen : ¬ s.start.barsLink p.val := by simp [k, hdown, htrains, hdpc, hrole, hrun, hdie]
    exact State.settlesTo_of_act (exec_dlUp p l) (State.linkUpEvent_of_open hopen)
  case barred => exact State.settlesTo_of_act (exec_dlUp p l) (State.linkUpEvent_of_barred (s := s.start) hbars)
  case goesDown => exact State.settlesTo_of_act (exec_linkDown p cause) rfl
  case unusedLane =>
    exact State.settlesTo_of_act (exec_laneFailure p lane) (State.laneFailure_of_unused (s := s.start) hunused)
  case noRequests =>
    exact State.settlesTo_of_act (exec_configurationRequestsAllowed p) (State.configAllowed_ignored (s := s.start) (.inl hdown))
  case noL0p => exact State.settlesTo_of_act (exec_l0pRequest p w) (State.l0pRequest_of_down (s := s.start) hdown)
  case noLanes =>
    exact State.settlesTo_of_act (exec_laneFailure p lane) (State.laneFailure_of_none (s := s.start) hup hlane hrun)
  case narrows =>
    exact State.settlesTo_of_act (exec_laneFailure p lane) (State.laneFailure_of_some (s := s.start) hup hlane hrun)
  case grants =>
    exact State.settlesTo_of_act (exec_l0pRequest p w)
      (State.l0pRequest_grants (s := s.start) hup ⟨hflit, hleast, hmost, hpow⟩)
  case refuses =>
    have hrefused : ¬ s.start.grantsL0p p.val w.toNat := by
      rintro ⟨hflit, hleast, hmost, hpow⟩
      obtain hlow | hwide | hnarrow | hodd := hother
      · exact absurd hflit (Nat.not_le.mpr hlow)
      · exact absurd hmost (Nat.not_le.mpr hwide)
      · exact absurd hleast (Nat.not_le.mpr hnarrow)
      · exact hodd hpow
    exact State.settlesTo_of_act (exec_l0pRequest p w) (State.l0pRequest_of_not_grants hrefused)
  case opens =>
    exact State.settlesTo_of_act (exec_configurationRequestsAllowed p) (State.configAllowed_opens (s := s.start) hup hclosed)
  case alreadyOpen =>
    exact State.settlesTo_of_act (exec_configurationRequestsAllowed p) (State.configAllowed_ignored (s := s.start) (.inr hopen))
  case starts =>
    have hfree : ¬ s.start.holdsPerst p.val := by simp [k, hpg, hperst, hdpc, hrun, hmode]
    exact State.settlesTo_of_act (exec_perstDelay p) (State.perstDelay_starts hfree hstarts)
  case held =>
    have hstays : s.start.holdsPerst p.val ∨ ¬ s.start.startsItself p.val := by
      simp only [State.holdsPerst, or_assoc]
      exact hother
    exact State.settlesTo_of_act (exec_perstDelay p) (State.perstDelay_ignored hstays)
  case noTimeout => exact State.settlesTo_of_act (exec_linkUpTimeout p) (State.linkUpTimeout_ignored (s := s.start) hidle)
  case timesOut =>
    have hrunning : ¬ s.start.noLinkTimeout p.val := by simp [k, hdown, htrains, hhost, hdisabled, hpg]
    exact State.settlesTo_of_act (exec_linkUpTimeout p) (State.linkUpTimeout_fails hrunning)

end Sys2Proof.Machine
end

section
/-! DPC, IDE failures, viral, hot reset, Slot Control and the start of the ports that hosts see (R238, R244, R246, R247, R248, R317,
R401). -/

namespace Sys2Proof.Machine

variable {s : State} {p : Nat}

/-! ### DPC_TRIGGER and DPC_CLEAR (R246, R416) -/

section
variable {cause : Nat}

/-- A trigger of this cause contains port p: on a POOL_MEMBER or UNBOUND port all but the one that no host has enabled. -/
abbrev State.dpcHolds (s : State) (p cause : Nat) : Prop :=
  (s.port p).role = .bound ∨ ((s.port p).role = .poolMember ∨ (s.port p).role = .unbound) ∧ cause ≠ 4

/-- A fatal error is counted. -/
def State.fatalCounted (s : State) (p cause : Nat) : State := if cause = 0 then s.countPort p 34 else s

theorem State.dpcTrigger_of_disabled (hrole : (s.port p).role = .disabled) : s.dpcTrigger p cause = s := by
  simp [State.dpcTrigger, hrole]

/-- A port that is not contained is contained, and its link goes down with cause 3. -/
theorem State.dpcTrigger_contains (hopen : (s.port p).dpc = false) (hholds : s.dpcHolds p cause) :
    s.dpcTrigger p cause = ((s.fatalCounted p cause).setDpc p cause).linkLost p 3 false := by
  obtain hrole | ⟨hrole | hrole, hcause⟩ := hholds
  · simp [State.dpcTrigger, State.fatalCounted, hrole, hopen]
  · simp [State.dpcTrigger, State.fatalCounted, hrole, hopen, hcause]
  · simp [State.dpcTrigger, State.fatalCounted, hrole, hopen, hcause]

/-- Elsewhere a fatal error is counted, and no more. -/
theorem State.dpcTrigger_counts (hrole : (s.port p).role ≠ .disabled) (hother : (s.port p).dpc = true ∨ ¬ s.dpcHolds p cause) :
    s.dpcTrigger p cause = s.fatalCounted p cause := by
  cases h : (s.port p).role with
  | disabled => exact absurd h hrole
  | host => simp [State.dpcTrigger, State.fatalCounted, h]
  | poolMember =>
    have hheld : (s.port p).dpc = true ∨ cause = 4 := by simpa [State.dpcHolds, h] using hother
    simp [State.dpcTrigger, State.fatalCounted, h, hheld]
  | unbound =>
    have hheld : (s.port p).dpc = true ∨ cause = 4 := by simpa [State.dpcHolds, h] using hother
    simp [State.dpcTrigger, State.fatalCounted, h, hheld]
  | bound =>
    have hheld : (s.port p).dpc = true := by simpa [State.dpcHolds, h] using hother
    simp [State.dpcTrigger, State.fatalCounted, h, hheld]

end

theorem State.dpcClear_releases (hheld : (s.port p).dpc = true) (hclears : (s.port p).role = .bound ∨ s.bolrothRuns = true) :
    s.dpcClear p = s.updPort p PortState.released := by
  refine if_neg ?_
  simpa [hheld, or_iff_not_imp_left] using hclears

theorem State.dpcClear_ignored (hidle : (s.port p).dpc = false ∨ (s.port p).role ≠ .bound ∧ s.bolrothRuns = false) :
    s.dpcClear p = s :=
  if_pos (by simpa using hidle)

/-! ### IDE_FAIL and VIRAL (R244, R247) -/

section
variable {pcie : Bool}

/-- The state in which a failed integrity check at port p has been counted and logged. -/
def State.ideFailLogged (s : State) (p : Nat) (pcie : Bool) : State :=
  (s.countPort p 30).log 0x0304 2 [(1, p), (4, b2n pcie)]

theorem State.ideFail_of_up (hup : (s.port p).dlUp = true) :
    s.ideFail p pcie =
      if (s.port p).role = .host then (s.ideFailLogged p pcie).linkLost p 4 false else (s.ideFailLogged p pcie).dpcTrigger p 2 :=
  if_neg (not_not.mpr hup)

theorem State.ideFail_of_down (hdown : (s.port p).dlUp = false) : s.ideFail p pcie = s := if_pos (by simp [hdown])

end

/-- The state in which port p has had Viral. -/
def State.viralMarked (s : State) (p : Nat) : State := s.updPort p fun k => { k with viral := true }

theorem State.viralIn_contains (hrole : (s.port p).role = .poolMember ∨ (s.port p).role = .unbound) :
    s.viralIn p = (s.viralMarked p).dpcTrigger p 3 := by
  obtain hrole | hrole := hrole <;> rw [State.viralIn, hrole] <;> rfl

theorem State.viralIn_of_bound (hrole : (s.port p).role = .bound) :
    s.viralIn p = (s.viralMarked p).notifyVppbs p 4 [] := by
  rw [State.viralIn, hrole]
  rfl

theorem State.viralIn_ignored (hrole : (s.port p).role = .host ∨ (s.port p).role = .disabled) : s.viralIn p = s := by
  obtain hrole | hrole := hrole <;> rw [State.viralIn, hrole]

/-! ### HOT_RESET and SLOT_CONTROL_WRITE (R238, R248, R317) -/

theorem State.hotResetPort_resets (hrole : (s.port p).role = .host) (hup : (s.port p).dlUp = true) :
    s.hotResetPort p = s.resetVcs p := if_pos ⟨hrole, hup⟩

theorem State.hotResetPort_ignored (hother : (s.port p).role ≠ .host ∨ (s.port p).dlUp = false) : s.hotResetPort p = s :=
  if_neg (by simpa [imp_iff_not_or] using hother)

section
variable {on : Bool} {pwr atn : BitVec 2}

theorem State.slotControl_of_bound (hrole : (s.port p).role = .bound) :
    s.slotControl p on pwr atn = s.updPort p fun k => { k with hostPower := on, pwrInd := pwr, atnInd := atn } := if_pos hrole

theorem State.slotControl_ignored (hrole : (s.port p).role ≠ .bound) : s.slotControl p on pwr atn = s := if_neg hrole

end

/-! ### HOST_PORT_START (R401) -/

/-- The state in which the ports that hosts see may start: once the members are settled, or else at `due`. -/
def State.hostStartReached (s : State) (due : Nat) : State :=
  { (if s.membersSettled then s else s.advanceTo due) with edge.hostPortsStarted := true }

/-- The ports that hosts see train, those with PERST_N deasserted and power at once. -/
def State.trainHostPorts (s : State) : State :=
  (s.edge.ports.find fun _ k => k.role == .host || k.role == .bound || k.role == .unbound).foldl (fun t p =>
    t.updPort p fun k => { k with training := k.role == .host || (!k.perst && k.slotPg) }) s

theorem State.hostPortStart_of_due {due : Nat} (hdue : s.sys.hostStartDue = some due) (hfirst : s.edge.hostPortsStarted = false)
    (hrun : s.portsRun = true) : s.hostPortStart = (s.hostStartReached due).trainHostPorts := by
  rw [State.hostPortStart, hdue]
  exact if_neg (by simp [hfirst, hrun])

theorem State.hostPortStart_ignored
    (hidle : s.edge.hostPortsStarted = true ∨ s.sys.hostStartDue = none ∨ s.portsRun = false) : s.hostPortStart = s := by
  rw [State.hostPortStart]
  cases hdue : s.sys.hostStartDue with
  | none => rfl
  | some due => exact if_pos (by simpa [hdue] using hidle)

/-! ### What each command runs -/

section
variable (p : PortId)

theorem exec_dpcTrigger (c : DpcCause) : exec (.dpcTrigger p c) s = act (fun t => t.dpcTrigger p.val (dpcNo c)) s := rfl
theorem exec_dpcClear : exec (.dpcClear p) s = act (fun t => t.dpcClear p.val) s := rfl
theorem exec_ideFail (pcie : Bool) : exec (.ideFail p pcie) s = act (fun t => t.ideFail p.val pcie) s := rfl
theorem exec_viral : exec (.viral p) s = act (fun t => t.viralIn p.val) s := rfl
theorem exec_hotReset : exec (.hotReset p) s = act (fun t => t.hotResetPort p.val) s := rfl
theorem exec_slotControlWrite (on : Bool) (pwr atn : BitVec 2) :
    exec (.slotControlWrite p on pwr atn) s = act (fun t => t.slotControl p.val on pwr atn) s := rfl
theorem exec_hostPortStart : exec .hostPortStart s = act (fun t => t.hostPortStart) s := rfl

end

/-- Settles O7: each clause is one branch of its event's act, told apart by the role of the port and by what it holds. -/
theorem edgePortEventsContainAndReset : Obligations.EdgePortEventsContainAndReset := by
  intro s p k
  refine ⟨fun cause => ⟨fun hopen hholds => ?contains, fun hrole hother => ?counts, fun hrole => ?noTrigger⟩,
    fun hheld hclears => ?clears, fun hidle => ?noClear, fun pcie => ⟨fun hup => ?ide, fun hdown => ?noIde⟩,
    ⟨fun hrole => ?viral, fun hrole => ?viralTold, fun hrole => ?noViral⟩, fun hrole hup => ?resets, fun hother => ?noReset,
    fun on pwr atn => ⟨fun hrole => ?slot, fun hrole => ?noSlot⟩, fun due hdue hfirst hrun => ?starts, fun hidle => ?noStart⟩
  case contains =>
    exact State.settlesTo_of_act (exec_dpcTrigger p cause) (State.dpcTrigger_contains (s := s.start) hopen hholds)
  case counts =>
    exact State.settlesTo_of_act (exec_dpcTrigger p cause) (State.dpcTrigger_counts (s := s.start) hrole hother)
  case noTrigger => exact State.settlesTo_of_act (exec_dpcTrigger p cause) (State.dpcTrigger_of_disabled (s := s.start) hrole)
  case clears => exact State.settlesTo_of_act (exec_dpcClear p) (State.dpcClear_releases (s := s.start) hheld hclears)
  case noClear => exact State.settlesTo_of_act (exec_dpcClear p) (State.dpcClear_ignored (s := s.start) hidle)
  case ide => exact State.settlesTo_of_act (exec_ideFail p pcie) (State.ideFail_of_up (s := s.start) hup)
  case noIde => exact State.settlesTo_of_act (exec_ideFail p pcie) (State.ideFail_of_down (s := s.start) hdown)
  case viral => exact State.settlesTo_of_act (exec_viral p) (State.viralIn_contains (s := s.start) hrole)
  case viralTold => exact State.settlesTo_of_act (exec_viral p) (State.viralIn_of_bound (s := s.start) hrole)
  case noViral => exact State.settlesTo_of_act (exec_viral p) (State.viralIn_ignored (s := s.start) hrole)
  case resets => exact State.settlesTo_of_act (exec_hotReset p) (State.hotResetPort_resets (s := s.start) hrole hup)
  case noReset => exact State.settlesTo_of_act (exec_hotReset p) (State.hotResetPort_ignored (s := s.start) hother)
  case slot =>
    exact State.settlesTo_of_act (exec_slotControlWrite p on pwr atn) (State.slotControl_of_bound (s := s.start) hrole)
  case noSlot =>
    exact State.settlesTo_of_act (exec_slotControlWrite p on pwr atn) (State.slotControl_ignored (s := s.start) hrole)
  case starts =>
    exact State.settlesTo_of_act exec_hostPortStart (State.hostPortStart_of_due (s := s.start) hdue hfirst hrun)
  case noStart => exact State.settlesTo_of_act exec_hostPortStart (State.hostPortStart_ignored (s := s.start) hidle)

end Sys2Proof.Machine
end

section
/-! MEMBER_SETUP (R241, R242). -/

namespace Sys2Proof.Machine

variable {s : State} {p : Nat} {m : MemberInfo}

/-- MEMBER_SETUP does not run on port p: it is no POOL_MEMBER, its link is down, its member is ready, or Bolroth does not run. -/
abbrev State.noMemberSetup (s : State) (p : Nat) : Prop :=
  (s.port p).role ≠ .poolMember ∨ (s.port p).dlUp = false ∨ (s.port p).memberReady = true ∨ s.bolrothRuns = false

/-- The state that has read the member's serial number and capacity, once configuration requests are allowed. -/
def State.memberRead (s : State) (p : Nat) (m : MemberInfo) : State :=
  (s.configAllowed p).updPort p fun k => { k with dsn := m.dsn, capacity := m.capacityTiles }

/-- The state that has enabled the memory of the member it has read. -/
def State.memberEnabled (s : State) (p : Nat) (m : MemberInfo) : State :=
  (s.memberRead p m).updPort p fun k => { k with memEnable := true }

/-- The member is marked failed, and the log entry of its reason names what was wanted (R242). -/
def State.failMember (s : State) (p : Nat) (type : U16) (want : Nat) : State :=
  (s.updPort p fun k => { k with memberFailed := true }).log type 2 [(1, p), (8, want)]

/-- The member is ready, and what waited may go on. -/
def State.readyMember (s : State) (p : Nat) : State :=
  { s.updPort p fun k => { k with memberReady := true, memberFailed := false } with dp.freed := true }

theorem State.memberSetup_ignored (hidle : s.noMemberSetup p) : s.memberSetup p m = s := if_pos (by simpa using hidle)

section
variable (hruns : ¬ s.noMemberSetup p)
include hruns

/-- What MEMBER_SETUP does once it runs: the checks of R242 in their order. -/
theorem State.memberSetup_eq : s.memberSetup p m =
    if ¬ m.memoryActive then (s.memberRead p m).failMember p 0x0309 0
    else if (s.param p).expectedDsn ≠ 0 ∧ (s.param p).expectedDsn ≠ m.dsn then
      (s.memberEnabled p m).failMember p 0x0307 (s.param p).expectedDsn.toNat
    else if m.capacityTiles < (s.memberEnabled p m).neededTiles p then
      (s.memberEnabled p m).failMember p 0x0308 ((s.memberEnabled p m).neededTiles p)
    else (s.memberEnabled p m).readyMember p :=
  if_neg (by simpa using hruns)

theorem State.memberSetup_of_inactive (hinactive : m.memoryActive = false) :
    s.memberSetup p m = (s.memberRead p m).failMember p 0x0309 0 :=
  (State.memberSetup_eq hruns).trans (if_pos (by simp [hinactive]))

variable (hactive : m.memoryActive = true)
include hactive

theorem State.memberSetup_of_otherDsn (hexpects : (s.param p).expectedDsn ≠ 0) (hother : (s.param p).expectedDsn ≠ m.dsn) :
    s.memberSetup p m = (s.memberEnabled p m).failMember p 0x0307 (s.param p).expectedDsn.toNat :=
  (State.memberSetup_eq hruns).trans <| (if_neg (not_not.mpr hactive)).trans (if_pos ⟨hexpects, hother⟩)

variable (hdsn : (s.param p).expectedDsn = 0 ∨ (s.param p).expectedDsn = m.dsn)
include hdsn

/-- A member with active memory and the serial number that is expected goes on to the check of its capacity. -/
theorem State.memberSetup_of_expectedDsn : s.memberSetup p m =
    if m.capacityTiles < (s.memberEnabled p m).neededTiles p then
      (s.memberEnabled p m).failMember p 0x0308 ((s.memberEnabled p m).neededTiles p)
    else (s.memberEnabled p m).readyMember p := by
  have hexpected : ¬ ((s.param p).expectedDsn ≠ 0 ∧ (s.param p).expectedDsn ≠ m.dsn) :=
    fun hother => hdsn.elim hother.1 hother.2
  exact (State.memberSetup_eq hruns).trans <| (if_neg (not_not.mpr hactive)).trans (if_neg hexpected)

theorem State.memberSetup_of_small (hsmall : m.capacityTiles < (s.memberEnabled p m).neededTiles p) :
    s.memberSetup p m = (s.memberEnabled p m).failMember p 0x0308 ((s.memberEnabled p m).neededTiles p) :=
  (State.memberSetup_of_expectedDsn hruns hactive hdsn).trans (if_pos hsmall)

theorem State.memberSetup_of_fit (hfits : (s.memberEnabled p m).neededTiles p ≤ m.capacityTiles) :
    s.memberSetup p m = (s.memberEnabled p m).readyMember p :=
  (State.memberSetup_of_expectedDsn hruns hactive hdsn).trans (if_neg (Nat.not_lt.mpr hfits))

end

theorem exec_memberSetup (p : PortId) (m : MemberInfo) : exec (.memberSetup p m) s = act (fun t => t.memberSetup p.val m) s := rfl

/-- Settles O8: the clauses are the outcomes of the checks of R242, in the order in which the event makes them. -/
theorem memberSetupChecksTheMember : Obligations.MemberSetupChecksTheMember := by
  intro s p m k c t u fail
  refine ⟨fun hrole hup hready hbolroth => ?_, fun hidle => ?ignored⟩
  case ignored => exact State.settlesTo_of_act (exec_memberSetup p m) (State.memberSetup_ignored (s := s.start) hidle)
  have hruns : ¬ s.start.noMemberSetup p.val := by simp [k, hrole, hup, hready, hbolroth]
  refine ⟨fun hinactive => ?inactive, fun hactive hexpects hother => ?otherDsn,
    fun hactive hdsn => ⟨fun hsmall => ?small, fun hfits => ?fits⟩⟩
  case inactive => exact State.settlesTo_of_act (exec_memberSetup p m) (State.memberSetup_of_inactive hruns hinactive)
  case otherDsn =>
    exact State.settlesTo_of_act (exec_memberSetup p m) (State.memberSetup_of_otherDsn hruns hactive hexpects hother)
  case small => exact State.settlesTo_of_act (exec_memberSetup p m) (State.memberSetup_of_small hruns hactive hdsn hsmall)
  case fits => exact State.settlesTo_of_act (exec_memberSetup p m) (State.memberSetup_of_fit hruns hactive hdsn hfits)

end Sys2Proof.Machine
end

section
/-! Physical Port Control, PPB configuration requests and the binding commands (R239, R240, R369). -/

namespace Sys2Proof.Machine

variable {s : State} {i : Instr} {h : CmdHdr} {c : CmdSpec}

/-- A command that the data plane follows up and that its own rules turn away. -/
theorem State.turnsAway_of_refused {run : State → Nat → CmdRes} {code : Nat} {payload : List Byte} (hc : c.changes = true)
    (hcode : code ≠ rcSuccess) (hexec : exec i s = act (fun t => t.command i h c none run) s)
    (hrun : run (s.intended h) (s.ticketOf h.src) = .done (s.intended h) code payload) : s.turnsAway i h c code payload := by
  intro htakes
  rw [hexec, act, State.takes_refuse htakes hc run _ _ hcode hrun]

/-! ### Physical Port Control (R369) -/

section
variable {p : PortId}

theorem exec_physicalPortControl (p : PortId) (o : PortControl) : exec (.physicalPortControl h p o) s =
    act (fun t => t.cmdPortControl (.physicalPortControl h p o) h p.val o) s := rfl

/-- What the opcode table says of Physical Port Control. -/
abbrev portControlSpec : CmdSpec := { opcode := 0x5102, len := 2, changes := true }

theorem State.physicalPortControl_resets (hrole : (s.port p.val).role = .bound ∨ (s.port p.val).role = .unbound) :
    s.changeSettles (.physicalPortControl h p .resetPpb) h portControlSpec (fun t => t.linkLost p.val 5 false) [] := by
  have hallowed : ¬ (PortControl.resetPpb ≠ .resetPpb
      ∨ ((s.port p.val).role ≠ .bound ∧ (s.port p.val).role ≠ .unbound)) := by
    rintro (hreset | ⟨hbound, hunbound⟩)
    · exact hreset rfl
    · exact hrole.elim hbound hunbound
  exact State.changeSettles_of_ok rfl (exec_physicalPortControl p _) (if_neg hallowed)

theorem State.physicalPortControl_refuses {o : PortControl}
    (hother : o ≠ .resetPpb ∨ ((s.port p.val).role ≠ .bound ∧ (s.port p.val).role ≠ .unbound)) :
    s.turnsAway (.physicalPortControl h p o) h portControlSpec rcInvalid [] :=
  State.turnsAway_of_refused rfl (by decide) (exec_physicalPortControl p o) (if_pos hother)

end

/-! ### Send PPB CXL.io Configuration Request (R369) -/

section
variable {p : PortId} {reg : BitVec 12} {write : Bool} {data : U32} {answer : Option U32}

theorem exec_sendPpbCxlIoConfigurationRequest : exec (.sendPpbCxlIoConfigurationRequest h p reg write data answer) s =
    plain (fun t => t.cmdPpbConfig (.sendPpbCxlIoConfigurationRequest h p reg write data answer) h p.val reg write data answer)
      s := rfl

/-- What the opcode table says of Send PPB CXL.io Configuration Request. -/
abbrev ppbConfigSpec : CmdSpec := { opcode := 0x5103, len := 8, changes := true }

/-- The request goes out on a link that is up, and a read brings the answer. -/
theorem State.ppbConfig_sends (hhost : (s.port p.val).role ≠ .host) (hdisabled : (s.port p.val).role ≠ .disabled) :
    s.changeEnds (.sendPpbCxlIoConfigurationRequest h p reg write data answer) h ppbConfigSpec
      (fun t => if (s.port p.val).dlUp then t.emit (.notify p.val 9 [reg.toNat, b2n write, data.toNat]) else t)
      (if write then []
        else leBytes (if (s.port p.val).dlUp then answer.getD 0xFFFFFFFF else (0xFFFFFFFF : U32)).toNat 4) :=
  State.changeEnds_of_done rfl exec_sendPpbCxlIoConfigurationRequest (if_neg (not_or.mpr ⟨hhost, hdisabled⟩))

theorem State.ppbConfig_refuses (hrole : (s.port p.val).role = .host ∨ (s.port p.val).role = .disabled) :
    s.queryDeclines (.sendPpbCxlIoConfigurationRequest h p reg write data answer) h ppbConfigSpec rcInvalid [] :=
  State.queryDeclines_of_refused rfl (by decide) exec_sendPpbCxlIoConfigurationRequest (if_pos hrole)

end

/-! ### Bind vPPB (R239) -/

section
variable {vcs p : PortId} {v : Fin 32} {ld : Option (BitVec 4)}

theorem exec_bindVppb : exec (.bindVppb h vcs v p ld) s =
    act (fun t => t.cmdBind (.bindVppb h vcs v p ld) h vcs.val v.val p.val ld) s := rfl

/-- What the opcode table says of Bind vPPB to port p. -/
abbrev bindSpec (p : Nat) : CmdSpec := { opcode := 0x5201, len := 4, changes := true, object := some (8, p) }

theorem State.bindVppb_binds (hallowed : s.bindRefused vcs.val v.val p.val (ld.map (·.toNat)) = false) :
    s.changeSettles (.bindVppb h vcs v p ld) h (bindSpec p.val) (fun t => t.bind vcs.val v.val p.val (ld.map (·.toNat))) [] :=
  State.changeSettles_of_ok rfl exec_bindVppb (if_neg (Bool.eq_false_iff.mp hallowed))

theorem State.bindVppb_conflicts (hrefused : s.bindRefused vcs.val v.val p.val (ld.map (·.toNat)) = true) :
    s.turnsAway (.bindVppb h vcs v p ld) h (bindSpec p.val) rcConflict
      (s.conflictBytes 8 p.val (roleNo (s.port p.val).role) 0) :=
  State.turnsAway_of_conflict rfl exec_bindVppb (if_pos hrefused)

end

/-! ### Unbind vPPB (R239) -/

/-- What the opcode table says of Unbind vPPB of a vPPB with binding b: it holds the port that the vPPB is bound to. -/
abbrev unbindSpec (b : Option (Nat × Nat)) : CmdSpec :=
  { opcode := 0x5202, len := 3, changes := true, object := b.map fun x => (8, x.1) }

/-- The action of Unbind vPPB. -/
def unbindAction (vcs v : Nat) (o : UnbindOption) (t : State) (_ : Nat) : CmdRes :=
  match t.edge.binds.get (32 * vcs + v) with
  | none => .done t rcInvalid []
  | some (p, _) =>
    if v = 0 then .done t rcInvalid []
    else if o = .waitLinkDown ∧ (t.port p).dlUp then .wait t
    else ok (t.unbind vcs v)

theorem exec_unbindVppb {vcs : PortId} {v : Fin 32} {o : UnbindOption} {b : Option (Nat × Nat)}
    (hbind : s.edge.binds.get (32 * vcs.val + v.val) = b) :
    exec (.unbindVppb h vcs v o) s =
      act (fun t => t.command (.unbindVppb h vcs v o) h (unbindSpec b) none (unbindAction vcs.val v.val o)) s := by
  subst hbind
  rfl

section
variable {t : State} {vcs v q l n : Nat} {o : UnbindOption}

theorem unbindAction_of_none (hbind : t.edge.binds.get (32 * vcs + v) = none) :
    unbindAction vcs v o t n = .done t rcInvalid [] := by
  rw [unbindAction, hbind]

variable (hbind : t.edge.binds.get (32 * vcs + v) = some (q, l))
include hbind

theorem unbindAction_of_zero (hzero : v = 0) : unbindAction vcs v o t n = .done t rcInvalid [] := by
  rw [unbindAction, hbind]
  exact if_pos hzero

theorem unbindAction_waits (hv : v ≠ 0) (hwaits : o = .waitLinkDown ∧ (t.port q).dlUp = true) :
    unbindAction vcs v o t n = .wait t := by
  rw [unbindAction, hbind]
  exact (if_neg hv).trans (if_pos hwaits)

theorem unbindAction_unbinds (hv : v ≠ 0) (hnow : ¬ (o = .waitLinkDown ∧ (t.port q).dlUp = true)) :
    unbindAction vcs v o t n = ok (t.unbind vcs v) := by
  rw [unbindAction, hbind]
  exact (if_neg hv).trans (if_neg hnow)

end

/-- Settles O38: each clause is one branch of its command's action on the state with the INTENT record, which leaves the ports
and the bindings. -/
theorem portCommandsActOnTheirPort : Obligations.PortCommandsActOnTheirPort := by
  intro s h p
  refine ⟨State.physicalPortControl_resets, fun o => State.physicalPortControl_refuses,
    fun reg write data answer => ⟨State.ppbConfig_sends, State.ppbConfig_refuses⟩,
    fun vcs v ld => ⟨State.bindVppb_binds, State.bindVppb_conflicts⟩,
    fun vcs v o q l hv hbind => ⟨fun hnow => ?unbinds, fun hoption hup => ?waits⟩,
    fun vcs v o => ⟨fun hbind => ?notBound, fun q l hbind hzero => ?poolView⟩⟩
  case unbinds =>
    exact State.changeSettles_of_ok rfl (exec_unbindVppb (b := some (q, l)) hbind)
      (unbindAction_unbinds (t := s.intended h) hbind hv hnow)
  case waits =>
    exact State.changeWaits_of_wait rfl (exec_unbindVppb (b := some (q, l)) hbind)
      (unbindAction_waits (t := s.intended h) hbind hv ⟨hoption, hup⟩)
  case notBound =>
    exact State.turnsAway_of_refused rfl (by decide) (exec_unbindVppb (b := none) hbind)
      (unbindAction_of_none (t := s.intended h) hbind)
  case poolView =>
    exact State.turnsAway_of_refused rfl (by decide) (exec_unbindVppb (b := some (q, l)) hbind)
      (unbindAction_of_zero (t := s.intended h) hbind hzero)

end Sys2Proof.Machine
end

section
/-! The event-record and log commands, which the management function and the pool view both serve (R237, R369, R430). -/

namespace Sys2Proof.Machine

variable {s : State} {i : Instr} {h : CmdHdr} {p : PoolHdr}

/-! ### What a command does that both targets serve -/

section
variable {op len : Nat} {changes bad : Bool} {run : State → State × List Byte} {payload : List Byte}

/-- For the management function, a query is answered by what the state says before its ticket. -/
theorem State.eventQuery_answers
    (hexec : exec i s = plain (fun t => t.eventCommand i (.mgmt h) op len false bad run) s)
    (hrun : run (s.ticketed h) = (s.ticketed h, payload)) :
    s.queryAnswers i h { opcode := op, len := len, changes := false, bad := bad } payload :=
  State.queryAnswers_of_done rfl hexec (by rw [hrun])

/-- For the management function, a command that changes state ends between its INTENT and END records. -/
theorem State.eventChange_ends {f : State → State}
    (hexec : exec i s = plain (fun t => t.eventCommand i (.mgmt h) op len true bad run) s)
    (hrun : run (s.intended h) = (f (s.intended h), payload)) :
    s.changeEnds i h { opcode := op, len := len, changes := true, bad := bad } f payload :=
  State.changeEnds_of_done rfl hexec (by rw [hrun])

variable (hexec : exec i s = plain (fun t => t.eventCommand i (.pool p) op len changes bad run) s)
include hexec

/-- To a pool view a command with a reserved value is one with a reserved bit that is 1 (R7). -/
theorem exec_eventPool_eq : exec i s = .next (s.start.poolCommand { p with reservedSet := p.reservedSet || bad } fun t =>
    (run t).1.poolAnswer p.port.val rcSuccess (run t).2) := hexec

/-- A pool view that does not take a command declines it before its action. -/
theorem State.eventPool_declines : s.poolDeclines i p fun t => t := by
  obtain ⟨hport, hbusy, hreserved⟩ := State.poolDeclines_of_poolCommand (f := fun t => t) (exec_eventPool_eq hexec)
  exact ⟨hport, hbusy, fun hrole hup hruns hset => hreserved hrole hup hruns (by simp [hset])⟩

variable (htakes : s.poolTakes p)
include htakes

/-- A pool view that takes a command without a reserved value runs it and answers. -/
theorem exec_eventPool (hbad : bad = false) :
    exec i s = .next ((run s.start).1.poolAnswer p.port.val rcSuccess (run s.start).2) := by
  obtain ⟨hrole, hup, hruns, hreserved⟩ := htakes
  have hwhole : s.poolTakes { p with reservedSet := p.reservedSet || bad } := ⟨hrole, hup, hruns, by simp [hreserved, hbad]⟩
  rw [exec_eventPool_eq hexec, State.poolCommand_of_takes hwhole]

/-- A reserved value is Invalid Input (R7). -/
theorem exec_eventPool_of_bad (hbad : bad = true) : exec i s = .next (s.start.poolAnswer p.port.val rcInvalid []) := by
  obtain ⟨hrole, hup, hruns, -⟩ := htakes
  obtain ⟨-, -, hreserved⟩ := State.poolDeclines_of_poolCommand (f := fun t => t) (exec_eventPool_eq hexec)
  exact hreserved hrole hup hruns (by simp [hbad])

end

/-! ### What each command runs -/

section
variable (t : EventTarget)

theorem exec_getEventRecords (log : EventLog) : exec (.getEventRecords t log) s =
    plain (fun u => u.eventCommand (.getEventRecords t log) t 0x0100 1 false false fun v =>
      (v, (v.eventLogs t).recordBytes (eventNo log))) s := rfl
theorem exec_clearEventRecords (log : EventLog) (all : Bool) (n : Nat) : exec (.clearEventRecords t log all n) s =
    plain (fun u => u.eventCommand (.clearEventRecords t log all n) t 0x0101 6 true false fun v =>
      (v.setLogs t ((v.eventLogs t).clear (eventNo log) all n), [])) s := rfl
theorem exec_getEventInterruptPolicy : exec (.getEventInterruptPolicy t) s =
    plain (fun u => u.eventCommand (.getEventInterruptPolicy t) t 0x0102 0 false false fun v =>
      (v, leBytes (v.eventLogs t).policy.toNat 5)) s := rfl
theorem exec_setEventInterruptPolicy (policy : BitVec 40) : exec (.setEventInterruptPolicy t policy) s =
    plain (fun u => u.eventCommand (.setEventInterruptPolicy t policy) t 0x0103 5 true (policyBad policy) fun v =>
      (v.setLogs t { v.eventLogs t with policy := policy }, [])) s := rfl
theorem exec_getSupportedLogs : exec (.getSupportedLogs t) s =
    plain (fun u => u.eventCommand (.getSupportedLogs t) t 0x0400 0 false false fun v =>
      (v, leBytes 1 8 ++ effectsUuid ++ leBytes (4 * (effectOps t).length) 4)) s := rfl
theorem exec_getLog (off len : Nat) : exec (.getLog t off len) s =
    plain (fun u => u.eventCommand (.getLog t off len) t 0x0401 24 false false fun v =>
      ((v.effectsLog t).1, ((v.effectsLog t).2.drop off).take (Nat.min len 2048))) s := rfl

end

/-- Set Event Interrupt Policy of a pool view writes a policy without a reserved value. -/
theorem exec_setPoolPolicy (policy : BitVec 40) (htakes : s.poolTakes p) :
    exec (.setEventInterruptPolicy (.pool p) policy) s =
      .next (if policyBad policy then s.start.poolAnswer p.port.val rcInvalid []
        else (s.start.setLogs (.pool p) { (s.edge.pools.get p.port.val).logs with policy := policy }).poolAnswer
          p.port.val rcSuccess []) := by
  cases hbad : policyBad policy with
  | true => exact exec_eventPool_of_bad (exec_setEventInterruptPolicy (.pool p) policy) htakes hbad
  | false => exact exec_eventPool (exec_setEventInterruptPolicy (.pool p) policy) htakes hbad

/-- Settles O40: each command is one that both targets serve; the management function takes it as it takes its other commands,
and the pool view as it takes its own. -/
theorem eventLogCommandsServeBothTargets : Obligations.EventLogCommandsServeBothTargets := by
  intro s h p log all n off len policy
  refine ⟨?records, ?clear, ?policy, ?setPolicy, ?supported, ?log,
    fun htakes => ⟨?poolRecords, ?poolClear, ?poolPolicy, ?poolSetPolicy, ?poolSupported, ?poolLog⟩, ?declines⟩
  case records => exact State.eventQuery_answers (exec_getEventRecords (.mgmt h) log) rfl
  case clear => exact State.eventChange_ends (exec_clearEventRecords (.mgmt h) log all n) rfl
  case policy => exact State.eventQuery_answers (exec_getEventInterruptPolicy (.mgmt h)) rfl
  case setPolicy => exact State.eventChange_ends (exec_setEventInterruptPolicy (.mgmt h) policy) rfl
  case supported => exact State.eventQuery_answers (exec_getSupportedLogs (.mgmt h)) rfl
  case log => exact exec_eq_respond_of_done rfl (exec_getLog (.mgmt h) off len) rfl
  case poolRecords => exact (exec_eventPool (exec_getEventRecords (.pool p) log) htakes rfl :)
  case poolClear => exact (exec_eventPool (exec_clearEventRecords (.pool p) log all n) htakes rfl :)
  case poolPolicy => exact (exec_eventPool (exec_getEventInterruptPolicy (.pool p)) htakes rfl :)
  case poolSetPolicy => exact exec_setPoolPolicy policy htakes
  case poolSupported => exact (exec_eventPool (exec_getSupportedLogs (.pool p)) htakes rfl :)
  case poolLog => exact (exec_eventPool (exec_getLog (.pool p) off len) htakes rfl :)
  case declines =>
    intro i hi
    simp only [List.mem_cons, List.not_mem_nil, or_false] at hi
    obtain rfl | rfl | rfl | rfl | rfl | rfl := hi
    · exact State.eventPool_declines (exec_getEventRecords (.pool p) log)
    · exact State.eventPool_declines (exec_clearEventRecords (.pool p) log all n)
    · exact State.eventPool_declines (exec_getEventInterruptPolicy (.pool p))
    · exact State.eventPool_declines (exec_setEventInterruptPolicy (.pool p) policy)
    · exact State.eventPool_declines (exec_getSupportedLogs (.pool p))
    · exact State.eventPool_declines (exec_getLog (.pool p) off len)

end Sys2Proof.Machine
end

section
/-! A step: the command at the front of the queue, the oldest deferred command, or a tick (R365, R462). -/

namespace Sys2Proof.Machine

variable {s : State}

theorem step_of_cons {c : Instr} {rest : List Instr} (hqueue : s.pending = c :: rest) :
    step s = exec c { s with pending := rest } := by rw [step, hqueue]

theorem step_of_deferred {r : Running} (hqueue : s.pending = []) (hwaits : s.deferred = some r) :
    step s = exec r.instr (s.resume r) := by rw [step, hqueue, hwaits]

theorem step_of_idle (hqueue : s.pending = []) (hnone : s.deferred = none) : step s = .next s.idleTick := by
  rw [step, hqueue, hnone]

/-! ### What fabric time and a tick leave -/

/-- Fabric time alone, and the counters that run with it, move on. -/
theorem State.advanceTo_eq (n : Nat) : s.advanceTo n =
    { s with sys.ft := (s.advanceTo n).sys.ft, obs.counters := (s.advanceTo n).obs.counters } := by
  unfold State.advanceTo
  split <;> rfl

/-- A tick is time that passes, with nothing leaving the block. -/
theorem State.idleTick_eq : s.idleTick =
    { s with
      sys.ft := s.idleTick.sys.ft, sys.frac := s.idleTick.sys.frac
      obs.counters := s.idleTick.obs.counters, obs.out := [] } := by
  unfold State.idleTick
  split
  · dsimp only
    rw [State.pass, State.advanceTo_eq]
  · rfl

/-- Settles O1. -/
theorem stepRunsFrontCommand : Obligations.StepRunsFrontCommand := fun _ _ _ hqueue => step_of_cons hqueue

/-- Settles O2: the queue is empty, so what waits decides, and a tick touches time and what runs with it alone. -/
theorem emptyQueueResumesOrTicks : Obligations.EmptyQueueResumesOrTicks := by
  intro s hqueue
  refine ⟨fun r hwaits => step_of_deferred hqueue hwaits, fun hnone => ⟨_, step_of_idle hqueue hnone, rfl, ?_⟩⟩
  rw [State.idleTick_eq]
  exact ⟨rfl, rfl, rfl, rfl, rfl, rfl, rfl, rfl, rfl, rfl, hqueue⟩

end Sys2Proof.Machine
end

section
/-! The end of a measurement window (R258, R260, R266, R267). -/

namespace Sys2Proof.Machine

variable {s : State} {x : Nat} {errors : List Nat} {kbits : U32}

@[simp] theorem State.start_trunk (t : Nat) : s.start.trunk t = s.trunk t := rfl
@[simp] theorem State.start_trunkParam (t : Nat) : s.start.trunkParam t = s.trunkParam t := rfl

/-! ### The lanes that a condition picks -/

section
variable {p : Nat → Bool} {k m n : Nat}

theorem filter_range_eq_nil (hnone : ∀ i < k, p i ≠ true) : (List.range k).filter p = [] :=
  List.filter_eq_nil_iff.mpr fun i hi => hnone i (List.mem_range.mp hi)

theorem mem_filter_range : n ∈ (List.range k).filter p ↔ n < k ∧ p n = true := by rw [List.mem_filter, List.mem_range]

theorem filter_range_nodup : ((List.range k).filter p).Nodup := List.nodup_range.filter p

theorem filter_range_eq_singleton (hn : n < k) (hp : p n = true) (honly : ∀ i < k, p i = true → i = n) :
    (List.range k).filter p = [n] := by
  refine List.perm_singleton.mp ((List.perm_ext_iff_of_nodup filter_range_nodup (List.nodup_singleton n)).mpr fun i => ?_)
  rw [mem_filter_range, List.mem_singleton]
  exact ⟨fun h => honly i h.1 h.2, fun h => h ▸ ⟨hn, hp⟩⟩

theorem filter_range_two (hm : m < k) (hn : n < k) (hne : m ≠ n) (hpm : p m = true) (hpn : p n = true) :
    ∃ a b l, (List.range k).filter p = a :: b :: l := by
  have hmem := mem_filter_range.mpr ⟨hm, hpm⟩
  have hnem := mem_filter_range.mpr ⟨hn, hpn⟩
  match hl : (List.range k).filter p with
  | [] => simp [hl] at hmem
  | [a] =>
    rw [hl, List.mem_singleton] at hmem hnem
    exact absurd (hmem.trans hnem.symm) hne
  | a :: b :: l => exact ⟨a, b, l, rfl⟩

end

/-! ### What a window measures -/

/-- A lane fails its window: it is unlocked, or its errors pass ACCEPT_PPB of the bits measured. -/
def Trunk.laneFails (k : Trunk) (limit : Nat) (errors : List Nat) (kbits : U32) (n : Nat) : Bool :=
  !k.locked.toNat.testBit n || !ratePasses (errors.getD n 0) kbits.toNat limit

theorem Trunk.laneFails_iff {k : Trunk} {limit n : Nat} : k.laneFails limit errors kbits n = true ↔
    k.locked.toNat.testBit n = false ∨ errors.getD n 0 * 1000000000 > limit * (kbits.toNat * 1024) := by
  simp only [Trunk.laneFails, ratePasses, Bool.or_eq_true, Bool.not_eq_true', decide_eq_false_iff_not, Nat.not_le, gt_iff_lt]

/-- The lanes that fail their window. -/
def State.failing (s : State) (x : Nat) (errors : List Nat) (kbits : U32) : List Nat :=
  (List.range 9).filter ((s.trunk x).laneFails (s.trunkParam x).acceptPpb errors kbits)

/-- Every lane's registers hold its window. -/
def State.windowNoted (s : State) (x : Nat) (errors : List Nat) (kbits : U32) : State :=
  s.updTrunk x fun k => { k with lanes := k.lanes.zipIdx.map fun q =>
    { q.1 with prbsErrors := BitVec.ofNat 32 (errors.getD q.2 0), prbsKbits := kbits } }

/-- The trunk goes on to ANNOUNCE with the SKIP chosen, and announces it. -/
def State.announceSkip (s : State) (x skip : Nat) : State :=
  State.emit ((s.updTrunk x fun k => { k with phase := .announce, rxSkip := skip }).setSpare x)
    (.flit x 16 (annGroup skip true false (s.trunkParam x).compat (s.trunkParam x).rate))

/-! ### In MEASURE -/

section
variable (hphase : (s.trunk x).phase = .measure)
include hphase

theorem State.measWindow_of_native (hnative : (s.trunkParam x).compat = false) : s.measWindow x errors kbits =
    match s.failing x errors kbits with
    | [] => (s.windowNoted x errors kbits).announceSkip x 8
    | [n] => (s.windowNoted x errors kbits).announceSkip x n
    | _ => (s.windowNoted x errors kbits).failAttempt x 2 :=
  (if_pos hphase).trans (if_neg (by simp [hnative]))

theorem State.measWindow_of_compat (hcompat : (s.trunkParam x).compat = true) : s.measWindow x errors kbits =
    if (s.failing x errors kbits).any (· < 8) then (s.windowNoted x errors kbits).failAttempt x 2
    else (s.windowNoted x errors kbits).announceSkip x 8 :=
  (if_pos hphase).trans (if_pos hcompat)

end

/-! ### In service, and in any other state -/

theorem State.measWindow_of_active (hphase : (s.trunk x).phase = .active) (hnative : (s.trunkParam x).compat = false) :
    s.measWindow x errors kbits = State.setSpare (s.updTrunk x fun r =>
      { r with lanes := r.lanes.modify (s.trunk x).rxSkip fun q =>
        { q with prbsErrors := BitVec.ofNat 32 (errors.getD (s.trunk x).rxSkip 0), prbsKbits := kbits } }) x :=
  (if_neg (by simp [hphase])).trans (if_pos ⟨hphase, by simp [hnative]⟩)

theorem State.measWindow_ignored (hmeasure : (s.trunk x).phase ≠ .measure)
    (hidle : (s.trunk x).phase ≠ .active ∨ (s.trunkParam x).compat = true) : s.measWindow x errors kbits = s :=
  (if_neg hmeasure).trans (if_neg (by simpa [imp_iff_not_or] using hidle))

theorem exec_measWindow (t : TrunkId) :
    exec (.measWindow t errors kbits) s = act (fun u => u.measWindow t.val errors kbits) s := rfl

/-- Settles O23: in MEASURE the number of failing lanes decides, in service the idle lane alone is measured. -/
theorem measureEndSetsSkip : Obligations.MeasureEndSetsSkip := by
  intro s t errors kbits k p bits fails noted skip short i
  have hfails (n : Nat) : k.laneFails p.acceptPpb errors kbits n = true ↔ fails n := Trunk.laneFails_iff
  refine ⟨fun hphase => ⟨fun hnative hnone => ?noneFails, fun n hn hnative hn' honly => ?oneFails,
    fun m hm n hn hnative hne hm' hn' => ?twoFail, fun n hn hcompat hn' => ?compatFails,
    fun hcompat hnone => ?compatPasses⟩, fun hphase hnative => ?active, fun hmeasure hidle => ?other⟩ <;>
    refine State.settlesTo_of_act (exec_measWindow t) ?_
  case noneFails =>
    have hnil : s.start.failing t.val errors kbits = [] :=
      filter_range_eq_nil fun n hn => (hfails n).not.mpr (hnone n hn)
    rw [State.measWindow_of_native (s := s.start) hphase hnative, hnil]
    rfl
  case oneFails =>
    have hone : s.start.failing t.val errors kbits = [n] :=
      filter_range_eq_singleton hn ((hfails n).mpr hn') fun m hm hm' => honly m hm ((hfails m).mp hm')
    rw [State.measWindow_of_native (s := s.start) hphase hnative, hone]
    rfl
  case twoFail =>
    obtain ⟨a, b, l, htwo⟩ := filter_range_two hm hn hne ((hfails m).mpr hm') ((hfails n).mpr hn')
    have htwo' : s.start.failing t.val errors kbits = a :: b :: l := htwo
    rw [State.measWindow_of_native (s := s.start) hphase hnative, htwo']
    rfl
  case compatFails =>
    have hany : (s.start.failing t.val errors kbits).any (· < 8) = true :=
      List.any_eq_true.mpr ⟨n, mem_filter_range.mpr ⟨by omega, (hfails n).mpr hn'⟩, by simpa using hn⟩
    rw [State.measWindow_of_compat (s := s.start) hphase hcompat, if_pos hany]
    rfl
  case compatPasses =>
    have hall : ¬ (s.start.failing t.val errors kbits).any (· < 8) = true := by
      intro hany
      obtain ⟨n, hn, hlt⟩ := List.any_eq_true.mp hany
      exact hnone n (by simpa using hlt) ((hfails n).mp (mem_filter_range.mp hn).2)
    rw [State.measWindow_of_compat (s := s.start) hphase hcompat, if_neg hall]
    rfl
  case active => exact State.measWindow_of_active (s := s.start) hphase hnative
  case other => exact State.measWindow_ignored (s := s.start) hmeasure hidle

end Sys2Proof.Machine
end

section
/-! Trunk bring-up: locks, announcements, INITs and delays (R257, R259, R260, R262). -/

namespace Sys2Proof.Machine

variable {s : State} {x : Nat}

/-! ### LOCK (R256, R257) -/

theorem State.laneLocked_ignored {n : Nat} (hstopped : (s.trunk x).phase = .off ∨ (s.trunk x).phase = .held) :
    s.laneLocked x n = s := if_pos hstopped

theorem State.laneLocked_of_running {n : Nat} (hoff : (s.trunk x).phase ≠ .off) (hheld : (s.trunk x).phase ≠ .held) :
    s.laneLocked x n =
      let l := (s.trunk x).locked ||| BitVec.ofNat 9 (2 ^ n)
      s.updTrunk x fun k =>
        { k with locked := l, phase := if k.phase = .lock ∧ l = 0x1FF then .measure else k.phase
                 txClock := if (s.trunkParam x).compat then (List.range 9).find? l.toNat.testBit else none } :=
  if_neg (not_or.mpr ⟨hoff, hheld⟩)

/-- Lanes that must be locked when LOCK_TIMEOUT expires. -/
def State.lanesNeeded (s : State) (x : Nat) : Nat := if (s.trunkParam x).compat then 1 else 8

theorem State.lockTimeout_ignored (hphase : (s.trunk x).phase ≠ .lock) : s.lockTimeout x = s := if_pos hphase

theorem State.lockTimeout_fails (hphase : (s.trunk x).phase = .lock)
    (hfew : popcount (s.trunk x).locked.toNat 9 < s.lanesNeeded x) : s.lockTimeout x = s.failAttempt x 1 :=
  (if_neg (not_not.mpr hphase)).trans (if_neg (Nat.not_le.mpr hfew))

theorem State.lockTimeout_measures (hphase : (s.trunk x).phase = .lock)
    (henough : s.lanesNeeded x ≤ popcount (s.trunk x).locked.toNat 9) :
    s.lockTimeout x = s.updTrunk x fun k => { k with phase := .measure } :=
  (if_neg (not_not.mpr hphase)).trans (if_pos henough)

/-! ### LANE_ANN (R259, R260, R263) -/

section
variable {b : LaneAnnBlock}

theorem State.laneAnnIn_of_few (hfew : b.lanesAgreeing < 5) : s.laneAnnIn x b = s :=
  (if_neg fun h => absurd hfew (Nat.not_lt.mpr h.1)).trans (if_pos hfew)

theorem State.laneAnnIn_of_notActive (hphase : (s.trunk x).phase ≠ .active) : s.laneAnnIn x b = s.laneAnn x b :=
  if_neg fun h => hphase h.2

variable (hagree : 5 ≤ b.lanesAgreeing)
include hagree

theorem State.laneAnnIn_of_active (hphase : (s.trunk x).phase = .active) : s.laneAnnIn x b = s.leaveActive x 0x11 :=
  if_pos ⟨hagree, hphase⟩

theorem State.laneAnnIn_of_early (hphase : (s.trunk x).phase = .lock ∨ (s.trunk x).phase = .measure) : s.laneAnnIn x b =
    s.emit (.flit x 16 (annGroup (s.trunk x).rxSkip false false (s.trunkParam x).compat (s.trunkParam x).rate)) := by
  rw [State.laneAnnIn_of_notActive (by rcases hphase with h | h <;> simp [h])]
  exact (if_neg (Nat.not_lt.mpr hagree)).trans (if_pos hphase)

theorem State.laneAnnIn_of_stopped
    (hphase : (s.trunk x).phase = .off ∨ (s.trunk x).phase = .held ∨ (s.trunk x).phase = .init) : s.laneAnnIn x b = s := by
  rw [State.laneAnnIn_of_notActive (by rcases hphase with h | h | h <;> simp [h])]
  refine (if_neg (Nat.not_lt.mpr hagree)).trans <| (if_neg ?_).trans (if_neg ?_)
  all_goals rcases hphase with h | h | h <;> simp [h]

variable (hphase : (s.trunk x).phase = .announce)
include hphase

/-- In ANNOUNCE the group is looked at. -/
theorem State.laneAnnIn_of_announce : s.laneAnnIn x b =
    if ¬ b.measured then
      (if (s.trunk x).remeasured then s
       else State.emit (State.emit (s.updTrunk x fun k => { k with remeasured := true }) (.flit x 17 []))
         (.flit x 16 (annGroup (s.trunk x).rxSkip true false (s.trunkParam x).compat (s.trunkParam x).rate)))
    else if b.rate.toNat ≠ (s.trunkParam x).rate ∨ b.compat ≠ (s.trunkParam x).compat then s.failAttempt x 5
    else State.sendInit (State.advertise (State.emit (s.free.2.free.2.updTrunk x fun k =>
      { k with phase := .init, txSkip := b.rxSkip.toNat, acked := false, flitBits := 0, sinceFiller := 0, prbsStart := s.free.1
               levels := (List.range 9).map fun i => field s.free.2.free.1 (2 * i) 2 })
      (.flit x 16 (annGroup (s.trunk x).rxSkip true true (s.trunkParam x).compat (s.trunkParam x).rate))) x) x := by
  rw [State.laneAnnIn_of_notActive (by simp [hphase])]
  exact (if_neg (Nat.not_lt.mpr hagree)).trans <| (if_neg (by simp [hphase])).trans (if_pos hphase)

theorem State.laneAnnIn_of_unmeasured_again (hmeasured : b.measured = false) (hagain : (s.trunk x).remeasured = true) :
    s.laneAnnIn x b = s :=
  (State.laneAnnIn_of_announce hagree hphase).trans <| (if_pos (by simp [hmeasured])).trans (if_pos hagain)

theorem State.laneAnnIn_of_unmeasured (hmeasured : b.measured = false) (hfirst : (s.trunk x).remeasured = false) :
    s.laneAnnIn x b =
      State.emit (State.emit (s.updTrunk x fun k => { k with remeasured := true }) (.flit x 17 []))
        (.flit x 16 (annGroup (s.trunk x).rxSkip true false (s.trunkParam x).compat (s.trunkParam x).rate)) :=
  (State.laneAnnIn_of_announce hagree hphase).trans <| (if_pos (by simp [hmeasured])).trans (if_neg (by simp [hfirst]))

variable (hmeasured : b.measured = true)
include hmeasured

theorem State.laneAnnIn_of_otherMode
    (hother : b.rate.toNat ≠ (s.trunkParam x).rate ∨ b.compat ≠ (s.trunkParam x).compat) :
    s.laneAnnIn x b = s.failAttempt x 5 :=
  (State.laneAnnIn_of_announce hagree hphase).trans <| (if_neg (not_not.mpr hmeasured)).trans (if_pos hother)

theorem State.laneAnnIn_of_agreed (hrate : b.rate.toNat = (s.trunkParam x).rate)
    (hcompat : b.compat = (s.trunkParam x).compat) :
    s.laneAnnIn x b = State.sendInit (State.advertise (State.emit (s.free.2.free.2.updTrunk x fun k =>
      { k with phase := .init, txSkip := b.rxSkip.toNat, acked := false, flitBits := 0, sinceFiller := 0, prbsStart := s.free.1
               levels := (List.range 9).map fun i => field s.free.2.free.1 (2 * i) 2 })
      (.flit x 16 (annGroup (s.trunk x).rxSkip true true (s.trunkParam x).compat (s.trunkParam x).rate))) x) x :=
  (State.laneAnnIn_of_announce hagree hphase).trans <|
    (if_neg (not_not.mpr hmeasured)).trans (if_neg (not_or.mpr ⟨not_not.mpr hrate, not_not.mpr hcompat⟩))

end

/-! ### INIT and INIT_TIMEOUT (R262, R293, R299) -/

section
variable {f : InitFields}

theorem State.initFlit_of_badCrc (hcrc : f.crcOk = false) : s.initFlit x f = s := if_pos (by simp [hcrc])

variable (hcrc : f.crcOk = true)
include hcrc

theorem State.initFlit_of_active (hphase : (s.trunk x).phase = .active) :
    s.initFlit x f = if (s.trunk x).answerInit then s.sendInit x else s :=
  (if_neg (not_not.mpr hcrc)).trans (if_pos hphase)

theorem State.initFlit_ignored (hactive : (s.trunk x).phase ≠ .active) (hinit : (s.trunk x).phase ≠ .init) :
    s.initFlit x f = s :=
  (if_neg (not_not.mpr hcrc)).trans <| (if_neg hactive).trans (if_pos hinit)

/-- What the INIT says of the partner is kept. -/
def State.partnerNoted (s : State) (x : Nat) (f : InitFields) : State :=
  s.updTrunk x fun k =>
    { k with partnerId := f.provisionedId, partnerRank := f.rank, partnerRankValid := f.rankValid, partnerTrunk := f.trunk }

/-- The first INIT of a partner with another recipe set is counted and logged (R262). -/
def State.setCompared (s : State) (x : Nat) (f : InitFields) (acked : Bool) : State :=
  if f.version = 2 ∧ acked = false
      ∧ (f.setId.toNat ≠ s.bank.setInfo.setId ∨ f.versionMajor.toNat < s.bank.setInfo.compatMin) then
    (s.countTrunk x 39).log 0x040A 1 [(1, x), (2, f.setId.toNat), (1, f.versionMajor.toNat)]
  else s

variable (hphase : (s.trunk x).phase = .init)
include hphase

theorem State.initFlit_of_failed {r : Nat} (hfails : (s.partnerNoted x f).initFails x f = some r) :
    s.initFlit x f = (s.partnerNoted x f).holdTrunk x r := by
  rw [State.initFlit, if_neg (not_not.mpr hcrc), if_neg (by simp [hphase]), if_neg (not_not.mpr hphase)]
  rw [State.partnerNoted] at hfails ⊢
  dsimp only
  rw [hfails]

theorem State.initFlit_of_passed (hpasses : (s.partnerNoted x f).initFails x f = none) :
    s.initFlit x f =
      let v := (((s.partnerNoted x f).setCompared x f (s.trunk x).acked).updTrunk x fun k => { k with acked := true }).sendInit x
      if f.acked then v.enterActive x f else v := by
  rw [State.initFlit, if_neg (not_not.mpr hcrc), if_neg (by simp [hphase]), if_neg (not_not.mpr hphase)]
  rw [State.partnerNoted] at hpasses ⊢
  dsimp only
  rw [hpasses]
  simp only [State.setCompared, Bool.not_eq_true]

end

theorem State.initTimeout_ignored (hphase : (s.trunk x).phase ≠ .init) : s.initTimeout x = s := if_pos hphase

theorem State.initTimeout_fails (hphase : (s.trunk x).phase = .init) (hfirst : (s.trunk x).resync = false) :
    s.initTimeout x = s.failAttempt x 3 :=
  (if_neg (not_not.mpr hphase)).trans (if_neg (by simp [hfirst]))

/-- Writing the log leaves the records of the trunks. -/
@[simp] theorem State.log_trunkParam (type : U16) (sev : Nat) (args : List (Nat × Nat)) (t : Nat) :
    (s.log type sev args).trunkParam t = s.trunkParam t := by
  simp only [State.trunkParam, State.log_trk]

theorem State.initTimeout_retires (hphase : (s.trunk x).phase = .init) (hresync : (s.trunk x).resync = true) :
    s.initTimeout x = State.freezeMaskable (State.updTrunk
      (State.failAttempt (s.log 0x0402 1 [(1, x), (1, 0x17), (6, (s.trunk x).partnerId.toNat)]) x 3) x fun k =>
        { k with resync := false, retired := (s.trunkParam x).enable }) 5 := by
  rw [State.initTimeout, if_neg (not_not.mpr hphase), if_pos hresync]
  simp only [State.log_trunkParam]

/-! ### RETRY_DELAY (R257, R406) -/

theorem State.retryDelay_ignored (hidle : (s.trunk x).retrying = false) : s.retryDelay x = s := if_neg (by simp [hidle])

theorem State.retryDelay_starts (hretrying : (s.trunk x).retrying = true) : s.retryDelay x = s.startTrunk x :=
  if_pos hretrying

theorem State.startTrunk_refused
    (hbars : s.bringUpMode = false ∨ (s.trunkParam x).enable = false ∨ s.sys.dieLost.toNat.testBit 4 = true) :
    s.startTrunk x = s := if_pos (by simpa using hbars)

theorem State.startTrunk_starts (hmode : s.bringUpMode = true) (henable : (s.trunkParam x).enable = true)
    (hdie : s.sys.dieLost.toNat.testBit 4 = false) : s.startTrunk x = s.updTrunk x fun k =>
      { k with phase := .lock, locked := 0, remeasured := false, retrying := false, acked := false, answerInit := false,
               rxSkip := 8, txSkip := 8, sparing := none, lanes := List.replicate 9 {}, spare := 3, txClock := none } :=
  if_neg (by simp [hmode, henable, hdie])

/-! ### What each command runs -/

section
variable (t : TrunkId)

theorem exec_laneLocked (n : Fin 9) : exec (.laneLocked t n) s = act (fun u => u.laneLocked t.val n.val) s := rfl
theorem exec_lockTimeout : exec (.lockTimeout t) s = act (fun u => u.lockTimeout t.val) s := rfl
theorem exec_laneAnn (b : LaneAnnBlock) : exec (.laneAnn t b) s = act (fun u => u.laneAnnIn t.val b) s := rfl
theorem exec_init (f : InitFields) : exec (.init t f) s = act (fun u => u.initFlit t.val f) s := rfl
theorem exec_initTimeout : exec (.initTimeout t) s = act (fun u => u.initTimeout t.val) s := rfl
theorem exec_retryDelay : exec (.retryDelay t) s = act (fun u => u.retryDelay t.val) s := rfl

end

/-- Settles O24: each clause is one branch of its event's act, by the phase of the trunk. -/
theorem trunkBringUpRunsItsStates : Obligations.TrunkBringUpRunsItsStates := by
  intro s t n b f k p l
  refine ⟨fun hphase => ?lockedIdle, fun hoff hheld => ?locked, fun hphase => ?timeoutIdle,
    fun hphase => ⟨fun hfew => ?timeoutFails, fun henough => ?timeoutMeasures⟩, fun hfew => ?annFew,
    fun hagree => ⟨fun hphase => ?annActive, fun hphase => ?annEarly, fun hidle => ?annIdle,
      fun hphase hmeasured hfirst => ?annAgain, fun hphase hmeasured hother => ?annMode,
      fun hphase hmeasured hrate hcompat => ?annAgreed⟩,
    fun hcrc => ?initBad, fun hcrc => ⟨fun hphase => ?initActive, fun hactive hinit => ?initIdle,
      fun hphase => ⟨fun r hfails => ?initFails, fun hpasses => ?initPasses⟩⟩,
    fun hphase => ?initTimeoutIdle, fun hphase => ⟨fun hfirst => ?initTimeoutFails, fun hresync => ?initTimeoutRetires⟩,
    fun hidle => ?retryIdle, fun hretrying => ?retry, State.startTrunk_refused, State.startTrunk_starts⟩
  case lockedIdle => exact State.settlesTo_of_act (exec_laneLocked t n) (State.laneLocked_ignored (s := s.start) hphase)
  case locked => exact State.settlesTo_of_act (exec_laneLocked t n) (State.laneLocked_of_running (s := s.start) hoff hheld)
  case timeoutIdle => exact State.settlesTo_of_act (exec_lockTimeout t) (State.lockTimeout_ignored (s := s.start) hphase)
  case timeoutFails => exact State.settlesTo_of_act (exec_lockTimeout t) (State.lockTimeout_fails (s := s.start) hphase hfew)
  case timeoutMeasures =>
    exact State.settlesTo_of_act (exec_lockTimeout t) (State.lockTimeout_measures (s := s.start) hphase henough)
  case annFew => exact State.settlesTo_of_act (exec_laneAnn t b) (State.laneAnnIn_of_few hfew)
  case annActive => exact State.settlesTo_of_act (exec_laneAnn t b) (State.laneAnnIn_of_active (s := s.start) hagree hphase)
  case annEarly => exact State.settlesTo_of_act (exec_laneAnn t b) (State.laneAnnIn_of_early (s := s.start) hagree hphase)
  case annIdle =>
    refine State.settlesTo_of_act (exec_laneAnn t b) ?_
    obtain hoff | hheld | hinit | ⟨hphase, hmeasured, hagain⟩ := hidle
    · exact State.laneAnnIn_of_stopped (s := s.start) hagree (.inl hoff)
    · exact State.laneAnnIn_of_stopped (s := s.start) hagree (.inr (.inl hheld))
    · exact State.laneAnnIn_of_stopped (s := s.start) hagree (.inr (.inr hinit))
    · exact State.laneAnnIn_of_unmeasured_again (s := s.start) hagree hphase hmeasured hagain
  case annAgain =>
    exact State.settlesTo_of_act (exec_laneAnn t b) (State.laneAnnIn_of_unmeasured (s := s.start) hagree hphase hmeasured hfirst)
  case annMode =>
    exact State.settlesTo_of_act (exec_laneAnn t b) (State.laneAnnIn_of_otherMode (s := s.start) hagree hphase hmeasured hother)
  case annAgreed =>
    exact State.settlesTo_of_act (exec_laneAnn t b)
      (State.laneAnnIn_of_agreed (s := s.start) hagree hphase hmeasured hrate hcompat)
  case initBad => exact State.settlesTo_of_act (exec_init t f) (State.initFlit_of_badCrc hcrc)
  case initActive => exact State.settlesTo_of_act (exec_init t f) (State.initFlit_of_active (s := s.start) hcrc hphase)
  case initIdle => exact State.settlesTo_of_act (exec_init t f) (State.initFlit_ignored (s := s.start) hcrc hactive hinit)
  case initFails => exact State.settlesTo_of_act (exec_init t f) (State.initFlit_of_failed (s := s.start) hcrc hphase hfails)
  case initPasses => exact State.settlesTo_of_act (exec_init t f) (State.initFlit_of_passed (s := s.start) hcrc hphase hpasses)
  case initTimeoutIdle => exact State.settlesTo_of_act (exec_initTimeout t) (State.initTimeout_ignored (s := s.start) hphase)
  case initTimeoutFails =>
    exact State.settlesTo_of_act (exec_initTimeout t) (State.initTimeout_fails (s := s.start) hphase hfirst)
  case initTimeoutRetires =>
    exact State.settlesTo_of_act (exec_initTimeout t) (State.initTimeout_retires (s := s.start) hphase hresync)
  case retryIdle => exact State.settlesTo_of_act (exec_retryDelay t) (State.retryDelay_ignored (s := s.start) hidle)
  case retry => exact State.settlesTo_of_act (exec_retryDelay t) (State.retryDelay_starts (s := s.start) hretrying)

end Sys2Proof.Machine
end

section
/-! Trunks that leave ACTIVE, the wait for a failover report, and lanes that are measured and spared (R263, R266 to R269, R294 to
R299). -/

namespace Sys2Proof.Machine

variable {s : State} {x : Nat}

/-! ### Leaving ACTIVE (R263, R294, R297, R299) -/

theorem State.leaveActive_of_notActive {reason : Nat} (hphase : (s.trunk x).phase ≠ .active) : s.leaveActive x reason = s :=
  if_pos hphase

/-- The open flit of trunk x closes, and its end is logged with the reason. -/
def State.leaveLogged (s : State) (x reason : Nat) : State :=
  (s.closeFlit x).log 0x0402 1 [(1, x), (1, reason), (6, (s.trunk x).partnerId.toNat)]

/-- Trunk x is off; an open flit that the full replay buffer held back is kept as its last one. -/
def State.trunkOff (s : State) (x : Nat) : State :=
  s.updTrunk x fun r => { r with
    phase := .off, retired := (s.trunkParam x).enable, resync := false, sparing := none
    replay := r.replay ++ (if r.openFlit.isEmpty then [] else [{ seq := r.next, type := 2, msgs := r.openFlit }])
    openFlit := [], ctl := [] }

/-- The retirement of an enabled trunk asks for a freeze. -/
def State.freezeIfEnabled (s : State) (x : Nat) : State := if (s.trunkParam x).enable then s.freezeMaskable 5 else s

/-- The traffic of trunk x, which held `k` as it went down, moves to its ACTIVE partner trunk, or the pair is lost. -/
def State.failOver (s : State) (x : Nat) (k : Trunk) : State :=
  if s.mateActive x then
    State.sendCtl (((s.countTrunk x 29).moveQueues x (x ^^^ 1)).updTrunk x fun r => { r with move := 2, fenceOn := none })
      (x ^^^ 1) 7 [pack [(8, 2), (12, (k.expect - 1).toNat), (1, b2n k.accepted)]]
  else s.pairLost x

theorem State.leaveActive_of_active {reason : Nat} (hphase : (s.trunk x).phase = .active) :
    s.leaveActive x reason =
      ((((s.leaveLogged x reason).trunkOff x).freezeIfEnabled x).failOver x ((s.leaveLogged x reason).trunk x)).startTrunk x :=
  if_neg (not_not.mpr hphase)

/-! ### FAILOVER_WAIT (R296) -/

theorem State.failoverWait_ignored (hmove : (s.trunk x).move ≠ 2) : s.failoverWait x = s := if_pos hmove

/-- What trunk x had sent and its partner has not accepted is counted as lost. -/
def State.shedReplay (s : State) (x : Nat) (ms : List TrunkMsg) : State :=
  State.log (State.count (s.updTrunk x fun r => { r with move := 1, replay := [] }) (trunkCtr x 31) ms.length)
    0x0406 1 [(1, x), (2, 0), (1, 0), (4, 0), (4, ms.length)]

/-- A transaction that waits for an answer over a link takes an error. -/
def State.takeError (s : State) (i : Nat) : State :=
  let t := s.txn i
  if t.state = .waitRsp ∧ (t.wait = .remote ∨ t.wait = .response) ∧ t.got < t.expect then
    (s.updTxn i fun t => { t with got := t.got + 1, errSeen := true }).wake i
  else s

theorem State.failoverWait_sheds (hmove : (s.trunk x).move = 2) :
    s.failoverWait x =
      let ms := (s.trunk x).unaccepted 0 false
      State.resumePair { (ms.filterMap (·.txn)).foldl State.takeError (s.shedReplay x ms) with dp.freed := true } (x ^^^ 1) :=
  if_neg (not_not.mpr hmove)

/-! ### LANE_LOCK_LOSS (R263, R268) -/

section
variable {n : Nat}

/-- Lane n of trunk x has lost lock. -/
def State.laneUnlocked (s : State) (x n : Nat) : State :=
  s.updTrunk x fun k => { k with locked := (s.trunk x).locked &&& ~~~ BitVec.ofNat 9 (2 ^ n) }

/-- The data lanes of trunk x without lock once lane n has lost it. -/
def State.lanesLost (s : State) (x n : Nat) : List Nat :=
  (List.range 9).filter fun i =>
    i != (s.trunk x).rxSkip && !((s.trunk x).locked &&& ~~~ BitVec.ofNat 9 (2 ^ n)).toNat.testBit i

theorem State.laneLost_of_notActive (hphase : (s.trunk x).phase ≠ .active) : s.laneLost x n = s.laneUnlocked x n :=
  if_pos hphase

variable (hphase : (s.trunk x).phase = .active)
include hphase

theorem State.laneLost_of_compat (hcompat : (s.trunkParam x).compat = true) :
    s.laneLost x n = (s.laneUnlocked x n).leaveActive x 0x12 :=
  (if_neg (not_not.mpr hphase)).trans (if_pos hcompat)

variable (hnative : (s.trunkParam x).compat = false)
include hnative

/-- In native mode the idle lane or the number of data lanes lost decides. -/
theorem State.laneLost_of_native : s.laneLost x n =
    if n = (s.trunk x).rxSkip then (s.laneUnlocked x n).updTrunk x fun k => { k with spare := 1 }
    else if 2 ≤ (s.lanesLost x n).length then (s.laneUnlocked x n).leaveActive x 0x12
    else (s.laneUnlocked x n).spareLane x n :=
  (if_neg (not_not.mpr hphase)).trans (if_neg (Bool.not_eq_true _ ▸ hnative))

theorem State.laneLost_of_idle (hidle : n = (s.trunk x).rxSkip) :
    s.laneLost x n = (s.laneUnlocked x n).updTrunk x fun k => { k with spare := 1 } :=
  (State.laneLost_of_native hphase hnative).trans (if_pos hidle)

theorem State.laneLost_of_second (hdata : n ≠ (s.trunk x).rxSkip) (htwo : 2 ≤ (s.lanesLost x n).length) :
    s.laneLost x n = (s.laneUnlocked x n).leaveActive x 0x12 :=
  (State.laneLost_of_native hphase hnative).trans <| (if_neg hdata).trans (if_pos htwo)

theorem State.laneLost_of_first (hdata : n ≠ (s.trunk x).rxSkip) (hone : (s.lanesLost x n).length < 2) :
    s.laneLost x n = (s.laneUnlocked x n).spareLane x n :=
  (State.laneLost_of_native hphase hnative).trans <| (if_neg hdata).trans (if_neg (Nat.not_le.mpr hone))

end

/-! ### QUALITY_INTERVAL (R266 to R268) -/

section
variable {corr : List Nat} {joined : Option (Fin 9 × U32)} {kbits : U32}

theorem State.qualityInterval_ignored (hphase : (s.trunk x).phase ≠ .active) : s.qualityInterval x corr joined kbits = s :=
  if_pos hphase

/-- The registers of the lanes hold the interval. -/
def State.intervalNoted (s : State) (x : Nat) (corr : List Nat) (joined : Option (Fin 9 × U32)) (kbits : U32) : State :=
  s.updTrunk x fun r => { r with lanes := r.lanes.zipIdx.map fun q =>
    if q.2 = r.rxSkip then { q.1 with fecCorr := 0, fecKbits := 0, bad := 0 }
    else { q.1 with
      fecCorr := BitVec.ofNat 32 (corr.getD q.2 0), fecKbits := (carried joined kbits q.2).toNat
      bad := if ratePasses (corr.getD q.2 0) (carried joined kbits q.2).toNat (s.trunkParam x).sparePpb then 0
        else q.1.bad + 1 } }

/-- The data lanes that have failed three intervals; `skip` is the idle lane. -/
def State.lanesDue (s : State) (x skip : Nat) : List Nat :=
  (List.range 9).filter fun n => n != skip && decide (3 ≤ ((s.trunk x).lanes.getD n {}).bad)

/-- The worst of some lanes, the lowest-numbered of equals. -/
def State.worstLane (s : State) (x : Nat) (due : List Nat) : Option Nat :=
  due.foldl (fun b n => match b with
    | none => some n
    | some m => if rateLt (s.laneRate x m) (s.laneRate x n) then some n else some m) none

theorem State.qualityInterval_of_active (hphase : (s.trunk x).phase = .active) :
    s.qualityInterval x corr joined kbits =
      let v := s.intervalNoted x corr joined kbits
      match v.worstLane x (v.lanesDue x (s.trunk x).rxSkip) with
      | none => v
      | some n => v.spareLane x n :=
  if_neg (not_not.mpr hphase)

theorem State.lanesDue_eq_nil {skip : Nat}
    (hnone : ∀ m < 9, m = skip ∨ ((s.trunk x).lanes.getD m {}).bad < 3) : s.lanesDue x skip = [] := by
  rw [State.lanesDue]
  refine filter_range_eq_nil fun n hn => ?_
  simp only [ne_eq, Bool.and_eq_true, bne_iff_ne, decide_eq_true_eq, not_and, Nat.not_le]
  exact fun hdata => (hnone n hn).resolve_left hdata

theorem State.qualityInterval_passes (hphase : (s.trunk x).phase = .active)
    (hdue : (s.intervalNoted x corr joined kbits).lanesDue x (s.trunk x).rxSkip = []) :
    s.qualityInterval x corr joined kbits = s.intervalNoted x corr joined kbits := by
  rw [State.qualityInterval_of_active hphase]
  dsimp only
  rw [hdue]
  rfl

theorem State.qualityInterval_spares {m : Nat} (hphase : (s.trunk x).phase = .active)
    (hworst : (s.intervalNoted x corr joined kbits).worstLane x
      ((s.intervalNoted x corr joined kbits).lanesDue x (s.trunk x).rxSkip) = some m) :
    s.qualityInterval x corr joined kbits = (s.intervalNoted x corr joined kbits).spareLane x m := by
  rw [State.qualityInterval_of_active hphase]
  dsimp only
  rw [hworst]

end

/-! ### Sparing (R268, R269) -/

section
variable {m : Nat}

theorem State.spareLane_ignored (hidle : (s.trunk x).sparing.isSome = true ∨ (s.trunkParam x).compat = true) :
    s.spareLane x m = s := if_pos hidle

variable (hfree : (s.trunk x).sparing = none) (hnative : (s.trunkParam x).compat = false)
include hfree hnative

theorem State.spareLane_spares (hfit : 2 ≤ s.laneQuality x (s.trunk x).rxSkip)
    (hbetter : rateLt (s.laneRate x (s.trunk x).rxSkip) (s.laneRate x m) = true) :
    s.spareLane x m = (s.updTrunk x fun k => { k with spare := 2, sparing := some m }).sendCtl x 3 [pack [(8, 1), (4, m)]] :=
  (if_neg (by simp [hfree, hnative])).trans (if_pos ⟨hfit, hbetter⟩)

theorem State.spareLane_refuses (hunfit : s.laneQuality x (s.trunk x).rxSkip < 2
      ∨ rateLt (s.laneRate x (s.trunk x).rxSkip) (s.laneRate x m) = false) :
    s.spareLane x m = ((s.updTrunk x fun k => { k with spare := 1 }).countTrunk x 36).log 0x0405 1
      [(1, x), (1, (s.trunk x).rxSkip), (1, m), (4, rateWord (s.laneRate x (s.trunk x).rxSkip)),
        (4, rateWord (s.laneRate x m))] := by
  refine (if_neg (by simp [hfree, hnative])).trans (if_neg ?_)
  rintro ⟨hfit, hbetter⟩
  rcases hunfit with hlow | hworse
  · exact absurd hfit (Nat.not_le.mpr hlow)
  · simp [hworse] at hbetter

end

/-! ### What each command runs -/

section
variable (t : TrunkId)

theorem exec_goodCrcTimeout : exec (.goodCrcTimeout t) s = act (fun u => u.leaveActive t.val 0x10) s := rfl
theorem exec_syncPatternSeen : exec (.syncPatternSeen t) s = act (fun u => u.leaveActive t.val 0x11) s := rfl
theorem exec_failoverWait : exec (.failoverWait t) s = act (fun u => u.failoverWait t.val) s := rfl
theorem exec_laneLockLoss (n : Fin 9) : exec (.laneLockLoss t n) s = act (fun u => u.laneLost t.val n.val) s := rfl
theorem exec_qualityInterval (corr : List Nat) (joined : Option (Fin 9 × U32)) (kbits : U32) :
    exec (.qualityInterval t corr joined kbits) s = act (fun u => u.qualityInterval t.val corr joined kbits) s := rfl

end

/-- Settles O25: each clause is one branch of its event's act, or of the leaving and sparing that the events share. -/
theorem trunksLeaveActiveAndFailOver : Obligations.TrunksLeaveActiveAndFailOver := by
  intro s t n corr joined kbits k p
  refine ⟨State.settlesTo_of_act (exec_goodCrcTimeout t) rfl, State.settlesTo_of_act (exec_syncPatternSeen t) rfl,
    fun u x r hphase => State.leaveActive_of_notActive hphase, fun u x r hphase => State.leaveActive_of_active hphase,
    fun hmove => ?waitIdle, fun hmove => ?waitSheds,
    ⟨fun hphase => ?lostIdle, fun hphase hcompat => ?lostCompat, fun hphase hnative hidle => ?lostSpare,
      fun hphase hnative hdata htwo => ?lostSecond, fun hphase hnative hdata hone => ?lostFirst⟩,
    fun hphase => ?qualityIdle, fun hphase => ⟨fun hnone => ?qualityGood, fun m hworst => ?qualityBad⟩,
    fun u x m => ⟨State.spareLane_ignored, fun hfree hnative =>
      ⟨State.spareLane_spares hfree hnative, State.spareLane_refuses hfree hnative⟩⟩⟩
  case waitIdle => exact State.settlesTo_of_act (exec_failoverWait t) (State.failoverWait_ignored (s := s.start) hmove)
  case waitSheds => exact State.settlesTo_of_act (exec_failoverWait t) (State.failoverWait_sheds (s := s.start) hmove)
  case lostIdle => exact State.settlesTo_of_act (exec_laneLockLoss t n) (State.laneLost_of_notActive (s := s.start) hphase)
  case lostCompat =>
    exact State.settlesTo_of_act (exec_laneLockLoss t n) (State.laneLost_of_compat (s := s.start) hphase hcompat)
  case lostSpare =>
    exact State.settlesTo_of_act (exec_laneLockLoss t n) (State.laneLost_of_idle (s := s.start) hphase hnative hidle)
  case lostSecond =>
    exact State.settlesTo_of_act (exec_laneLockLoss t n) (State.laneLost_of_second (s := s.start) hphase hnative hdata htwo)
  case lostFirst =>
    exact State.settlesTo_of_act (exec_laneLockLoss t n) (State.laneLost_of_first (s := s.start) hphase hnative hdata hone)
  case qualityIdle =>
    exact State.settlesTo_of_act (exec_qualityInterval t corr joined kbits)
      (State.qualityInterval_ignored (s := s.start) hphase)
  case qualityGood =>
    exact State.settlesTo_of_act (exec_qualityInterval t corr joined kbits)
      (State.qualityInterval_passes (s := s.start) hphase (State.lanesDue_eq_nil hnone))
  case qualityBad =>
    exact State.settlesTo_of_act (exec_qualityInterval t corr joined kbits)
      (State.qualityInterval_spares (s := s.start) hphase hworst)

end Sys2Proof.Machine
end

section
/-! The reception of flits in sequence, and the timers of the link layer (R273, R279, R281 to R284, R290 to R293, R302). -/

namespace Sys2Proof.Machine

variable {s : State} {x : Nat}

/-! ### Reception (R279, R281) -/

section
variable {hd : FlitHdr} {carries seqd : Bool} {body : State → State}

theorem State.flitIn_of_notActive (hphase : (s.trunk x).phase ≠ .active) : s.flitIn x hd carries seqd body = s :=
  if_pos hphase

/-- The fields of a header whose CRC has passed have acted, and INITs are no longer answered. -/
def State.headerTaken (s : State) (x : Nat) (hd : FlitHdr) (carries : Bool) : State :=
  (s.updTrunk x fun k => { k with answerInit := false }).headerFields x hd carries

/-- How far SEQ is behind the receiver's E. -/
def State.seqBehind (s : State) (x : Nat) (hd : FlitHdr) : Nat := ((s.trunk x).expect - hd.seq).toNat

theorem State.one_le_seqBehind (hturn : hd.seq ≠ (s.trunk x).expect) : 1 ≤ s.seqBehind x hd := by
  rw [State.seqBehind]
  bv_omega

variable (hphase : (s.trunk x).phase = .active)
include hphase

theorem State.flitIn_of_badCrc (hcrc : hd.crcOk = false) :
    s.flitIn x hd carries seqd body = (s.countTrunk x 18).sendNak x :=
  (if_neg (not_not.mpr hphase)).trans (if_pos (by simp [hcrc]))

variable (hcrc : hd.crcOk = true)
include hcrc

/-- The header of a good flit acts first, and may take the trunk down. -/
theorem State.flitIn_of_left (hleft : ((s.headerTaken x hd carries).trunk x).phase ≠ .active) :
    s.flitIn x hd carries seqd body = s.headerTaken x hd carries :=
  (if_neg (not_not.mpr hphase)).trans <| (if_neg (not_not.mpr hcrc)).trans (if_pos hleft)

variable (hstays : ((s.headerTaken x hd carries).trunk x).phase = .active)
include hstays

theorem State.flitIn_of_unsequenced :
    s.flitIn x hd carries false body = body (s.headerTaken x hd carries) :=
  (if_neg (not_not.mpr hphase)).trans <| (if_neg (not_not.mpr hcrc)).trans <|
    (if_neg (not_not.mpr hstays)).trans (if_pos Bool.false_ne_true)

/-- A sequenced flit acts in its turn, is a duplicate, or asks for a replay. -/
theorem State.flitIn_of_sequenced : s.flitIn x hd carries true body =
    let v := s.headerTaken x hd carries
    if hd.seq = (v.trunk x).expect then body v
    else if 1 ≤ v.seqBehind x hd ∧ v.seqBehind x hd ≤ 2048 then
      (v.countTrunk x 19).updTrunk x fun k => { k with ackDue := true }
    else v.sendNak x :=
  (if_neg (not_not.mpr hphase)).trans <| (if_neg (not_not.mpr hcrc)).trans <|
    (if_neg (not_not.mpr hstays)).trans (if_neg (not_not.mpr rfl))

end

/-! ### How a command takes a flit -/

section
variable {i : Instr} {hd : FlitHdr} {carries seqd : Bool} {body : State → State} {rest : State → Prop}

/-- How command `i` takes a flit of trunk x: not outside ACTIVE, with a bad CRC by asking for a replay, and otherwise its header acts;
`rest` is what follows while the trunk stays ACTIVE. -/
def State.takesFlit (s : State) (i : Instr) (x : Nat) (hd : FlitHdr) (carries : Bool) (rest : State → Prop) : Prop :=
  ((s.trunk x).phase ≠ .active → s.ignores i)
  ∧ ((s.trunk x).phase = .active → hd.crcOk = false → s.settlesTo i ((s.start.countTrunk x 18).sendNak x))
  ∧ ((s.trunk x).phase = .active → hd.crcOk = true →
    let v := s.start.headerTaken x hd carries
    ((v.trunk x).phase ≠ .active → s.settlesTo i v) ∧ ((v.trunk x).phase = .active → rest v))

variable (hexec : exec i s = act (fun t => t.flitIn x hd carries seqd body) s)
include hexec

theorem State.takesFlit_of_exec
    (hrest : (s.trunk x).phase = .active → hd.crcOk = true →
      ((s.start.headerTaken x hd carries).trunk x).phase = .active → rest (s.start.headerTaken x hd carries)) :
    s.takesFlit i x hd carries rest := by
  refine ⟨fun hphase => ?closed, fun hphase hcrc => ?bad, fun hphase hcrc =>
    ⟨fun hleft => ?left, hrest hphase hcrc⟩⟩
  case closed => exact State.settlesTo_of_act hexec (State.flitIn_of_notActive (s := s.start) hphase)
  case bad => exact State.settlesTo_of_act hexec (State.flitIn_of_badCrc (s := s.start) hphase hcrc)
  case left => exact State.settlesTo_of_act hexec (State.flitIn_of_left (s := s.start) hphase hcrc hleft)

omit hexec

theorem State.takesFlit_of_unsequenced (hexec : exec i s = act (fun t => t.flitIn x hd carries false body) s) :
    s.takesFlit i x hd carries fun v => s.settlesTo i (body v) :=
  State.takesFlit_of_exec hexec fun hphase hcrc hstays =>
    State.settlesTo_of_act hexec (State.flitIn_of_unsequenced (s := s.start) hphase hcrc hstays)

/-- A sequenced flit acts with SEQ at the receiver's E, one up to 2,048 behind is a duplicate, and another asks for a replay. -/
theorem State.takesFlit_of_sequenced (hexec : exec i s = act (fun t => t.flitIn x hd carries true body) s) :
    s.takesFlit i x hd carries fun v =>
      (hd.seq = (v.trunk x).expect → s.settlesTo i (body v))
      ∧ (hd.seq ≠ (v.trunk x).expect → v.seqBehind x hd ≤ 2048 →
        s.settlesTo i ((v.countTrunk x 19).updTrunk x fun k => { k with ackDue := true }))
      ∧ (2048 < v.seqBehind x hd → s.settlesTo i (v.sendNak x)) := by
  refine State.takesFlit_of_exec hexec fun hphase hcrc hstays => ⟨fun hturn => ?_, fun hturn hnear => ?_, fun hfar => ?_⟩ <;>
    refine State.settlesTo_of_act hexec ((State.flitIn_of_sequenced (s := s.start) hphase hcrc hstays).trans ?_)
  · exact if_pos hturn
  · exact (if_neg hturn).trans (if_pos ⟨State.one_le_seqBehind hturn, hnear⟩)
  · have hturn : hd.seq ≠ ((s.start.headerTaken x hd carries).trunk x).expect := by
      intro heq
      simp [State.seqBehind, heq] at hfar
    exact (if_neg hturn).trans (if_neg fun hnear => absurd hnear.2 (Nat.not_le.mpr hfar))

end

/-! ### PAYLOAD beyond the credits returned (R290) -/

theorem State.payloadBody_of_excess {ms : List (MsgClass × Msg)}
    (hexcess : ∃ i < 8, (((s.trunk x).ret.getD i 0 - (s.trunk x).rcv.getD i 0).toNat
      < ((ms.foldl (fun l m => addCredits l (clsNo m.1) m.2) (List.replicate 8 (0 : U16))).getD i 0).toNat)) :
    s.payloadBody x ms = (s.countTrunk x 25).leaveActive x 0x15 := by
  obtain ⟨i, hi, hlack⟩ := hexcess
  exact if_pos (List.any_eq_true.mpr ⟨i, List.mem_range.mpr hi, decide_eq_true hlack⟩)

/-! ### Reserved types and timers (R273, R284, R302) -/

theorem State.reservedFlit_of_active (hphase : (s.trunk x).phase = .active) : s.reservedFlit x = s.countTrunk x 24 :=
  if_pos hphase

theorem State.reservedFlit_ignored (hphase : (s.trunk x).phase ≠ .active) : s.reservedFlit x = s := if_neg hphase

theorem State.replayTimer_ignored (hidle : (s.trunk x).phase ≠ .active ∨ (s.trunk x).outstanding = 0) : s.replayTimer x = s :=
  if_pos hidle

/-- An expiry of REPLAY_TIMER is counted. -/
def State.expiryCounted (s : State) (x : Nat) : State :=
  (s.countTrunk x 21).updTrunk x fun k => { k with expiries := (s.trunk x).expiries + 1 }

section
variable (hphase : (s.trunk x).phase = .active) (hsent : (s.trunk x).outstanding ≠ 0)
include hphase hsent

theorem State.replayTimer_fails (hlimit : (s.trunkParam x).replayLimit ≤ (s.trunk x).expiries + 1) :
    s.replayTimer x = (s.expiryCounted x).leaveActive x (if (s.trunk x).resync then 0x17 else 0x14) :=
  (if_neg (not_or.mpr ⟨not_not.mpr hphase, hsent⟩)).trans (if_pos hlimit)

theorem State.replayTimer_replays (hlimit : (s.trunk x).expiries + 1 < (s.trunkParam x).replayLimit) :
    s.replayTimer x = (s.expiryCounted x).replayPass x := by
  have hmore : ¬ (s.trunkParam x).replayLimit ≤ (s.trunk x).expiries + 1 := Nat.not_le.mpr hlimit
  exact (if_neg (not_or.mpr ⟨not_not.mpr hphase, hsent⟩)).trans (if_neg hmore)

end

theorem State.timePeriod_ignored (hphase : (s.trunk x).phase ≠ .active) : s.timePeriod x = s := if_pos hphase

theorem State.timePeriod_asks (hphase : (s.trunk x).phase = .active) :
    s.timePeriod x =
      let v := State.chooseRoot (s.updTrunk x fun k => { k with exch := k.exch + 1, t1 := some s.sys.ft })
      let r := v.trk.root
      v.sendFlit x 5 0 false [pack [(1, 0), (7, 0), (8, (v.trunk x).exch.toNat), (48, r.id.toNat), (4, r.rank),
        (1, b2n r.rankValid), (1, b2n r.pps), (4, v.trk.hops), (1, b2n (v.isRoot || v.trk.synced))]] :=
  if_neg (not_not.mpr hphase)

/-! ### What each command runs -/

section
variable (t : TrunkId) (hd : FlitHdr)

theorem exec_idle : exec (.idle t hd) s = act (fun u => u.flitIn t.val hd true false id) s := rfl
theorem exec_time (f : TimeFields) :
    exec (.time t hd f) s = act (fun u => u.flitIn t.val hd true false fun v => v.timeBody t.val f) s := rfl
theorem exec_payload (ms : List (MsgClass × Msg)) :
    exec (.payload t hd ms) s = act (fun u => u.flitIn t.val hd true true fun v => v.payloadBody t.val ms) s := rfl
theorem exec_laneCtl (sk : BitVec 4) :
    exec (.laneCtl t hd sk) s = act (fun u => u.flitIn t.val hd true true fun v => v.laneCtlBody t.val sk.toNat) s := rfl
theorem exec_audit (used : List U16) :
    exec (.audit t hd used) s = act (fun u => u.flitIn t.val hd true true fun v => v.auditBody t.val used) s := rfl
theorem exec_failover (last : BitVec 12) (any : Bool) :
    exec (.failover t hd last any) s = act (fun u => u.flitIn t.val hd true true fun v => v.failoverBody t.val last any) s :=
  rfl
theorem exec_resyncReq (why : Byte) :
    exec (.resyncReq t hd why) s = act (fun u => u.flitIn t.val hd true true fun v => v.resyncBody t.val) s := rfl
theorem exec_filler : exec (.filler t) s = .next s.start := rfl
theorem exec_llTypeReserved : exec (.llTypeReserved t) s = .next (s.start.reservedFlit t.val) := rfl
theorem exec_ackTimer : exec (.ackTimer t) s = act (fun u => u.ackTimer t.val) s := rfl
theorem exec_replayTimer : exec (.replayTimer t) s = act (fun u => u.replayTimer t.val) s := rfl
theorem exec_auditPeriod : exec .auditPeriod s = act (fun u => u.auditPeriod) s := rfl
theorem exec_timePeriod : exec (.timePeriod t) s = act (fun u => u.timePeriod t.val) s := rfl

end

/-- Settles O26: every flit goes through the one reception, sequenced or not, and each timer is one branch of its act. -/
theorem trunkFlitsAreTakenInSequence : Obligations.TrunkFlitsAreTakenInSequence := by
  intro s t hd ms sk f used last any why k opened taken inTurn
  refine ⟨?idle, ?time, ?payload, ?laneCtl, ?audit, ?failover, ?resyncReq, fun v => State.payloadBody_of_excess, exec_filler t,
    fun hphase => ?reserved, fun hphase => ?notReserved, State.settlesTo_of_act (exec_ackTimer t) rfl, fun hidle => ?replayIdle,
    fun hphase hsent => ⟨fun hlimit => ?replayFails, fun hlimit => ?replays⟩, State.settlesTo_of_act exec_auditPeriod rfl,
    fun hphase => ?timeIdle, fun hphase => ?timeAsks⟩
  case idle => exact (State.takesFlit_of_unsequenced (exec_idle (s := s) t hd) :)
  case time => exact (State.takesFlit_of_unsequenced (exec_time (s := s) t hd f) :)
  case payload => exact (State.takesFlit_of_sequenced (exec_payload (s := s) t hd ms) :)
  case laneCtl => exact (State.takesFlit_of_sequenced (exec_laneCtl (s := s) t hd sk) :)
  case audit => exact (State.takesFlit_of_sequenced (exec_audit (s := s) t hd used) :)
  case failover => exact (State.takesFlit_of_sequenced (exec_failover (s := s) t hd last any) :)
  case resyncReq => exact (State.takesFlit_of_sequenced (exec_resyncReq (s := s) t hd why) :)
  case reserved => rw [exec_llTypeReserved, State.reservedFlit_of_active (s := s.start) hphase]
  case notReserved => rw [exec_llTypeReserved, State.reservedFlit_ignored (s := s.start) hphase]
  case replayIdle => exact State.settlesTo_of_act (exec_replayTimer t) (State.replayTimer_ignored (s := s.start) hidle)
  case replayFails =>
    exact State.settlesTo_of_act (exec_replayTimer t) (State.replayTimer_fails (s := s.start) hphase hsent hlimit)
  case replays =>
    exact State.settlesTo_of_act (exec_replayTimer t) (State.replayTimer_replays (s := s.start) hphase hsent hlimit)
  case timeIdle => exact State.settlesTo_of_act (exec_timePeriod t) (State.timePeriod_ignored (s := s.start) hphase)
  case timeAsks => exact State.settlesTo_of_act (exec_timePeriod t) (State.timePeriod_asks (s := s.start) hphase)

end Sys2Proof.Machine
end

section
/-! TIME_IN edges and their loss, PPS_MISSED and PPS_OUT (R303, R463, R467). -/

namespace Sys2Proof.Machine

variable {s : State}

@[simp] theorem State.start_isRoot : s.start.isRoot = s.isRoot := rfl

/-- Fabric time reaches n, and wraps where 64 bits do not hold it. -/
theorem State.advanceTo_ft (n : Nat) : (s.advanceTo n).sys.ft = if n ≤ s.sys.ft then s.sys.ft else n % 2 ^ 64 := by
  unfold State.advanceTo
  split <;> rfl

/-! ### δ of an edge (R463) -/

theorem ppsDelta_bounds (t : Nat) : -500000000 < ppsDelta t ∧ ppsDelta t ≤ 500000000 := by
  have hlt : t % 1000000000 < 1000000000 := Nat.mod_lt _ (by decide)
  simp only [ppsDelta]
  split <;> omega

/-- Without δ the edge stands at a whole second. -/
theorem dvd_sub_ppsDelta (t : Nat) : (1000000000 : Int) ∣ (t : Int) - ppsDelta t := by
  simp only [ppsDelta]
  split <;> omega

/-! ### TIME_IN_EDGE (R463) -/

/-- The edge follows the last one by a second. -/
def State.edgeSpaced (s : State) : Bool :=
  match s.sys.pps.last with
  | some l => decide (999900000 ≤ s.sys.ft - l) && decide (s.sys.ft - l ≤ 1000100000)
  | none => false

/-- Presence is set by an edge. -/
def State.presenceSet (s : State) : State :=
  { s with sys.pps := { s.sys.pps with present := true, last := some s.sys.ft, good := 0 } }

/-- Good edges in a row, this one counted. -/
def State.goodEdges (s : State) : Nat := if (ppsDelta s.sys.ft).natAbs < 50 then s.sys.pps.good + 1 else 0

/-- The δ of an edge is recorded, and lock follows it. -/
def State.edgeSeen (s : State) : State :=
  { s with sys.pps := { s.sys.pps with
    error := ppsDelta s.sys.ft, last := some s.sys.ft, good := s.goodEdges
    locked := if 1000 < (ppsDelta s.sys.ft).natAbs then false else s.sys.pps.locked || decide (8 ≤ s.goodEdges) } }

theorem State.timeInEdge_of_reset (hmode : s.sys.mode = .reset) : s.timeInEdge = s := if_pos hmode

section
variable (hmode : s.sys.mode ≠ .reset)
include hmode

section
variable (habsent : s.sys.pps.present = false)
include habsent

theorem State.timeInEdge_of_unspaced (hspaced : s.edgeSpaced = false) :
    s.timeInEdge = { s with sys.pps := { s.sys.pps with last := some s.sys.ft } } :=
  (if_neg hmode).trans <| (if_pos (Bool.eq_false_iff.mp habsent)).trans (if_pos (Bool.eq_false_iff.mp hspaced))

variable (hspaced : s.edgeSpaced = true)
include hspaced

theorem State.timeInEdge_sets (hstays : s.sys.ft % 1000000000 < 1000 ∨ s.isRoot = false) : s.timeInEdge = s.presenceSet := by
  have hnear : ¬ (1000 ≤ s.sys.ft % 1000000000 ∧ s.presenceSet.isRoot = true) := by
    rintro ⟨hfar, hroot⟩
    exact hstays.elim (fun hlt => absurd hfar (Nat.not_le.mpr hlt)) fun hnot => Bool.eq_false_iff.mp hnot hroot
  exact (if_neg hmode).trans <| (if_pos (Bool.eq_false_iff.mp habsent)).trans <|
    (if_neg (not_not.mpr hspaced)).trans (if_neg hnear)

theorem State.timeInEdge_aligns (hfar : 1000 ≤ s.sys.ft % 1000000000) (hroot : s.isRoot = true) :
    s.timeInEdge =
      let v := s.presenceSet.stepTime 0 (1000000000 - s.sys.ft % 1000000000)
      { v with sys.pps := { v.sys.pps with last := some v.sys.ft } } :=
  (if_neg hmode).trans <| (if_pos (Bool.eq_false_iff.mp habsent)).trans <|
    (if_neg (not_not.mpr hspaced)).trans (if_pos ⟨hfar, hroot⟩)

end

section
variable (hpresent : s.sys.pps.present = true)
include hpresent

/-- With presence the root alone follows the edge. -/
theorem State.timeInEdge_of_present : s.timeInEdge = State.chooseRoot
    (if ¬ s.isRoot then s.edgeSeen
      else if ppsDelta s.sys.ft ≤ -1000 then
        let v := s.edgeSeen.stepTime 0 (ppsDelta s.sys.ft).natAbs
        { v with sys.pps := { v.sys.pps with last := some v.sys.ft }, sys.ppb := 0 }
      else { s.edgeSeen with sys.ppb := steerRate (-ppsDelta s.sys.ft) 10 1000000000 }) :=
  (if_neg hmode).trans (if_neg (not_not.mpr hpresent))

theorem State.timeInEdge_measures (hroot : s.isRoot = false) : s.timeInEdge = s.edgeSeen.chooseRoot := by
  rw [State.timeInEdge_of_present hmode hpresent, if_pos (by simp [hroot])]

theorem State.timeInEdge_steps (hroot : s.isRoot = true) (hlate : ppsDelta s.sys.ft ≤ -1000) :
    s.timeInEdge =
      let v := s.edgeSeen.stepTime 0 (ppsDelta s.sys.ft).natAbs
      State.chooseRoot { v with sys.pps := { v.sys.pps with last := some v.sys.ft }, sys.ppb := 0 } := by
  rw [State.timeInEdge_of_present hmode hpresent, if_neg (not_not.mpr hroot), if_pos hlate]

theorem State.timeInEdge_steers (hroot : s.isRoot = true) (hnear : -1000 < ppsDelta s.sys.ft) :
    s.timeInEdge = State.chooseRoot { s.edgeSeen with sys.ppb := steerRate (-ppsDelta s.sys.ft) 10 1000000000 } := by
  rw [State.timeInEdge_of_present hmode hpresent, if_neg (not_not.mpr hroot), if_neg (Int.not_le.mpr hnear)]

end

end

/-! ### TIME_IN_LOST -/

section
variable {l : Nat}

theorem State.timeInLost_of_none (hnone : s.sys.pps.last = none) : s.timeInLost = s := by rw [State.timeInLost, hnone]

/-- Presence and lock are cleared, and the root no longer steers. -/
def State.presenceLost (s : State) : State :=
  State.chooseRoot { s with
    sys.pps := { s.sys.pps with present := false, locked := false, good := 0, last := none }
    sys.ppb := if s.isRoot then 0 else s.sys.ppb }

theorem State.timeInLost_of_some (hlast : s.sys.pps.last = some l) : s.timeInLost =
    if (s.advanceTo (l + 2000000000)).sys.ft < l + 2000000000 then s.advanceTo (l + 2000000000)
    else (s.advanceTo (l + 2000000000)).presenceLost := by
  rw [State.timeInLost, hlast]
  rfl

/-- Where fabric time wraps before 2 s have passed, the loss waits. -/
theorem State.timeInLost_wraps (hlast : s.sys.pps.last = some l) (hfuture : s.sys.ft < l + 2000000000)
    (hwide : 2 ^ 64 ≤ l + 2000000000) : s.timeInLost = s.advanceTo (l + 2000000000) := by
  rw [State.timeInLost_of_some hlast, if_pos]
  rw [State.advanceTo_ft, if_neg (Nat.not_le.mpr hfuture)]
  exact Nat.lt_of_lt_of_le (Nat.mod_lt _ (by decide)) hwide

theorem State.timeInLost_clears (hlast : s.sys.pps.last = some l)
    (hreached : l + 2000000000 ≤ s.sys.ft ∨ l + 2000000000 < 2 ^ 64) :
    s.timeInLost = (s.advanceTo (l + 2000000000)).presenceLost := by
  rw [State.timeInLost_of_some hlast, if_neg]
  rw [State.advanceTo_ft, Nat.not_lt]
  split
  · assumption
  · next hfuture => exact (Nat.mod_eq_of_lt (hreached.resolve_left hfuture)).ge

end

/-! ### PPS_MISSED and PPS_OUT -/

theorem State.ppsMissed_of_present (hpresent : s.sys.pps.present = true) :
    s.ppsMissed = { s with
      sys.pps := { s.sys.pps with missed := if s.sys.pps.missed = 0xFF then 0xFF else s.sys.pps.missed + 1 } } :=
  if_pos hpresent

theorem State.ppsMissed_of_absent (habsent : s.sys.pps.present = false) : s.ppsMissed = s :=
  if_neg (Bool.eq_false_iff.mp habsent)

theorem State.ppsOut_of_reset (hmode : s.sys.mode = .reset) : s.ppsOut = s := if_pos hmode

theorem State.ppsOut_pulses (hmode : s.sys.mode ≠ .reset) :
    s.ppsOut = (s.advanceTo ((s.sys.ft / 1000000000 + 1) * 1000000000)).emit .pps := if_neg hmode

/-! ### What each command runs -/

theorem exec_timeInEdge : exec .timeInEdge s = act (fun t => t.timeInEdge) s := rfl
theorem exec_timeInLost : exec .timeInLost s = act (fun t => t.timeInLost) s := rfl
theorem exec_ppsMissed : exec .ppsMissed s = .next s.start.ppsMissed := rfl
theorem exec_ppsOut : exec .ppsOut s = .next s.start.ppsOut.telemLogs.refresh := rfl

/-- Settles O22: each clause is one branch of its event's act; where fabric time ends in TIME_IN_LOST is `State.advanceTo_ft`. -/
theorem timeInAndPpsOut : Obligations.TimeInAndPpsOut := by
  intro s p t spaced d good locked seen
  refine ⟨fun hmode => ?edgeReset, fun hmode => ⟨fun habsent hspaced => ?edgeNoted,
      fun habsent hspaced => ⟨fun hstays => ?edgeSets, fun hfar hroot => ?edgeAligns⟩,
      fun hpresent hroot => ?edgeMeasures, fun hpresent hroot hlate => ?edgeSteps, fun hpresent hroot hnear => ?edgeSteers⟩,
    fun hnone => ?lostNone, fun l hlast => ⟨fun hfuture hwide => ?lostWraps, fun hreached => ?lostClears⟩,
    fun hpresent => ?missed, fun habsent => ?notMissed, fun hmode => ?outReset, fun hmode => ?outPulses,
    (ppsDelta_bounds t).1, (ppsDelta_bounds t).2, dvd_sub_ppsDelta t⟩
  case edgeReset => exact State.settlesTo_of_act exec_timeInEdge (State.timeInEdge_of_reset (s := s.start) hmode)
  case edgeNoted =>
    exact State.settlesTo_of_act exec_timeInEdge (State.timeInEdge_of_unspaced (s := s.start) hmode habsent hspaced)
  case edgeSets =>
    exact State.settlesTo_of_act exec_timeInEdge (State.timeInEdge_sets (s := s.start) hmode habsent hspaced hstays)
  case edgeAligns =>
    exact State.settlesTo_of_act exec_timeInEdge (State.timeInEdge_aligns (s := s.start) hmode habsent hspaced hfar hroot)
  case edgeMeasures =>
    exact State.settlesTo_of_act exec_timeInEdge (State.timeInEdge_measures (s := s.start) hmode hpresent hroot)
  case edgeSteps =>
    exact State.settlesTo_of_act exec_timeInEdge (State.timeInEdge_steps (s := s.start) hmode hpresent hroot hlate)
  case edgeSteers =>
    exact State.settlesTo_of_act exec_timeInEdge (State.timeInEdge_steers (s := s.start) hmode hpresent hroot hnear)
  case lostNone => exact State.settlesTo_of_act exec_timeInLost (State.timeInLost_of_none (s := s.start) hnone)
  case lostWraps =>
    exact State.settlesTo_of_act exec_timeInLost (State.timeInLost_wraps (s := s.start) hlast hfuture hwide)
  case lostClears => exact State.settlesTo_of_act exec_timeInLost (State.timeInLost_clears (s := s.start) hlast hreached)
  case missed => rw [exec_ppsMissed, State.ppsMissed_of_present (s := s.start) hpresent]; rfl
  case notMissed => rw [exec_ppsMissed, State.ppsMissed_of_absent (s := s.start) habsent]
  case outReset => rw [exec_ppsOut, State.ppsOut_of_reset (s := s.start) hmode]
  case outPulses => rw [exec_ppsOut, State.ppsOut_pulses (s := s.start) hmode]; rfl

end Sys2Proof.Machine
end

section
/-! Gossip of configuration digests: DIGEST_SEND, DIGEST and GOSSIP_EVALUATE (R305, R390, R391). -/

namespace Sys2Proof.Machine

variable {s : State}

/-! ### DIGEST_SEND (R305) -/

/-- The words of a DIGEST flit: this switch's entry, and up to four others with what is left of the flit. -/
theorem digestWords_eq (own : DigestEntry) (es : List DigestEntry) :
    (own :: es).map digestWord ++ List.replicate (5 - ((own :: es).map digestWord).length) 0
      = digestWord own :: es.map digestWord ++ List.replicate (4 - es.length) 0 := by
  rw [List.length_map, List.length_cons, Nat.add_sub_add_right 4 1 es.length, List.map_cons]

/-- One DIGEST flit leaves on trunk t, and the rotation goes on. -/
def State.sendDigest (s : State) (t : Nat) : State :=
  let p := nextEntries s.mgmt.gossip.entries (s.trunk t).gossipNext
  State.sendFlit (s.updTrunk t fun r => { r with gossipNext := p.2 }) t 6 0 false
    (digestWord s.ownEntry :: p.1.map digestWord ++ List.replicate (4 - p.1.length) 0)

theorem State.sendDigests_eq :
    s.sendDigests = ((List.range 8).filter fun t => (s.trunk t).phase == .active).foldl State.sendDigest s := by
  rw [State.sendDigests]
  congr 1
  funext u t
  exact congrArg (State.sendFlit _ t 6 0 false) (digestWords_eq _ _)

/-! ### GOSSIP_EVALUATE (R391) -/

theorem State.evaluateGossip_ignored (hmode : s.sys.mode = .reset ∨ s.sys.mode = .prepare) : s.evaluateGossip = s :=
  if_pos hmode

/-- Every valid entry is one older. -/
def State.gossipAged (s : State) : State :=
  { s with mgmt.gossip.entries := s.mgmt.gossip.entries.map fun (e : DigestEntry) =>
    if e.valid then { e with age := BitVec.ofNat 10 (Nat.min 1023 (e.age.toNat + 1)) } else e }

/-- The first entry that meets the condition of alarm k. -/
def State.alarmEntry (s : State) (k : Nat) : Option DigestEntry := s.mgmt.gossip.entries.find? fun e => s.alarms k e

/-- The alarm flags follow the entries. -/
def State.alarmsFlagged (s : State) : State :=
  { s with mgmt.gossip.flags := BitVec.ofNat 3 (bitsOf ((List.range 3).map fun k => (s.alarmEntry k).isSome)) }

/-- The rise of alarm k is counted and logged with its entry, and may ask for a freeze. -/
def State.raiseAlarm (was : BitVec 3) (found : Nat → Option DigestEntry) (s : State) (k : Nat) : State :=
  match found k with
  | none => s
  | some e =>
    if was.toNat.testBit k then s
    else
      let s := (s.countGlobal (210 + k)).log 0x0508 1 [(1, k), (6, e.id.toNat), (4, s.tab.epoch.toNat), (4, e.epoch.toNat),
        (1, field (digestField e.digest) 0 8)]
      if k < 2 then s.freezeMaskable 8 else s

theorem State.evaluateGossip_of_running (hreset : s.sys.mode ≠ .reset) (hprepare : s.sys.mode ≠ .prepare) :
    s.evaluateGossip = (List.range 3).foldl (State.raiseAlarm s.mgmt.gossip.flags s.gossipAged.alarmEntry)
      s.gossipAged.alarmsFlagged :=
  if_neg (not_or.mpr ⟨hreset, hprepare⟩)

/-- What the rise of an alarm reports leaves the management group. -/
@[simp] theorem State.raiseAlarm_mgmt (was : BitVec 3) (found : Nat → Option DigestEntry) (k : Nat) :
    (State.raiseAlarm was found s k).mgmt = s.mgmt := by
  unfold State.raiseAlarm
  split
  · rfl
  · split
    · rfl
    · dsimp only
      split <;> simp

theorem State.evaluateGossip_mgmt (hreset : s.sys.mode ≠ .reset) (hprepare : s.sys.mode ≠ .prepare) :
    s.evaluateGossip.mgmt = s.gossipAged.alarmsFlagged.mgmt := by
  rw [State.evaluateGossip_of_running hreset hprepare]
  exact Laws.foldl_keep State.mgmt (fun _ _ => State.raiseAlarm_mgmt _ _ _) _ _

/-! ### What each command runs -/

theorem exec_digestSend : exec .digestSend s = .next s.start.sendDigests.finish := rfl
theorem exec_gossipEvaluate : exec .gossipEvaluate s = .next s.start.evaluateGossip.finish := rfl

/-- Settles O47: a DIGEST flit is taken as any unsequenced flit; the flags of an evaluation look at the aged entries, which its
reports leave. -/
theorem gossipSendsHearsAndAges : Obligations.GossipSendsHearsAndAges := by
  intro s
  refine ⟨?send, fun t hd l => rfl, fun l => rfl, fun hmode => ?idle, fun hreset hprepare => ⟨rfl, ?ages, ?flags⟩⟩
  case send => rw [exec_digestSend, State.sendDigests_eq]; rfl
  case idle => rw [exec_gossipEvaluate, State.evaluateGossip_ignored (s := s.start) hmode]
  case ages => rw [State.evaluateGossip_mgmt (s := s.start) hreset hprepare]; rfl
  case flags =>
    have hmgmt := State.evaluateGossip_mgmt (s := s.start) hreset hprepare
    rw [hmgmt]
    rfl

end Sys2Proof.Machine
end

section
/-! The trips of slot-power channels (R321, R323 to R326). -/

namespace Sys2Proof.Machine

variable {s : State} {n : Nat} {m : SlotSample}

@[simp] theorem State.start_chan (n : Nat) : s.start.chan n = s.chan n := rfl
@[simp] theorem State.start_slotParam (n : Nat) : s.start.slotParam n = s.slotParam n := rfl

@[simp] theorem State.advanceTo_chan (t n : Nat) : (s.advanceTo t).chan n = s.chan n := by
  simp only [State.chan, State.advanceTo_slots]

/-! ### A trip in its states and under its condition -/

section
variable {cause point : Nat} {limit : Option Nat} {states : List SlotState} {cond : Bool}

theorem State.tripIf_trips (hstate : (s.chan n).state ∈ states) (hcond : cond = true) :
    s.tripIf n m cause point limit states cond = s.slotTrip n m cause point limit :=
  if_pos ⟨List.contains_iff_mem.mpr hstate, hcond⟩

theorem State.tripIf_ignored (hidle : (s.chan n).state ∉ states ∨ cond = false) :
    s.tripIf n m cause point limit states cond = s := by
  refine if_neg ?_
  rintro ⟨hstate, hcond⟩
  rcases hidle with hnot | hfalse
  · exact hnot (List.contains_iff_mem.mp hstate)
  · exact Bool.eq_false_iff.mp hfalse hcond

end

theorem State.slotRampTimeout_trips (hstate : (s.chan n).state = .ramp) :
    s.slotRampTimeout n m = (s.advanceTo (s.chan n).timer).slotTrip n m 4 0 none := by
  rw [State.slotRampTimeout, if_pos hstate]
  exact State.tripIf_trips (by simp [hstate]) rfl

theorem State.slotRampTimeout_ignored (hstate : (s.chan n).state ≠ .ramp) : s.slotRampTimeout n m = s := by
  rw [State.slotRampTimeout, if_neg hstate]
  exact State.tripIf_ignored (.inl (by simpa using hstate))

/-! ### What a trip records (R325) -/

@[simp] theorem State.countTrip_slots (p : Nat) : (s.countTrip p).slots = s.slots := rfl

theorem State.chan_updChan_same (hwf : s.slots.chans.wf = true) (f : Channel → Channel) :
    (s.updChan n f).chan n = f (s.chan n) := Tbl.get_upd_same _ n f hwf

/-- SLOT_FAULT as a trip with some causes and time in limitation leaves it. -/
def Channel.tripped (c : Channel) (causes point onTime : Nat) : Channel :=
  { c with
    fault := c.fault ||| BitVec.ofNat 9 causes, tripI := c.current, tripVout := c.vout
    onTime := BitVec.ofNat 16 (Nat.min (onTime / 10) 65535)
    point := if causes.testBit 2 then BitVec.ofNat 3 point else c.point }

/-- The report of the trip leaves the channel. -/
theorem State.recordTrip_chan (hwf : s.slots.chans.wf = true) (causes point onTime : Nat) :
    (s.recordTrip n causes point onTime).chan n = (s.chan n).tripped causes point onTime := by
  have hslots : (s.recordTrip n causes point onTime).slots
      = (s.updChan n fun c => c.tripped causes point onTime).slots := by
    simp only [State.recordTrip, State.freezeMaskable_slots, State.log_slots, State.countTrip_slots]
    rfl
  rw [State.chan, hslots]
  exact State.chan_updChan_same hwf _

/-! ### What each command runs -/

section
variable (ch : PortId) (m : SlotSample)

theorem exec_shortInRamp : exec (.shortInRamp ch m) s =
    act (fun t => t.tripIf ch.val m 0 0 (some (t.slotParam ch.val).rampFault) [.ramp] true) s := rfl
theorem exec_currentLimit : exec (.currentLimit ch m) s =
    act (fun t => t.tripIf ch.val m 1 0 (some (t.slotParam ch.val).onFault) [.on] true) s := rfl
theorem exec_rampTimeout : exec (.rampTimeout ch m) s = act (fun t => t.slotRampTimeout ch.val m) s := rfl
theorem exec_breaker (pt : Fin 8) : exec (.breaker ch pt m) s =
    act (fun t => t.tripIf ch.val m 2 pt.val none [.on] (decide (shuntCode (t.slotParam ch.val)
      ((t.slotParam ch.val).curve.getD pt.val (0, 0)).1 ≤ m.current.toNat))) s := rfl
theorem exec_fastTrip : exec (.fastTrip ch m) s =
    act (fun t => t.tripIf ch.val m 3 0 none [.ramp, .on, .stopping] true) s := rfl
theorem exec_undervoltage : exec (.undervoltage ch m) s =
    act (fun t => t.tripIf ch.val m 5 0 none [.ramp, .on] (decide (m.vin.toNat < 4 * (t.slotParam ch.val).vinUv))) s := rfl
theorem exec_overvoltage : exec (.overvoltage ch m) s =
    act (fun t => t.tripIf ch.val m 6 0 none [.ramp, .on] (decide (4 * (t.slotParam ch.val).vinOv < m.vin.toNat))) s := rfl
theorem exec_channelFault : exec (.channelFault ch m) s =
    act (fun t => t.tripIf ch.val m 8 0 none [.ramp, .on, .stopping] true) s := rfl

end

section
variable {i : Instr} {cause point : Nat} {limit : State → Option Nat} {states : List SlotState} {cond : State → Bool}
  (hexec : exec i s = act (fun t => t.tripIf n m cause point (limit t) states (cond t)) s)
include hexec

theorem State.settlesTo_slotTrip (hstate : (s.chan n).state ∈ states) (hcond : cond s.start = true) :
    s.settlesTo i (s.start.slotTrip n m cause point (limit s.start)) :=
  State.settlesTo_of_act hexec (State.tripIf_trips (s := s.start) hstate hcond)

theorem State.ignores_of_tripIf (hidle : (s.chan n).state ∉ states ∨ cond s.start = false) : s.ignores i :=
  State.settlesTo_of_act hexec (State.tripIf_ignored (s := s.start) hidle)

end

/-- Settles O59: every trip event is a trip in a list of states under a condition. -/
theorem slotTripsNeedTheirStateAndCondition : Obligations.SlotTripsNeedTheirStateAndCondition := by
  intro s n m pt c p trips
  refine ⟨fun hramp => ⟨?short, ?timeout⟩, fun hramp => ⟨?noShort, ?noTimeout⟩, fun hon => ⟨?limit, fun hover => ?breaker⟩,
    fun hidle => ?noBreaker, fun hon => ?noLimit, fun hdriven => ⟨?fast, ?fault⟩,
    fun hramp hon hstopping => ⟨?noFast, ?noFault⟩, fun hpowered => ⟨fun hlow => ?lowVin, fun hhigh => ?highVin⟩,
    fun hidle => ?noUnder, fun hidle => ?noOver, fun hwf causes point onTime => ?record⟩
  case short => exact (State.settlesTo_slotTrip (s := s) (exec_shortInRamp n m) (List.mem_singleton.mpr hramp) rfl :)
  case timeout => exact State.settlesTo_of_act (exec_rampTimeout n m) (State.slotRampTimeout_trips (s := s.start) hramp)
  case noShort => exact (State.ignores_of_tripIf (s := s) (exec_shortInRamp n m) (.inl (List.mem_singleton.not.mpr hramp)) :)
  case noTimeout => exact State.settlesTo_of_act (exec_rampTimeout n m) (State.slotRampTimeout_ignored (s := s.start) hramp)
  case limit => exact (State.settlesTo_slotTrip (s := s) (exec_currentLimit n m) (List.mem_singleton.mpr hon) rfl :)
  case breaker =>
    exact (State.settlesTo_slotTrip (s := s) (exec_breaker n m pt) (List.mem_singleton.mpr hon) (decide_eq_true hover) :)
  case noBreaker =>
    exact (State.ignores_of_tripIf (s := s) (exec_breaker n m pt) (hidle.imp List.mem_singleton.not.mpr fun hlow =>
      decide_eq_false (Nat.not_le.mpr hlow)) :)
  case noLimit => exact (State.ignores_of_tripIf (s := s) (exec_currentLimit n m) (.inl (List.mem_singleton.not.mpr hon)) :)
  case fast => exact (State.settlesTo_slotTrip (s := s) (exec_fastTrip n m) (by simpa using hdriven) rfl :)
  case fault => exact (State.settlesTo_slotTrip (s := s) (exec_channelFault n m) (by simpa using hdriven) rfl :)
  case noFast => exact (State.ignores_of_tripIf (s := s) (exec_fastTrip n m) (.inl (by simpa using ⟨hramp, hon, hstopping⟩)) :)
  case noFault =>
    exact (State.ignores_of_tripIf (s := s) (exec_channelFault n m) (.inl (by simpa using ⟨hramp, hon, hstopping⟩)) :)
  case lowVin =>
    exact (State.settlesTo_slotTrip (s := s) (exec_undervoltage n m) (by simpa using hpowered) (decide_eq_true hlow) :)
  case highVin =>
    exact (State.settlesTo_slotTrip (s := s) (exec_overvoltage n m) (by simpa using hpowered) (decide_eq_true hhigh) :)
  case noUnder =>
    exact (State.ignores_of_tripIf (s := s) (exec_undervoltage n m) (hidle.symm.imp (fun hoff => by simpa [c] using hoff)
      fun hgood => decide_eq_false (Nat.not_lt.mpr hgood)) :)
  case noOver =>
    exact (State.ignores_of_tripIf (s := s) (exec_overvoltage n m) (hidle.symm.imp (fun hoff => by simpa [c] using hoff)
      fun hgood => decide_eq_false (Nat.not_lt.mpr hgood)) :)
  case record =>
    dsimp only
    rw [State.recordTrip_chan hwf]
    exact ⟨rfl, rfl, rfl, rfl, rfl⟩

end Sys2Proof.Machine
end

section
/-! SLOT_POWER_ON, SLOT_POWER_OFF and SLOT_CLEAR_FAULT (R317, R329, R332, R370). -/

namespace Sys2Proof.Machine

variable {s : State} {h : CmdHdr}

theorem exec_slotPowerOn (n : PortId) :
    exec (.slotPowerOn h n) s = act (fun t => t.cmdSlotPowerOn (.slotPowerOn h n) h n.val) s := rfl
theorem exec_slotPowerOff (n : PortId) (force : Bool) :
    exec (.slotPowerOff h n force) s = act (fun t => t.cmdSlotPowerOff (.slotPowerOff h n force) h n.val force) s := rfl
theorem exec_slotClearFault (n : PortId) :
    exec (.slotClearFault h n) s = act (fun t => t.cmdSlotClearFault (.slotClearFault h n) h n.val) s := rfl

/-- Settles O52: each command is one test of its channel, which the INTENT record leaves. -/
theorem slotPowerCommandsActOnTheirChannel : Obligations.SlotPowerCommandsActOnTheirChannel := by
  intro s h n c spec conflicts off
  refine ⟨fun hoff => ?on, fun hoff => ?onConflict, fun force => ⟨fun hfree => ?off, fun hforce hheld => ?offConflict⟩,
    fun hlatched => ?clear, fun hlatched => ?clearConflict⟩
  case on => exact State.changeSettles_of_ok rfl (exec_slotPowerOn n) (if_neg hoff)
  case onConflict => exact State.turnsAway_of_conflict rfl (exec_slotPowerOn n) (if_pos hoff)
  case off =>
    refine State.changeSettles_of_ok rfl (exec_slotPowerOff n force) (if_neg ?_)
    rintro ⟨hforce, hheld⟩
    exact hfree.elim hforce fun hnot => hnot hheld
  case offConflict =>
    exact State.turnsAway_of_conflict rfl (exec_slotPowerOff n force) (if_pos ⟨Bool.eq_false_iff.mp hforce, hheld⟩)
  case clear => exact State.changeSettles_of_ok rfl (exec_slotClearFault n) (if_neg (not_not.mpr hlatched))
  case clearConflict => exact State.turnsAway_of_conflict rfl (exec_slotClearFault n) (if_pos hlatched)

end Sys2Proof.Machine
end

section
/-! Seating, power-good, removal, cool-down, PERST_LEAD and the retry reset of slot-power channels (R316 to R318, R326 to R328). -/

namespace Sys2Proof.Machine

variable {s : State} {n : Nat} {m : SlotSample}

/-! ### SEAT_DEBOUNCE (R316, R317) -/

/-- FM_ON of a channel that seats, as its role gives it. -/
def seatedFmOn (c : Channel) (p : SlotParam) : Bool :=
  match c.role with
  | .poolMember => p.autoOn
  | .unbound => false
  | _ => c.fmOn

/-- The debounce has ended with the card in the slot. -/
def State.cardSeated (s : State) (n : Nat) : State :=
  ((s.advanceTo (s.chan n).timer).updChan n fun c => { c with
    state := .seated, present := true, fmOn := seatedFmOn c (s.slotParam n) }).updPort n fun k => { k with memberFailed := false }

@[simp] theorem State.advanceTo_slotParam (t n : Nat) : (s.advanceTo t).slotParam n = s.slotParam n := by
  simp only [State.slotParam, State.advanceTo_slots]

theorem State.seatDebounce_seats (hstate : (s.chan n).state = .seating) (hlow : (s.chan n).prsntLow = true) :
    s.seatDebounce n = if (s.chan n).role = .bound then (s.cardSeated n).notifyVppbs n 0 [1] else s.cardSeated n :=
  if_neg (not_or.mpr ⟨not_not.mpr hstate, not_not.mpr hlow⟩)

theorem State.seatDebounce_ignored (hidle : (s.chan n).state ≠ .seating ∨ (s.chan n).prsntLow = false) :
    s.seatDebounce n = s := if_pos (by simpa using hidle)

/-! ### PG_ASSERT and PG_DEASSERT (R327) -/

/-- The power-good conditions. -/
abbrev powerGood (m : SlotSample) : Prop :=
  19 * m.vin.toNat ≤ 20 * m.vout.toNat ∧ m.gateOk = true ∧ m.limiting = false

/-- Power-good is lost. -/
abbrev powerLost (m : SlotSample) : Prop :=
  10 * m.vout.toNat < 9 * m.vin.toNat ∨ m.gateOk = false ∧ m.limiting = false

theorem State.pgAssert_asserts (hstate : (s.chan n).state = .ramp ∨ (s.chan n).state = .on ∧ (s.chan n).pg = false)
    (hgood : powerGood m) :
    s.pgAssert n m = (s.sampleSlot n m).updChan n fun c =>
      { c with state := .on, pg := true, pgAt := s.sys.ft, faultTicks := 0 } := by
  obtain ⟨hvout, hgate, hlimit⟩ := hgood
  refine if_neg ?_
  rcases hstate with hramp | ⟨hon, hpg⟩
  · simp [hramp, hvout, hgate, hlimit]
  · simp [hon, hpg, hvout, hgate, hlimit]

theorem State.pgAssert_ignored (hidle : ((s.chan n).state ≠ .ramp ∧ (s.chan n).state ≠ .on) ∨ ¬ powerGood m) :
    s.pgAssert n m = s := by
  refine if_pos ?_
  rcases hidle with ⟨hramp, hon⟩ | hbad
  · exact .inl ⟨hramp, .inl hon⟩
  · exact .inr (by simpa using hbad)

theorem State.pgDeassert_clears (hpg : (s.chan n).pg = true) (hlost : powerLost m) :
    s.pgDeassert n m = (s.sampleSlot n m).updChan n fun c => { c with pg := false } := by
  refine if_neg ?_
  rintro (hnot | hkept)
  · exact hnot hpg
  · exact hkept (by simpa using hlost)

theorem State.pgDeassert_ignored (hidle : (s.chan n).pg = false ∨ ¬ powerLost m) : s.pgDeassert n m = s :=
  if_pos (hidle.imp Bool.eq_false_iff.mp fun hkept => by simpa using hkept)

/-! ### REMOVED (R328) -/

theorem State.slotGone_of_driven
    (hstate : (s.chan n).state = .ramp ∨ (s.chan n).state = .on ∨ (s.chan n).state = .stopping) :
    s.slotGone n m =
      (((s.sampleSlot n m).recordTrip n (m.causes.toNat ||| 0x80) 0 m.faultTicks).updChan n fun c =>
        { c.gateOff .idle with present := false }).linkLost n 1 true := by
  refine (if_neg ?_).trans (if_pos hstate)
  rcases hstate with h | h | h <;> simp [h]

theorem State.slotGone_of_undriven
    (hstate : (s.chan n).state = .seating ∨ (s.chan n).state = .seated ∨ (s.chan n).state = .cooldown
      ∨ (s.chan n).state = .latched) :
    s.slotGone n m =
      let w := s.updChan n fun c => { c.gateOff .idle with present := false }
      if (s.chan n).present = true ∧ (s.chan n).role = .bound then w.notifyVppbs n 0 [0] else w := by
  refine (if_neg ?_).trans (if_neg ?_) <;> rcases hstate with h | h | h | h <;> simp [h]

theorem State.slotGone_of_idle (hstate : (s.chan n).state = .idle) : s.slotGone n m = s := if_pos hstate

/-! ### COOLDOWN_END, PERST_LEAD and RETRY_COUNT_RESET (R318, R326) -/

/-- The cool-down's end has been reached, with its sample. -/
def State.cooldownReached (s : State) (n : Nat) (m : SlotSample) : State := (s.advanceTo (s.chan n).timer).sampleSlot n m

theorem State.cooldownEnd_ends (hstate : (s.chan n).state = .cooldown) (hcooled : (s.chan n).cooled = false) :
    s.cooldownEnd n m =
      if (s.chan n).waitVin = true ∧ ¬ vinOk (s.slotParam n) m.vin = true then s.cooldownReached n m
      else (s.cooldownReached n m).updChan n fun c => { c with cooled := true, waitVin := false } := by
  rw [State.cooldownEnd, if_neg (not_or.mpr ⟨not_not.mpr hstate, Bool.eq_false_iff.mp hcooled⟩)]
  have hparam : ((s.advanceTo (s.chan n).timer).sampleSlot n m).slotParam n = s.slotParam n :=
    State.advanceTo_slotParam _ n
  dsimp only
  rw [hparam]
  rfl

theorem State.cooldownEnd_ignored (hidle : (s.chan n).state ≠ .cooldown ∨ (s.chan n).cooled = true) :
    s.cooldownEnd n m = s := if_pos hidle

theorem State.perstLead_ends (hstate : (s.chan n).state = .stopping) :
    s.perstLead n = (s.advanceTo (s.chan n).timer).updChan n fun c => c.gateOff .seated := if_neg (not_not.mpr hstate)

theorem State.perstLead_ignored (hstate : (s.chan n).state ≠ .stopping) : s.perstLead n = s := if_pos hstate

theorem State.retryReset_resets (hpg : (s.chan n).pg = true) :
    s.retryReset n = (s.advanceTo ((s.chan n).pgAt + 1000000000)).updChan n fun c => { c with retry := 0 } :=
  if_neg (not_not.mpr hpg)

theorem State.retryReset_ignored (hpg : (s.chan n).pg = false) : s.retryReset n = s := if_pos (Bool.eq_false_iff.mp hpg)

/-! ### What each command runs -/

section
variable (ch : PortId) (m : SlotSample)

theorem exec_prsntNLow : exec (.prsntNLow ch) s = act (fun t => t.prsntLow ch.val) s := rfl
theorem exec_seatDebounce : exec (.seatDebounce ch) s = act (fun t => t.seatDebounce ch.val) s := rfl
theorem exec_pgAssert : exec (.pgAssert ch m) s = act (fun t => t.pgAssert ch.val m) s := rfl
theorem exec_pgDeassert : exec (.pgDeassert ch m) s = act (fun t => t.pgDeassert ch.val m) s := rfl
theorem exec_removed : exec (.removed ch m) s = act (fun t => t.slotRemoved ch.val m) s := rfl
theorem exec_cooldownEnd : exec (.cooldownEnd ch m) s = act (fun t => t.cooldownEnd ch.val m) s := rfl
theorem exec_perstLead : exec (.perstLead ch) s = act (fun t => t.perstLead ch.val) s := rfl
theorem exec_retryCountReset : exec (.retryCountReset ch) s = act (fun t => t.retryReset ch.val) s := rfl
theorem exec_vinWithinWindow :
    exec (.vinWithinWindow ch m) s = act (fun t => (t.sampleSlot ch.val m).settleSlot ch.val) s := rfl

end

/-- Settles O60: each clause is one branch of its event's act, by the state of the channel. -/
theorem slotSeatingPowerGoodAndRemoval : Obligations.SlotSeatingPowerGoodAndRemoval := by
  intro s n m c t
  refine ⟨State.settlesTo_of_act (exec_prsntNLow n) rfl, fun hstate hlow => ?seats, fun hidle => ?noSeat,
    ⟨fun hstate hgood => ?asserts, fun hidle => ?noAssert⟩, ⟨fun hpg hlost => ?clears, fun hidle => ?noClear⟩,
    ⟨State.settlesTo_of_act (exec_removed n m) rfl, fun v => State.slotGone_of_driven, fun v => State.slotGone_of_undriven,
      fun v => State.slotGone_of_idle⟩,
    fun hstate hcooled => ?cools, fun hidle => ?noCool, fun hstate => ?stops, fun hstate => ?noStop, fun hpg => ?resets,
    fun hpg => ?noReset, State.settlesTo_of_act (exec_vinWithinWindow n m) rfl⟩
  case seats => exact State.settlesTo_of_act (exec_seatDebounce n) (State.seatDebounce_seats (s := s.start) hstate hlow)
  case noSeat => exact State.settlesTo_of_act (exec_seatDebounce n) (State.seatDebounce_ignored (s := s.start) hidle)
  case asserts => exact State.settlesTo_of_act (exec_pgAssert n m) (State.pgAssert_asserts (s := s.start) hstate hgood)
  case noAssert => exact State.settlesTo_of_act (exec_pgAssert n m) (State.pgAssert_ignored (s := s.start) hidle)
  case clears => exact State.settlesTo_of_act (exec_pgDeassert n m) (State.pgDeassert_clears (s := s.start) hpg hlost)
  case noClear => exact State.settlesTo_of_act (exec_pgDeassert n m) (State.pgDeassert_ignored (s := s.start) hidle)
  case cools => exact State.settlesTo_of_act (exec_cooldownEnd n m) (State.cooldownEnd_ends (s := s.start) hstate hcooled)
  case noCool => exact State.settlesTo_of_act (exec_cooldownEnd n m) (State.cooldownEnd_ignored (s := s.start) hidle)
  case stops => exact State.settlesTo_of_act (exec_perstLead n) (State.perstLead_ends (s := s.start) hstate)
  case noStop => exact State.settlesTo_of_act (exec_perstLead n) (State.perstLead_ignored (s := s.start) hstate)
  case resets => exact State.settlesTo_of_act (exec_retryCountReset n) (State.retryReset_resets (s := s.start) hpg)
  case noReset => exact State.settlesTo_of_act (exec_retryCountReset n) (State.retryReset_ignored (s := s.start) hpg)

end Sys2Proof.Machine
end

section
/-! The generic and switch queries of the fabric manager (R369). -/

namespace Sys2Proof.Machine

variable {s : State} {h : CmdHdr}

theorem exec_identify : exec (.identify h) s = plain (fun t => t.cmdIdentify (.identify h) h) s := rfl
theorem exec_getResponseMessageLimit :
    exec (.getResponseMessageLimit h) s = plain (fun t => t.cmdGetLimit (.getResponseMessageLimit h) h) s := rfl
theorem exec_getFwInfo : exec (.getFwInfo h) s = plain (fun t => t.cmdFwInfo (.getFwInfo h) h) s := rfl
theorem exec_getTimestamp : exec (.getTimestamp h) s = plain (fun t => t.cmdGetTimestamp (.getTimestamp h) h) s := rfl
theorem exec_identifySwitchDevice :
    exec (.identifySwitchDevice h) s = plain (fun t => t.cmdIdentifySwitch (.identifySwitchDevice h) h) s := rfl
theorem exec_getPhysicalPortState (ports : List PortId) : exec (.getPhysicalPortState h ports) s =
    plain (fun t => t.cmdPortState (.getPhysicalPortState h ports) h ports) s := rfl
theorem exec_getVirtualCxlSwitchInfo (vcs : PortId) : exec (.getVirtualCxlSwitchInfo h vcs) s =
    plain (fun t => t.cmdVcsInfo (.getVirtualCxlSwitchInfo h vcs) h vcs.val) s := rfl

/-- Settles O32: each query's action answers at once, from state that the ticket of the query leaves; Identify takes a free
value. -/
theorem switchQueriesAnswered : Obligations.SwitchQueriesAnswered := by
  intro s h
  refine ⟨?identify, ?limit, ?firmware, ?time, ?device, fun ports => ?ports, fun vcs => ?vcs⟩
  case identify => exact exec_eq_respond_of_done rfl exec_identify rfl
  case limit => exact State.queryAnswers_of_done rfl exec_getResponseMessageLimit rfl
  case firmware => exact State.queryAnswers_of_done rfl exec_getFwInfo rfl
  case time => exact State.queryAnswers_of_done rfl exec_getTimestamp rfl
  case device => exact State.queryAnswers_of_done rfl exec_identifySwitchDevice rfl
  case ports => exact State.queryAnswers_of_done rfl (exec_getPhysicalPortState ports) rfl
  case vcs => exact State.queryAnswers_of_done rfl (exec_getVirtualCxlSwitchInfo vcs) rfl

end Sys2Proof.Machine
end

section
/-! The counter, log, archive, configuration, gossip and slot queries (R329, R354, R370, R390, R391, R420, R426, R429). -/

namespace Sys2Proof.Machine

variable {s : State} {h : CmdHdr} {i : Instr} {c : CmdSpec}

/-- A query whose action meets a conflict with the state. -/
theorem State.queryDeclines_of_conflict {run : State → Nat → CmdRes} {k o n : Nat} (hc : c.changes = false)
    (hexec : exec i s = plain (fun t => t.command i h c none run) s)
    (hrun : run (s.ticketed h) (s.ticketOf h.src) = conflict (s.ticketed h) k o n) :
    s.queryDeclines i h c rcConflict (s.conflictBytes k o n 0) :=
  State.queryDeclines_of_done hc hexec hrun

theorem exec_counterRead (kind : Byte) (b : U16) :
    exec (.counterRead h kind b) s = plain (fun t => t.cmdCounterRead (.counterRead h kind b) h kind b) s := rfl
theorem exec_logRead (first : U32) (n : Byte) :
    exec (.logRead h first n) s = plain (fun t => t.cmdLogRead (.logRead h first n) h first n) s := rfl
theorem exec_archiveRead (slot : Byte) (off : U32) (len : U16) : exec (.archiveRead h slot off len) s =
    plain (fun t => t.cmdArchiveRead (.archiveRead h slot off len) h slot off len) s := rfl
theorem exec_configGetState :
    exec (.configGetState h) s = plain (fun t => t.cmdConfigGetState (.configGetState h) h) s := rfl
theorem exec_configRead (v : Byte) (off : U32) (len : U16) :
    exec (.configRead h v off len) s = plain (fun t => t.cmdConfigRead (.configRead h v off len) h v off len) s := rfl
theorem exec_gossipGet : exec (.gossipGet h) s = plain (fun t => t.cmdGossipGet (.gossipGet h) h) s := rfl
theorem exec_fabricDiscover :
    exec (.fabricDiscover h) s = plain (fun t => t.cmdFabricDiscover (.fabricDiscover h) h) s := rfl
theorem exec_slotGetStatus (n : PortId) :
    exec (.slotGetStatus h n) s = plain (fun t => t.cmdSlotGetStatus (.slotGetStatus h n) h n.val) s := rfl

/-! ### ARCHIVE_READ (R429) -/

section
variable {slot : Byte} {off : U32} {len : U16}

/-- What the opcode table says of ARCHIVE_READ (R370). -/
def archiveReadSpec (slot : Byte) (off : U32) (len : U16) : CmdSpec :=
  { opcode := 0xC703, len := 7,
    bad := decide (15 < slot.toNat) || decide (2048 < len.toNat) || decide (4194304 < off.toNat + len.toNat) }

section
variable (huntouched : (s.ticketed h).archiveTouched slot.toNat = false)
include huntouched

/-- An archive whose bytes nothing has touched is read from its slot. -/
theorem State.archiveRead_reads (hvalid : (s.obs.archives.get slot.toNat).valid = true) :
    s.queryAnswers (.archiveRead h slot off len) h (archiveReadSpec slot off len)
      ((List.range len.toNat).map fun k => (s.obs.archives.get slot.toNat).byte (off.toNat + k)) :=
  State.queryAnswers_of_done rfl (exec_archiveRead slot off len)
    ((if_pos (Bool.eq_false_iff.mp huntouched)).trans (if_neg (not_not.mpr hvalid)))

theorem State.archiveRead_of_empty (hempty : (s.obs.archives.get slot.toNat).valid = false) :
    s.queryDeclines (.archiveRead h slot off len) h (archiveReadSpec slot off len) rcConflict (s.conflictBytes 0 0 0 0) :=
  State.queryDeclines_of_conflict rfl (exec_archiveRead slot off len)
    ((if_pos (Bool.eq_false_iff.mp huntouched)).trans (if_pos (Bool.eq_false_iff.mp hempty)))

end

section
variable (htouched : (s.ticketed h).archiveTouched slot.toNat = true)
include htouched

/-- A slot whose mark reads 0 in the store holds no archive. -/
theorem State.archiveRead_of_cleared
    (hmark : ((s.ticketed h).archiveBytes slot.toNat 0 4 ((s.ticketed h).archiveSwap slot.toNat)).all
      (fun b => b == some 0) = true) :
    s.queryDeclines (.archiveRead h slot off len) h (archiveReadSpec slot off len) rcConflict (s.conflictBytes 0 0 0 0) :=
  State.queryDeclines_of_conflict rfl (exec_archiveRead slot off len)
    ((if_neg (not_not.mpr htouched)).trans (if_pos hmark))

/-- Damaged bytes of an archive read as free values. -/
theorem State.archiveRead_of_damaged
    (hmark : ((s.ticketed h).archiveBytes slot.toNat 0 4 ((s.ticketed h).archiveSwap slot.toNat)).all
      (fun b => b == some 0) = false)
    (htakes : s.takes (.archiveRead h slot off len) h (archiveReadSpec slot off len)) :
    let r := (s.ticketed h).byteValues
      ((s.ticketed h).archiveBytes slot.toNat off.toNat len.toNat ((s.ticketed h).archiveSwap slot.toNat))
    exec (.archiveRead h slot off len) s =
      .next (r.2.respond (.archiveRead h slot off len) h.src h.tag (s.ticketOf h.src) rcSuccess r.1) :=
  exec_eq_respond_of_done rfl (exec_archiveRead slot off len)
    ((if_neg (not_not.mpr htouched)).trans (if_neg (Bool.eq_false_iff.mp hmark))) htakes

end

end

/-! ### CONFIG_READ (R370) -/

section
variable {v : Byte} (off : U32) (len : U16)

/-- What the opcode table says of CONFIG_READ (R370). -/
def configReadSpec (v : Byte) (len : U16) : CmdSpec :=
  { opcode := 0xC006, len := 7, bad := decide (2 < v.toNat) || decide (2048 < len.toNat) }

theorem State.ticketed_imageVersion : (s.ticketed h).imageVersion v = s.imageVersion v := rfl

theorem State.configRead_reads {b : List Byte} (hversion : s.imageVersion v = some b) :
    s.queryAnswers (.configRead h v off len) h (configReadSpec v len) (sliceOf b off.toNat len.toNat) :=
  State.queryAnswers_of_done rfl (exec_configRead v off len) (by rw [State.ticketed_imageVersion, hversion])

theorem State.configRead_of_absent (hversion : s.imageVersion v = none) :
    s.queryDeclines (.configRead h v off len) h (configReadSpec v len) rcConflict
      (s.conflictBytes 7 0 (commitNo s.mgmt.cfg.phase) 0) :=
  State.queryDeclines_of_conflict rfl (exec_configRead v off len)
    (by rw [State.ticketed_imageVersion, hversion]; rfl)

end

/-- Settles O34: each query's action answers at once, or names what conflicts, from state that the ticket of the query leaves. -/
theorem logAndConfigurationQueriesAnswered : Obligations.LogAndConfigurationQueriesAnswered := by
  intro s h
  refine ⟨fun kind b => ?counter, fun first n => ?log, fun slot off len =>
      ⟨State.archiveRead_reads, State.archiveRead_of_empty, State.archiveRead_of_cleared, State.archiveRead_of_damaged⟩,
    ?state, fun v off len => ⟨fun b => State.configRead_reads off len, State.configRead_of_absent off len⟩, ?gossip,
    fun hleader => ?discover, fun hleader => ?notLeader, fun n => ?slots⟩
  case counter => exact State.queryAnswers_of_done rfl (exec_counterRead kind b) rfl
  case log => exact State.queryAnswers_of_done rfl (exec_logRead first n) rfl
  case state => exact State.queryAnswers_of_done rfl exec_configGetState rfl
  case gossip => exact State.queryAnswers_of_done rfl exec_gossipGet rfl
  case discover => exact State.queryAnswers_of_done rfl exec_fabricDiscover (if_pos hleader)
  case notLeader => exact State.queryDeclines_of_conflict rfl exec_fabricDiscover (if_neg (Bool.eq_false_iff.mp hleader))
  case slots => exact exec_eq_respond_of_done rfl (exec_slotGetStatus n) rfl

end Sys2Proof.Machine
end


section
/-! I3C ports and the TAP: what the common command codes, MCTP Set Endpoint ID and the TAP's instructions do by mode. -/

namespace Sys2Proof.Machine

variable {s : State} {k : Fin 2} {run : State → State}

theorem State.ccc_of_silent {addressed : Bool} (h : s.sys.mode = .reset ∨ (addressed = true ∧ (s.i3c k).dynAddr = none)) :
    s.ccc k addressed run = s :=
  if_pos (by simpa using h)

theorem State.ccc_of_addressed (hm : s.sys.mode ≠ .reset) (ha : (s.i3c k).dynAddr ≠ none) (addressed : Bool) :
    s.ccc k addressed run = run s :=
  if_neg (by simp [hm, ha])

theorem State.ccc_of_unaddressed (hm : s.sys.mode ≠ .reset) : s.ccc k false run = run s :=
  if_neg (by simp [hm])

theorem State.cccRead_of_addressed (hm : s.sys.mode ≠ .reset) (ha : (s.i3c k).dynAddr ≠ none) (bytes : State → List Byte) :
    s.cccRead k bytes = s.emit (.i3c k.val (bytes s)) :=
  State.ccc_of_addressed hm ha true

theorem State.cccRead_of_silent (h : s.sys.mode = .reset ∨ (s.i3c k).dynAddr = none) (bytes : State → List Byte) :
    s.cccRead k bytes = s :=
  State.ccc_of_silent (h.imp_right fun ha => ⟨rfl, ha⟩)

theorem State.entdaa_of_free (hm : s.sys.mode ≠ .reset) (ha : (s.i3c k).dynAddr = none) (a : BitVec 7) :
    s.entdaa k a = State.emit (s.updI3c k fun i => { i with dynAddr := some a })
      (.i3c k.val (leBytes Config.provisionedId.toNat 6 ++ [0x06, 0x00])) :=
  (State.ccc_of_unaddressed hm).trans (if_neg (by simp [ha]))

theorem State.entdaa_of_addressed (hm : s.sys.mode ≠ .reset) (ha : (s.i3c k).dynAddr ≠ none) (a : BitVec 7) :
    s.entdaa k a = s :=
  (State.ccc_of_unaddressed hm).trans (if_pos (Option.isSome_iff_ne_none.mpr ha))

theorem lengthOk_iff (n : U16) : lengthOk n = true ↔ 69 ≤ n.toNat ∧ n.toNat ≤ 4096 := by simp [lengthOk]

theorem State.setmwl_of_ok (hm : s.sys.mode ≠ .reset) (ha : (s.i3c k).dynAddr ≠ none) {n : U16} (h : lengthOk n = true) :
    s.setmwl k n = s.updI3c k fun i => { i with mwl := n } :=
  (State.ccc_of_addressed hm ha true).trans (if_pos h)

theorem State.setmrl_of_ok (hm : s.sys.mode ≠ .reset) (ha : (s.i3c k).dynAddr ≠ none) {n : U16} (h : lengthOk n = true) :
    s.setmrl k n = s.updI3c k fun i => { i with mrl := n } :=
  (State.ccc_of_addressed hm ha true).trans (if_pos h)

theorem State.setmwl_of_bad (hm : s.sys.mode ≠ .reset) (ha : (s.i3c k).dynAddr ≠ none) {n : U16} (h : ¬ lengthOk n = true) :
    s.setmwl k n = s :=
  (State.ccc_of_addressed hm ha true).trans (if_neg h)

theorem State.setmrl_of_bad (hm : s.sys.mode ≠ .reset) (ha : (s.i3c k).dynAddr ≠ none) {n : U16} (h : ¬ lengthOk n = true) :
    s.setmrl k n = s :=
  (State.ccc_of_addressed hm ha true).trans (if_neg h)

section
variable {src : CmdSrc} {eid : Byte}

theorem State.setEid_of_silent (h : s.sys.mode = .reset ∨ s.sys.mode = .prepare ∨ s.executorFree = false) :
    s.setEid src eid = s :=
  if_pos (by simpa using h)

theorem State.setEid_of_ok (hr : s.sys.mode ≠ .reset) (hp : s.sys.mode ≠ .prepare) (hf : s.executorFree = true)
    (h8 : 8 ≤ eid.toNat) (hff : eid ≠ 0xFF) :
    s.setEid src eid =
      State.emit { s with mgmt.eids := s.mgmt.eids.set (srcNo src) eid } (.answer src 0 0 rcSuccess [eid]) := by
  have hok : (decide (8 ≤ eid.toNat) && eid != 0xFF) = true := by simp only [decide_eq_true h8, bne_iff_ne.mpr hff]; rfl
  refine (if_neg (by simp [hr, hp, hf])).trans ?_
  dsimp only
  rw [hok, if_pos rfl, if_pos rfl]

theorem State.setEid_of_bad (hr : s.sys.mode ≠ .reset) (hp : s.sys.mode ≠ .prepare) (hf : s.executorFree = true)
    (h : eid.toNat < 8 ∨ eid = 0xFF) : s.setEid src eid = s.emit (.answer src 0 0 rcInvalid [eid]) := by
  have hok : (decide (8 ≤ eid.toNat) && eid != 0xFF) = false := by
    rcases h with h | rfl
    · simp [Nat.not_le.mpr h]
    · rfl
  refine (if_neg (by simp [hr, hp, hf])).trans ?_
  dsimp only
  rw [hok, if_neg Bool.false_ne_true, if_neg Bool.false_ne_true]

end

/-- Settles O58: each code by the port's two tests, the mode and the dynamic address. -/
theorem i3cPortsAnswerCommonCommands : Obligations.I3cPortsAnswerCommonCommands := by
  intro s k
  refine ⟨fun hm => ⟨fun a => ⟨fun ha => ?entered, fun ha => ?kept⟩, ?lost, fun ha => ?addressed⟩, fun h n e => ?silent,
    fun hm a => ⟨?_, ?_⟩, fun src eid hr hp hf => ⟨fun h8 hff => ?taken, fun h => ?invalid⟩, fun src eid h => ?unheard⟩
  case entered => exact congrArg Host.Outcome.next (State.entdaa_of_free (s := s.start) hm ha a)
  case kept => exact congrArg Host.Outcome.next (State.entdaa_of_addressed (s := s.start) hm ha a)
  case lost => exact congrArg Host.Outcome.next (State.ccc_of_unaddressed (s := s.start) hm)
  case addressed =>
    have reads (f : State → List Byte) : s.start.cccRead k f = s.start.emit (.i3c k.val (f s.start)) :=
      State.cccRead_of_addressed (s := s.start) hm ha f
    have runs (f : State → State) : s.start.ccc k true f = f s.start := State.ccc_of_addressed (s := s.start) hm ha true
    refine ⟨?_, ?_, ?_, ?_, ?_, ?_, fun e => congrArg Host.Outcome.next (runs fun _ => _),
      fun e => congrArg Host.Outcome.next (runs fun _ => _), fun n => ⟨fun h => ?inRange, fun h => ?outOfRange⟩⟩
    case inRange =>
      have hok := (lengthOk_iff n).mpr h
      exact ⟨congrArg Host.Outcome.next (State.setmwl_of_ok (s := s.start) hm ha hok),
        congrArg Host.Outcome.next (State.setmrl_of_ok (s := s.start) hm ha hok)⟩
    case outOfRange =>
      have hbad : ¬ lengthOk n = true := fun hok => by have := (lengthOk_iff n).mp hok; omega
      exact ⟨congrArg Host.Outcome.next (State.setmwl_of_bad (s := s.start) hm ha hbad),
        congrArg Host.Outcome.next (State.setmrl_of_bad (s := s.start) hm ha hbad)⟩
    all_goals exact congrArg Host.Outcome.next (reads fun _ => _)
  case silent =>
    have quiet (f : State → State) : s.start.ccc k true f = s.start :=
      State.ccc_of_silent (s := s.start) (h.imp_right fun ha => ⟨rfl, ha⟩)
    have mute (f : State → List Byte) : s.start.cccRead k f = s.start := State.cccRead_of_silent (s := s.start) h f
    simp only [List.forall_mem_cons, List.not_mem_nil, false_implies, implies_true, and_true]
    refine ⟨?_, ?_, ?_, ?_, ?_, ?_, congrArg Host.Outcome.next (quiet fun _ => _), congrArg Host.Outcome.next (quiet fun _ => _),
      congrArg Host.Outcome.next (quiet fun _ => _), congrArg Host.Outcome.next (quiet fun _ => _)⟩
    all_goals exact congrArg Host.Outcome.next (mute fun _ => _)
  case taken => exact congrArg Host.Outcome.next (State.setEid_of_ok (s := s.start) hr hp hf h8 hff)
  case invalid => exact congrArg Host.Outcome.next (State.setEid_of_bad (s := s.start) hr hp hf h)
  case unheard => exact congrArg Host.Outcome.next (State.setEid_of_silent (s := s.start) h)
  all_goals exact congrArg Host.Outcome.next (State.ccc_of_silent (s := s.start) (.inl hm))

/-! ### TAP -/

section
variable {t : TapInstr} {hash : BitVec 384}

theorem State.tapRuns_of (h : s.sys.mode ≠ .reset) : s.tapRuns = true := by simp [State.tapRuns, h]

theorem State.tapRuns_of_reset (h : s.sys.mode = .reset) : s.tapRuns = false := by simp [State.tapRuns, h]

theorem State.scanPhase_of_reset (h : s.sys.mode = .reset) : s.scanPhase = false := by simp [State.scanPhase, h]

theorem State.tapLoad_of_runs (h : s.sys.mode ≠ .reset) : s.tapLoad t = { s with mgmt.tap := t } :=
  if_pos (State.tapRuns_of h)

theorem State.tapLoad_of_reset (h : s.sys.mode = .reset) : s.tapLoad t = s := if_neg (by simp [State.tapRuns_of_reset h])

theorem State.tapIdcode_of_runs (h : s.sys.mode ≠ .reset) :
    s.tapIdcode = State.emit { s with mgmt.tap := .idcode } (.tap 0xB0640A6B) :=
  if_pos (State.tapRuns_of h)

theorem State.tapIdcode_of_reset (h : s.sys.mode = .reset) : s.tapIdcode = s := if_neg (by simp [State.tapRuns_of_reset h])

theorem State.tapScan_of_bypass (h : s.scanPhase = false) : s.tapScan t = s.tapLoad .bypass := if_pos (by simp [h])

theorem State.tapScan_of_scanPhase (h : s.scanPhase = true) : s.tapScan t = { s with
    mgmt.tap := t, mgmt.bscanUsed := true, mgmt.keystoreReady := false, mgmt.challenge := 0, mgmt.sessions := .empty
    mgmt.keys := .empty, sys.stopped := true } :=
  if_neg (by simp [h])

theorem State.tapFuse_of_bypass (h : s.scanPhase = false ∨ s.mgmt.fuses.debugKey1 ≠ none) :
    s.tapFuse hash = s.tapLoad .bypass :=
  if_pos (by simpa [Option.isSome_iff_ne_none] using h)

theorem State.tapFuse_of_blank (h : s.scanPhase = true) (hf : s.mgmt.fuses.debugKey1 = none) :
    s.tapFuse hash =
      { s with mgmt.tap := .fuseProg, mgmt.fuses := { s.mgmt.fuses with debugKey1 := some hash } } :=
  if_neg (by simp [h, hf])

end

/-- Settles O55: a loaded instruction by the mode; the scan instructions and FUSE_PROG by the early steps of PREPARE. -/
theorem tapInstructionsActByMode : Obligations.TapInstructionsActByMode := by
  intro s sel scan
  refine ⟨fun hm => ⟨?_, ?_, ?idcode, fun hs => ?acrossModes, fun hs => ?early⟩, fun hm hash => ?held⟩
  case idcode => exact congrArg Host.Outcome.next (State.tapIdcode_of_runs (s := s.start) hm)
  case acrossModes =>
    have bypass (t : TapInstr) : s.start.tapScan t = sel .bypass :=
      (State.tapScan_of_bypass (s := s.start) hs).trans (State.tapLoad_of_runs (s := s.start) hm)
    refine ⟨?_, ?_, ?_, ?_, ?_, fun hash => ?fuse⟩
    case fuse =>
      exact congrArg Host.Outcome.next
        ((State.tapFuse_of_bypass (s := s.start) (.inl hs)).trans (State.tapLoad_of_runs (s := s.start) hm))
    all_goals exact congrArg Host.Outcome.next (bypass _)
  case early =>
    have scanned (t : TapInstr) : s.start.tapScan t = scan t := State.tapScan_of_scanPhase (s := s.start) hs
    refine ⟨?_, ?_, ?_, ?_, ?_, fun hash => ⟨fun hf => ?blank, fun hf => ?burned⟩⟩
    case blank => exact congrArg Host.Outcome.next (State.tapFuse_of_blank (s := s.start) hs hf)
    case burned =>
      exact congrArg Host.Outcome.next
        ((State.tapFuse_of_bypass (s := s.start) (.inr hf)).trans (State.tapLoad_of_runs (s := s.start) hm))
    all_goals exact congrArg Host.Outcome.next (scanned _)
  case held =>
    have off : s.start.scanPhase = false := State.scanPhase_of_reset (s := s.start) hm
    have load : s.start.tapLoad .bypass = s.start := State.tapLoad_of_reset (s := s.start) hm
    have scan (t : TapInstr) : s.start.tapScan t = s.start := (State.tapScan_of_bypass off).trans load
    simp only [List.forall_mem_cons, List.not_mem_nil, false_implies, implies_true, and_true]
    exact ⟨congrArg Host.Outcome.next load, congrArg Host.Outcome.next (State.tapIdcode_of_reset (s := s.start) hm),
      congrArg Host.Outcome.next (State.tapLoad_of_reset (s := s.start) hm), congrArg Host.Outcome.next (scan _),
      congrArg Host.Outcome.next (scan _), congrArg Host.Outcome.next (scan _), congrArg Host.Outcome.next (scan _),
      congrArg Host.Outcome.next (scan _), congrArg Host.Outcome.next ((State.tapFuse_of_bypass (.inl off)).trans load)⟩
  all_goals exact congrArg Host.Outcome.next (State.tapLoad_of_runs (s := s.start) hm)

end Sys2Proof.Machine
end


section
/-! SPDM: an answered request by what has been negotiated, and a request in a session by whose session it is. -/

namespace Sys2Proof.Machine

section
variable {s : State} {q : SpdmSrc} {run : State → State}

/-- Bolroth runs in a mode in which it answers SPDM requests. -/
def State.answersSpdm (s : State) : Prop := s.bolrothRuns = true ∧ s.sys.mode ≠ .reset ∧ s.sys.mode ≠ .prepare

/-- The connection of a transport is negotiated. -/
def State.negotiated (s : State) (q : SpdmSrc) : Prop :=
  (s.mgmt.spdm.get (spdmNo q)).version = true ∧ (s.mgmt.spdm.get (spdmNo q)).caps = true
    ∧ (s.mgmt.spdm.get (spdmNo q)).algs = true

theorem State.spdm_of_answers (h : s.answersSpdm) : s.spdm q false run = run s := by
  obtain ⟨hb, hr, hp⟩ := h
  exact (if_neg (by simp [hb, hr, hp])).trans (if_neg (by simp))

theorem State.spdm_of_negotiated (h : s.answersSpdm) (hn : s.negotiated q) (b : Bool) : s.spdm q b run = run s := by
  obtain ⟨hb, hr, hp⟩ := h
  obtain ⟨hv, hc, ha⟩ := hn
  exact (if_neg (by simp [hb, hr, hp])).trans (if_neg (by simp [hv, hc, ha]))

/-! ### Negotiation -/

theorem State.spdmCaps_of_version (h : s.answersSpdm) (hv : (s.mgmt.spdm.get (spdmNo q)).version = true) :
    s.spdmCaps q = State.emit { s with mgmt.spdm := s.mgmt.spdm.set (spdmNo q) {
      s.mgmt.spdm.get (spdmNo q) with caps := true } } (.spdm q 0x61 (leBytes spdmFlags 4)) :=
  (State.spdm_of_answers h).trans (if_neg (by simp [hv]))

theorem State.spdmCaps_of_noVersion (h : s.answersSpdm) (hv : (s.mgmt.spdm.get (spdmNo q)).version = false) :
    s.spdmCaps q = s.spdmError q 4 :=
  (State.spdm_of_answers h).trans (if_pos (by simp [hv]))

theorem State.spdmAlgs_of_caps (h : s.answersSpdm) (hv : (s.mgmt.spdm.get (spdmNo q)).version = true)
    (hc : (s.mgmt.spdm.get (spdmNo q)).caps = true) :
    s.spdmAlgs q = State.emit { s with mgmt.spdm := s.mgmt.spdm.set (spdmNo q) {
      s.mgmt.spdm.get (spdmNo q) with algs := true } }
      (.spdm q 0x63 (leBytes 0x80 4 ++ leBytes 2 4 ++ leBytes 0x10 2 ++ leBytes 2 2)) :=
  (State.spdm_of_answers h).trans (if_neg (by simp [hv, hc]))

theorem State.spdmAlgs_of_noCaps (h : s.answersSpdm) (hc : (s.mgmt.spdm.get (spdmNo q)).caps = false) :
    s.spdmAlgs q = s.spdmError q 4 :=
  (State.spdm_of_answers h).trans (if_pos (by simp [hc]))

/-! ### Requests of a negotiated connection -/

theorem State.spdmCertificate_of_within (h : s.answersSpdm) (hn : s.negotiated q) {slot off : Nat} (len : Nat)
    (hc : slot = 0 ∨ s.chain slot ≠ []) (ho : off ≤ (s.chain slot).length) :
    s.spdmCertificate q slot off len = s.emit (.spdm q 0x02 (leBytes slot 1
      ++ leBytes (((s.chain slot).drop off).take len).length 2
      ++ leBytes ((s.chain slot).length - off - (((s.chain slot).drop off).take len).length) 2
      ++ ((s.chain slot).drop off).take len)) := by
  refine (State.spdm_of_negotiated h hn true).trans (if_neg ?_)
  rintro (⟨hs, he⟩ | hl)
  · exact hc.elim (fun h0 => by omega) fun hne => hne (List.isEmpty_iff.mp he)
  · omega

theorem State.spdmChallenge_of_slot0 (h : s.answersSpdm) (hn : s.negotiated q) (nonce : BitVec 256) :
    let body := hash384 Config.deviceChain ++ leBytes (Config.free s.freeCtr) 32
    s.spdmChallenge q 0 nonce = State.emit { s with freeCtr := s.freeCtr + 1 }
      (.spdm q 0x03 (body ++ deviceSignature (leBytes nonce.toNat 32 ++ body))) :=
  (State.spdm_of_negotiated h hn true).trans (if_neg (by simp))

/-- What GET_MEASUREMENTS answers with, signed on request. -/
def measured (q : SpdmSrc) (signed : Bool) (l : List Byte) : Out :=
  .spdm q 0x60 (l ++ if signed then deviceSignature l else [])

theorem State.measurement_seven :
    s.measurement 7 = some (leBytes s.tab.epoch.toNat 4 ++ digestOut s.mgmt.cfg.digest) := by
  simp [State.measurement]

theorem State.measurement_nine : s.measurement 9 = none := by simp [State.measurement]

theorem State.spdmMeasurements_count (h : s.answersSpdm) (hn : s.negotiated q) (signed : Bool) :
    s.spdmMeasurements q 0 signed = s.emit (measured q signed (leBytes 9 1)) :=
  (State.spdm_of_negotiated h hn true).trans (if_pos rfl)

theorem State.spdmMeasurements_all (h : s.answersSpdm) (hn : s.negotiated q) (signed : Bool) :
    s.spdmMeasurements q 0xFF signed = s.emit (measured q signed (measurementIndexes.flatMap s.measurementBlock)) :=
  (State.spdm_of_negotiated h hn true).trans ((if_neg (by decide)).trans (if_pos rfl))

theorem State.spdmMeasurements_one (h : s.answersSpdm) (hn : s.negotiated q) (signed : Bool) {k : Nat} (h0 : k ≠ 0)
    (hall : k ≠ 0xFF) (hk : s.measurement k ≠ none) :
    s.spdmMeasurements q k signed = s.emit (measured q signed (s.measurementBlock k)) :=
  (State.spdm_of_negotiated h hn true).trans ((if_neg h0).trans ((if_neg hall).trans (if_neg (by simpa using hk))))

theorem State.spdmMeasurements_absent (h : s.answersSpdm) (hn : s.negotiated q) (signed : Bool) {k : Nat} (h0 : k ≠ 0)
    (hall : k ≠ 0xFF) (hk : s.measurement k = none) : s.spdmMeasurements q k signed = s.spdmError q 1 :=
  (State.spdm_of_negotiated h hn true).trans ((if_neg h0).trans ((if_neg hall).trans (if_pos (by simp [hk]))))

theorem State.spdmSetCertificate_of_i3c (k : Fin 2) (h : s.answersSpdm) (hn : s.negotiated (.mctp (.i3c k)))
    (hm : s.sys.mode = .provision) (l : List Byte) :
    s.spdmSetCertificate (.mctp (.i3c k)) 1 l =
      State.emit { s with mgmt.ownerChain := l } (.spdm (.mctp (.i3c k)) 0x6E (leBytes 1 1)) :=
  (State.spdm_of_negotiated h hn true).trans (if_neg (by simp [hm]))

theorem State.spdmSetCertificate_of_doe (p : PortId) (h : s.answersSpdm) (hn : s.negotiated (.doe p)) (slot : Nat)
    (l : List Byte) : s.spdmSetCertificate (.doe p) slot l = s.spdmError (.doe p) 1 :=
  (State.spdm_of_negotiated h hn true).trans (if_pos (by simp))

end

/-- Settles O56: the negotiation's requests by what went before, the others by what they ask for. -/
theorem spdmNegotiatesAndAnswers : Obligations.SpdmNegotiatesAndAnswers := by
  intro s q hb hr hp c refused noted
  have ha : s.start.answersSpdm := ⟨hb, hr, hp⟩
  refine ⟨?version, fun hv => ?caps, fun hv => ?capsEarly, fun hv hc => ?algs, fun hc => ?algsEarly, fun hv hc hg => ?rest⟩
  case version => exact congrArg Host.Outcome.next (State.spdm_of_answers ha)
  case caps => exact congrArg Host.Outcome.next (State.spdmCaps_of_version ha hv)
  case capsEarly => exact congrArg Host.Outcome.next (State.spdmCaps_of_noVersion ha hv)
  case algs => exact congrArg Host.Outcome.next (State.spdmAlgs_of_caps ha hv hc)
  case algsEarly => exact congrArg Host.Outcome.next (State.spdmAlgs_of_noCaps ha hc)
  case rest =>
    have hn : s.start.negotiated q := ⟨hv, hc, hg⟩
    refine ⟨?digests, fun slot off len hs ho => ?certificate, fun nonce => ?challenge,
      fun signed => ⟨?count, ?all, ?one, ?absent⟩, fun k l hq hm => ?owner, fun p l hq => ?doe⟩
    case digests => exact congrArg Host.Outcome.next (State.spdm_of_negotiated ha hn true)
    case certificate => exact congrArg Host.Outcome.next (State.spdmCertificate_of_within (s := s.start) ha hn len hs ho)
    case challenge => exact congrArg Host.Outcome.next (State.spdmChallenge_of_slot0 ha hn nonce)
    case count => exact congrArg Host.Outcome.next (State.spdmMeasurements_count ha hn signed)
    case all => exact congrArg Host.Outcome.next (State.spdmMeasurements_all ha hn signed)
    case one =>
      have h7 : s.start.measurement 7 ≠ none := by rw [State.measurement_seven]; exact Option.some_ne_none _
      exact congrArg Host.Outcome.next (State.spdmMeasurements_one ha hn signed (by decide) (by decide) h7)
    case absent =>
      exact congrArg Host.Outcome.next
        (State.spdmMeasurements_absent ha hn signed (by decide) (by decide) State.measurement_nine)
    case owner =>
      subst hq
      exact congrArg Host.Outcome.next (State.spdmSetCertificate_of_i3c k ha hn hm l)
    case doe =>
      subst hq
      exact congrArg Host.Outcome.next (State.spdmSetCertificate_of_doe p ha hn 1 l)

/-! ### Sessions -/

section
variable {s : State} {q : SpdmSrc} {run : State → State} {k : Nat} {finishing : Bool}

theorem State.spdmKeyExchange_of_free (h : s.answersSpdm) (hn : s.negotiated q) (hk : s.freeSession = some k) :
    s.spdmKeyExchange q = State.emit { s with mgmt.sessions := s.mgmt.sessions.set k { src := some q } }
      (.spdm q 0x64 (leBytes k 2)) := by
  refine (State.spdm_of_negotiated h hn true).trans ?_
  dsimp only
  rw [hk]

theorem State.spdmKeyExchange_of_full (h : s.answersSpdm) (hn : s.negotiated q) (hk : s.freeSession = none) :
    s.spdmKeyExchange q = s.spdmError q 3 := by
  refine (State.spdm_of_negotiated h hn true).trans ?_
  dsimp only
  rw [hk]

theorem State.inSession_of_own (h : s.answersSpdm) (hn : s.negotiated q) (hs : (s.mgmt.sessions.get k).src = some q)
    (hf : (s.mgmt.sessions.get k).finished ≠ finishing) : s.inSession q k finishing run = run s :=
  (State.spdm_of_negotiated h hn true).trans (if_neg (by simp [hs, hf]))

theorem State.inSession_of_foreign (h : s.answersSpdm) (hn : s.negotiated q) (hs : (s.mgmt.sessions.get k).src ≠ some q) :
    s.inSession q k finishing run = s.spdmError q 2 :=
  (State.spdm_of_negotiated h hn true).trans (if_pos (.inl hs))

end

/-- Settles O57: an opening by the free slots, a request in a session by its transport and whether it is established. -/
theorem spdmSessionsOpenAndClose : Obligations.SpdmSessionsOpenAndClose := by
  intro s q hb hr hp hv hc hg
  have ha : s.start.answersSpdm := ⟨hb, hr, hp⟩
  have hn : s.start.negotiated q := ⟨hv, hc, hg⟩
  refine ⟨fun k hk => ?opened, fun hk => ?busy, fun k hs => ⟨fun hf => ?finished, fun hf => ⟨?_, ?_, ?_⟩⟩, fun k hs => ?foreign⟩
  case opened => exact congrArg Host.Outcome.next (State.spdmKeyExchange_of_free (s := s.start) ha hn hk)
  case busy => exact congrArg Host.Outcome.next (State.spdmKeyExchange_of_full (s := s.start) ha hn hk)
  case finished =>
    have hne : (s.start.mgmt.sessions.get k.val).finished ≠ true := Bool.eq_false_iff.mp hf
    exact congrArg Host.Outcome.next (State.inSession_of_own ha hn hs hne)
  case foreign =>
    have other (finishing : Bool) (run : State → State) :
        s.start.inSession q k.val finishing run = s.start.spdmError q 2 := State.inSession_of_foreign ha hn hs
    simp only [List.forall_mem_cons, List.not_mem_nil, false_implies, implies_true, and_true]
    exact ⟨congrArg Host.Outcome.next (other true _), congrArg Host.Outcome.next (other false _),
      congrArg Host.Outcome.next (other false _), congrArg Host.Outcome.next (other false _)⟩
  all_goals
    have hne : (s.start.mgmt.sessions.get k.val).finished ≠ false := by simp [hf]
    exact congrArg Host.Outcome.next (State.inSession_of_own ha hn hs hne)

end Sys2Proof.Machine
end


section
/-! The management pairs: PAIR_BOOT, JOURNAL_APPLY, a stalled standby, a mismatch, the watchdog and the end of a handover,
each by its cases. -/

namespace Sys2Proof.Machine

variable {s : State} {p q o : Pair} {n : Nat} {u : Bool}

@[simp] theorem State.start_imageOk (k : Nat) : s.start.imageOk k = s.imageOk k := rfl

/-! ### PAIR_BOOT (R338) -/

/-- The slot that a pair boots from. -/
def State.pairSlot (s : State) (p : Pair) : Nat := if (s.pairRegs p).imageSlot then 1 else 0

/-- A pair notes the version and the security version of the image in slot `k`. -/
def State.noteImage (s : State) (p : Pair) (k : Nat) : State := s.updPair p fun r => { r with
  imageVersion := BitVec.ofNat 32 (s.imageField k 4 4), svn := BitVec.ofNat 8 (s.imageField k 8 1)
  revoke := BitVec.ofNat 4 (field (s.imageField k 8 4) 10 4), since := s.sys.ft, applied := 0 }

theorem State.pairBoot_ignored (h : s.pairState p ≠ .booting ∨ s.sys.mode = .reset ∨ s.sys.mode = .prepare) :
    s.pairBoot p = s := if_pos h

theorem State.pairBoot_of_booting (hb : s.pairState p = .booting) (hr : s.sys.mode ≠ .reset) (hp : s.sys.mode ≠ .prepare) :
    s.pairBoot p = if s.imageOk (s.pairSlot p) then ((s.noteImage p (s.pairSlot p)).setPair p .syncing).firstActive
      else s.retirePair p :=
  if_neg (by simp [hb, hr, hp])

/-! ### The journal (R341) -/

/-- A pair applies up to `n` of the records that it is behind. -/
def State.applyRecords (s : State) (p : Pair) (n : Nat) : State :=
  s.updPair p fun r => { r with applied := r.applied + BitVec.ofNat 32 (Nat.min n (s.behind p)) }

@[simp] theorem State.updPair_pairState (f : PairRegs → PairRegs) : (s.updPair p f).pairState q = s.pairState q := by
  cases p <;> cases q <;> rfl

@[simp] theorem State.updPair_hasActive (f : PairRegs → PairRegs) : (s.updPair p f).hasActive = s.hasActive := by
  cases p <;> rfl

theorem State.journalApply_ignored (hs : s.pairState p ≠ .syncing) (hr : s.pairState p ≠ .standbyReady) :
    s.journalApply p n u = s := if_pos ⟨hs, hr⟩

theorem State.journalApply_unreadable (h : s.pairState p = .syncing ∨ s.pairState p = .standbyReady) :
    s.journalApply p n true = s.resync p :=
  (if_neg (by rcases h with h | h <;> simp [h])).trans (if_pos rfl)

theorem State.journalApply_readable (h : s.pairState p = .syncing ∨ s.pairState p = .standbyReady) :
    s.journalApply p n false = if (s.applyRecords p n).pairState p = .syncing ∧ (s.applyRecords p n).behind p = 0
        ∧ ((s.applyRecords p n).hasActive ∨ (s.applyRecords p n).sys.handover.isSome)
      then (s.applyRecords p n).setPair p .standbyReady else s.applyRecords p n :=
  (if_neg (by rcases h with h | h <;> simp [h])).trans (if_neg Bool.false_ne_true)

theorem State.journalApply_of_tail (hs : s.pairState p = .syncing) (ht : (s.applyRecords p n).behind p = 0)
    (ha : s.hasActive = true) : s.journalApply p n false = (s.applyRecords p n).setPair p .standbyReady :=
  (State.journalApply_readable (.inl hs)).trans
    (if_pos ⟨(State.updPair_pairState _).trans hs, ht, .inl ((State.updPair_hasActive _).trans ha)⟩)

theorem State.journalApply_of_stays (h : s.pairState p = .syncing ∨ s.pairState p = .standbyReady)
    (hk : (s.applyRecords p n).behind p ≠ 0 ∨ s.pairState p = .standbyReady) :
    s.journalApply p n false = s.applyRecords p n := by
  refine (State.journalApply_readable h).trans (if_neg ?_)
  rintro ⟨hs, ht, -⟩
  rw [State.applyRecords, State.updPair_pairState] at hs
  rcases hk with hk | hk
  · exact hk ht
  · rw [hk] at hs; exact absurd hs (by decide)

/-! ### A stalled standby and the watchdog (R339) -/

theorem State.standbyStalled_of_none (h : s.active = none) : s.standbyStalled = s := by
  rw [State.standbyStalled, h]

theorem State.standbyStalled_of_kept (h : s.active = some q) (hs : s.pairState (otherPair q) ≠ .syncing) :
    s.standbyStalled = s := by
  rw [State.standbyStalled, h]
  exact if_pos hs

theorem State.standbyStalled_of_syncing (h : s.active = some q) (hs : s.pairState (otherPair q) = .syncing) :
    s.standbyStalled =
      State.log (State.retirePair (s.advanceTo ((s.pairRegs (otherPair q)).since + 10000000001)) (otherPair q))
        0x0503 1 [(1, 0), (1, pairNo (otherPair q)), (1, pairNo q)] := by
  rw [State.standbyStalled, h]
  exact if_neg (not_not.mpr hs)

theorem State.watchdogExpiry_of_none (h : s.active = none) : s.watchdogExpiry = s := by
  rw [State.watchdogExpiry, h]

theorem State.watchdogExpiry_of_hold (h : s.active = some q) (hh : s.mgmt.dbg.hold = true) : s.watchdogExpiry = s := by
  rw [State.watchdogExpiry, h]
  exact if_pos hh

theorem State.watchdogExpiry_of_counting (h : s.active = some q) (hh : s.mgmt.dbg.hold = false) :
    s.watchdogExpiry = State.fencePair
      (s.advanceTo ((s.pairRegs q).kicked + (s.pairRegs q).wdtPeriod.toNat * 1000000)) q 3 := by
  rw [State.watchdogExpiry, h]
  exact if_neg (by simp [hh])

/-! ### A mismatch (R337) -/

/-- A pair's outputs are blocked: FENCED, then RETIRED. -/
def State.blocked (s : State) (p : Pair) : State := ((s.freezeMaskable 4).setPair p .fenced).retirePair p

/-- The code of a mismatch's cause in HANDOVER_CAUSE. -/
def mismatchCode : MismatchCause → Nat
  | .lockstep => 1
  | .sramParity => 2

theorem State.lockstepMismatch_eq (c : MismatchCause) : s.lockstepMismatch p c = s.fencePair p (mismatchCode c) := by
  cases c <;> rfl

theorem State.fencePair_ignored (h : s.pairState p = .off ∨ s.pairState p = .retired ∨ s.sys.mode = .reset) (c : Nat) :
    s.fencePair p c = s := if_pos h

theorem State.fencePair_of_active (h : s.pairState p = .active) (hm : s.sys.mode ≠ .reset) (c : Nat) :
    s.fencePair p c = (s.blocked p).startHandover c :=
  (if_neg (by simp [h, hm])).trans (if_pos h)

theorem State.fencePair_of_standby (hoff : s.pairState p ≠ .off) (hret : s.pairState p ≠ .retired)
    (ha : s.pairState p ≠ .active) (hm : s.sys.mode ≠ .reset) (c : Nat) : s.fencePair p c = (s.blocked p).dropHandover :=
  (if_neg (by simp [hoff, hret, hm])).trans (if_neg ha)

theorem State.dropHandover_of_kept (h : s.sys.handover = none ∨ s.hasActive = false) : s.dropHandover = s :=
  if_pos (by simpa using h)

theorem State.dropHandover_of_active (hh : s.sys.handover ≠ none) (ha : s.hasActive = true) :
    s.dropHandover = let t : State := { s with sys.handover := none }
      if t.sys.mode = .handover then t.setMode t.serviceMode else t :=
  if_neg (by simp [hh, ha])

/-! ### The end of a handover (R343) -/

/-- The pair that was ACTIVE last. -/
def State.oldPair (s : State) : Pair := if s.sys.activePair then .b else .a

/-- The pair that takes over: the other pair, or the old one where only it is STANDBY_READY. -/
def State.newPair (s : State) : Pair :=
  if s.pairState (otherPair s.oldPair) = .standbyReady then otherPair s.oldPair else s.oldPair

theorem State.handoverComplete_of_due (hh : s.sys.handover ≠ none) (hd : s.mgmt.dbg.hold = false)
    (hr : s.pairState s.newPair = .standbyReady) : s.handoverComplete = s.takeOver s.oldPair s.newPair :=
  (if_neg (by simp [hh, hd])).trans (if_neg (not_not.mpr hr))

theorem State.handoverComplete_of_ready (hh : s.sys.handover ≠ none) (hd : s.mgmt.dbg.hold = false)
    (hr : s.pairState (otherPair s.oldPair) = .standbyReady) :
    s.handoverComplete = s.takeOver s.oldPair (otherPair s.oldPair) := by
  have hnew : s.newPair = otherPair s.oldPair := if_pos hr
  rw [State.handoverComplete_of_due hh hd (by rwa [hnew]), hnew]

theorem State.handoverComplete_of_only_old (hh : s.sys.handover ≠ none) (hd : s.mgmt.dbg.hold = false)
    (hn : s.pairState (otherPair s.oldPair) ≠ .standbyReady) (hr : s.pairState s.oldPair = .standbyReady) :
    s.handoverComplete = s.takeOver s.oldPair s.oldPair := by
  have hnew : s.newPair = s.oldPair := if_neg hn
  rw [State.handoverComplete_of_due hh hd (by rwa [hnew]), hnew]

theorem State.handoverComplete_ignored (h : s.sys.handover = none ∨ s.mgmt.dbg.hold = true
    ∨ s.sys.pairA ≠ .standbyReady ∧ s.sys.pairB ≠ .standbyReady) : s.handoverComplete = s := by
  unfold State.handoverComplete
  split
  next => rfl
  next hgo =>
    have hnone (x : Pair) : s.pairState x ≠ .standbyReady := by
      rcases h with h | h | ⟨ha, hb⟩
      · exact absurd (.inl (by simp [h])) hgo
      · exact absurd (.inr h) hgo
      · cases x
        · exact ha
        · exact hb
    exact if_pos (hnone _)

/-- The old pair of a handover that a command started stays as the standby. -/
def State.steppedDown (s : State) (old : Pair) : State :=
  if s.pairState old = .active then
    (s.setPair old .standbyReady).updPair old fun r => { r with applied := s.sys.journalTail }
  else s

/-- The new pair of a handover is ACTIVE, and the handover is over. -/
def State.installed (s : State) (old new : Pair) : State :=
  let t := s.makeActive new
  let t := { t with sys.handover := none, sys.handoverCount := t.sys.handoverCount + 1 }.countGlobal 195
  t.log 0x0502 1 [(1, t.sys.handoverCause.toNat), (1, pairNo old), (1, pairNo new)]

/-- What a handover leaves before the mode returns. -/
def State.handedOver (s : State) (old new : Pair) : State := (s.steppedDown old).installed old new

theorem State.takeOver_eq (old new : Pair) : s.takeOver old new =
    if (s.handedOver old new).sys.mode = .handover then (s.handedOver old new).setMode (s.handedOver old new).serviceMode
    else s.handedOver old new := rfl

theorem State.takeOver_sys (old new : Pair) : (s.takeOver old new).sys = { (s.handedOver old new).sys with
    mode := if (s.handedOver old new).sys.mode = .handover then (s.handedOver old new).serviceMode
      else (s.handedOver old new).sys.mode } := by
  rw [State.takeOver_eq]
  split <;> simp

theorem State.takeOver_serviceMode (old new : Pair) : (s.takeOver old new).serviceMode = (s.handedOver old new).serviceMode := by
  rw [State.takeOver_eq]
  split <;> simp

theorem State.steppedDown_sys (o : Pair) :
    let t := s.steppedDown o
    t.pairState o = (if s.pairState o = .active then .standbyReady else s.pairState o)
      ∧ t.sys.mode = s.sys.mode ∧ t.sys.handoverCount = s.sys.handoverCount := by
  unfold State.steppedDown
  split
  · cases o <;> exact ⟨rfl, rfl, rfl⟩
  · exact ⟨rfl, rfl, rfl⟩

theorem State.installed_sys (o : Pair) :
    let t := s.installed o (otherPair o)
    t.pairState (otherPair o) = .active ∧ t.pairState o = s.pairState o
      ∧ t.sys.handover = none ∧ t.sys.mode = s.sys.mode ∧ t.sys.handoverCount = s.sys.handoverCount + 1 := by
  cases o <;> simp [State.installed, State.makeActive, State.setPair, State.updPair, State.pairState, otherPair]

/-- The new pair is ACTIVE, and the old one is STANDBY_READY if it was ACTIVE. -/
theorem State.handedOver_sys (o : Pair) :
    let t := s.handedOver o (otherPair o)
    t.pairState (otherPair o) = .active
      ∧ t.pairState o = (if s.pairState o = .active then .standbyReady else s.pairState o)
      ∧ t.sys.handover = none ∧ t.sys.mode = s.sys.mode ∧ t.sys.handoverCount = s.sys.handoverCount + 1 := by
  obtain ⟨hold, hmode, hcount⟩ := State.steppedDown_sys (s := s) o
  obtain ⟨hnew, hkept, hdone, hmode', hcount'⟩ := State.installed_sys (s := s.steppedDown o) o
  exact ⟨hnew, hkept.trans hold, hdone, hmode'.trans hmode, hcount'.trans (congrArg (· + 1) hcount)⟩

theorem State.pairState_congr {t : State} (ha : t.sys.pairA = s.sys.pairA) (hb : t.sys.pairB = s.sys.pairB) :
    t.pairState p = s.pairState p := by
  cases p
  · exact ha
  · exact hb

/-- What HANDOVER_COMPLETE to the other pair leaves. -/
theorem State.takeOver_of_other (o : Pair) :
    let t := s.takeOver o (otherPair o)
    t.pairState (otherPair o) = .active
      ∧ t.pairState o = (if s.pairState o = .active then .standbyReady else s.pairState o)
      ∧ t.sys.handover = none
      ∧ t.sys.mode = (if s.sys.mode = .handover then t.serviceMode else s.sys.mode)
      ∧ t.sys.handoverCount = s.sys.handoverCount + 1 := by
  obtain ⟨hnew, hold, hdone, hmode, hcount⟩ := State.handedOver_sys (s := s) o
  have hsys := State.takeOver_sys (s := s) o (otherPair o)
  have hpair (x : Pair) : (s.takeOver o (otherPair o)).pairState x = (s.handedOver o (otherPair o)).pairState x :=
    State.pairState_congr (by rw [hsys]) (by rw [hsys])
  refine ⟨(hpair _).trans hnew, (hpair _).trans hold, ?_, ?_, ?_⟩
  · rw [hsys]; exact hdone
  · rw [hsys, State.takeOver_serviceMode, hmode]
  · rw [hsys]; exact hcount

/-! ### The events -/

theorem exec_pairBoot : exec (.pairBoot p) s = act (fun t => t.pairBoot p) s := rfl

theorem exec_journalApply : exec (.journalApply p n u) s = act (fun t => t.journalApply p n u) s := rfl

theorem exec_standbyStalled : exec .standbyStalled s = act (fun t => t.standbyStalled) s := rfl

theorem exec_lockstepMismatch (c : MismatchCause) :
    exec (.lockstepMismatch p c) s = act (fun t => t.lockstepMismatch p c) s := rfl

theorem exec_watchdogExpiry : exec .watchdogExpiry s = act (fun t => t.watchdogExpiry) s := rfl

theorem exec_handoverComplete : exec .handoverComplete s = act (fun t => t.handoverComplete) s := rfl

/-- Settles O14: each event by the state of the pair that it is about, and of the handover. -/
theorem pairsBootFollowTheJournalAndHandOver : Obligations.PairsBootFollowTheJournalAndHandOver := by
  intro s p q n u c st k
  have hst (x : Pair) : s.start.pairState x = s.pairState x := State.start_pairState x
  refine ⟨fun h => ?notBooting, fun hb hr hp => ⟨fun hi => ?retired, fun hi => ?booted⟩, fun hs hr => ?noStandby,
    fun h => ?unreadable, fun h => ⟨fun ht hs ha => ?tail, fun hk => ?applied⟩, fun ha => ⟨?noneStalled, ?noneWatched⟩,
    fun ha => ⟨fun hs => ?notStalled, fun hs => ?stalled, fun hh => ?held, fun hh => ?watchdog⟩, fun h => ?noMismatch,
    fun hoff hret hm => ⟨fun hna hk => ?standby, fun hna hh ha => ?handoverEnds, fun ha => ?fenced⟩, fun h => ?noHandover,
    fun o hh hd ho => ⟨fun hn hr => ?back, fun hr => ?taken⟩⟩
  case notBooting =>
    exact State.settlesTo_of_act exec_pairBoot (State.pairBoot_ignored (h.imp_left fun h => by rwa [hst]))
  case retired =>
    exact State.settlesTo_of_act exec_pairBoot
      ((State.pairBoot_of_booting ((hst p).trans hb) hr hp).trans (if_neg (Bool.eq_false_iff.mp hi)))
  case booted =>
    exact State.settlesTo_of_act exec_pairBoot ((State.pairBoot_of_booting ((hst p).trans hb) hr hp).trans (if_pos hi))
  case noStandby =>
    exact State.settlesTo_of_act exec_journalApply (State.journalApply_ignored (by rwa [hst]) (by rwa [hst]))
  case unreadable =>
    exact State.settlesTo_of_act exec_journalApply (State.journalApply_unreadable (by rwa [hst]))
  case tail =>
    exact State.settlesTo_of_act exec_journalApply (State.journalApply_of_tail (s := s.start) ((hst p).trans hs) ht ha)
  case applied =>
    exact State.settlesTo_of_act exec_journalApply
      (State.journalApply_of_stays (s := s.start) (by rwa [hst]) (hk.imp_right (hst p).trans))
  case noneStalled => exact State.settlesTo_of_act exec_standbyStalled (State.standbyStalled_of_none ha)
  case noneWatched => exact State.settlesTo_of_act exec_watchdogExpiry (State.watchdogExpiry_of_none ha)
  case notStalled =>
    exact State.settlesTo_of_act exec_standbyStalled (State.standbyStalled_of_kept ha (by rwa [hst]))
  case stalled =>
    have h := State.standbyStalled_of_syncing (s := s.start) ha ((hst _).trans hs)
    rw [State.start_pairRegs] at h
    exact State.settlesTo_of_act exec_standbyStalled h
  case held => exact State.settlesTo_of_act exec_watchdogExpiry (State.watchdogExpiry_of_hold (s := s.start) ha hh)
  case watchdog =>
    have h := State.watchdogExpiry_of_counting (s := s.start) ha hh
    rw [State.start_pairRegs] at h
    exact State.settlesTo_of_act exec_watchdogExpiry h
  case noMismatch =>
    have hoff : s.start.pairState p = .off ∨ s.start.pairState p = .retired ∨ s.start.sys.mode = .reset := by
      rw [hst]; exact h
    exact State.settlesTo_of_act (exec_lockstepMismatch c)
      ((State.lockstepMismatch_eq c).trans (State.fencePair_ignored hoff _))
  case standby =>
    have hfence := State.fencePair_of_standby (s := s.start) (by rwa [hst]) (by rwa [hst]) (by rwa [hst]) hm (mismatchCode c)
    exact State.settlesTo_of_act (exec_lockstepMismatch c)
      ((State.lockstepMismatch_eq c).trans (hfence.trans (State.dropHandover_of_kept hk)))
  case handoverEnds =>
    have hfence := State.fencePair_of_standby (s := s.start) (by rwa [hst]) (by rwa [hst]) (by rwa [hst]) hm (mismatchCode c)
    exact State.settlesTo_of_act (exec_lockstepMismatch c)
      ((State.lockstepMismatch_eq c).trans (hfence.trans (State.dropHandover_of_active hh ha)))
  case fenced =>
    have hfence := State.fencePair_of_active (s := s.start) ((hst p).trans ha) hm (mismatchCode c)
    have hact := (State.lockstepMismatch_eq c).trans hfence
    cases c <;> exact State.settlesTo_of_act (exec_lockstepMismatch _) hact
  case noHandover =>
    exact State.settlesTo_of_act exec_handoverComplete (State.handoverComplete_ignored (s := s.start) h)
  case back =>
    subst ho
    exact State.settlesTo_of_act exec_handoverComplete
      (State.handoverComplete_of_only_old (s := s.start) hh hd (fun h => hn ((hst _).symm.trans h)) ((hst _).trans hr))
  case taken =>
    obtain ⟨hnew, hold, hrest⟩ := State.takeOver_of_other (s := s.start) o
    refine ⟨?_, hnew, by rw [hst] at hold; exact hold, hrest⟩
    subst ho
    exact State.settlesTo_of_act exec_handoverComplete
      (State.handoverComplete_of_ready (s := s.start) hh hd ((hst _).trans hr))

end Sys2Proof.Machine
end


section
/-! PAIR_RESET and HANDOVER, served by Bolroth or, while no pair is ACTIVE, by the gateway. -/

namespace Sys2Proof.Machine

variable {s : State} {i : Instr} {h : CmdHdr} {c : CmdSpec} {p : Pair} {slot : Bool}

/-- A command taken at once finds an ACTIVE pair. -/
theorem State.takes_hasActive (ht : s.takes i h c) : s.hasActive = true := by
  obtain ⟨-, -, -, -, -, -, hfree, -⟩ := ht
  rw [State.executorFree, State.bolrothRuns, Bool.and_eq_true, Bool.and_eq_true] at hfree
  exact hfree.1.1

/-- A command that the gateway serves gets its ticket and is answered. -/
theorem State.command_of_gateway {run g : State → Nat → CmdRes} {t : State} {p : List Byte} (hr : s.sys.mode ≠ .reset)
    (hp : s.sys.mode ≠ .prepare) (hresume : s.mgmt.resuming = none) (hidle : ∀ r ∈ s.mgmt.running, r.src ≠ h.src)
    (hstored : s.mgmt.stored = []) (ho : c.object = none) (hok : s.refusal h c = none)
    (hrun : g (s.ticketed h) (s.ticketOf h.src) = .done t rcSuccess p) :
    s.start.command i h c (some g) run = t.respond i h.src h.tag (s.ticketOf h.src) rcSuccess p := by
  have hfind : s.start.mgmt.running.find? (·.src == h.src) = none :=
    List.find?_eq_none.mpr fun r hr => by simpa using hidle r hr
  have hnone (f : Stored → Bool) : s.start.mgmt.stored.find? f = none :=
    (congrArg (List.find? f) hstored).trans List.find?_nil
  have hc : { c with object := none } = c := by rw [← ho]
  have hfree : (s.start.issueTicket h.src).2.refusal h { c with object := none } = none := by
    rw [hc]; exact (State.refusal_ticketed h c).mpr hok
  have hg : g (s.start.issueTicket h.src).2 (s.start.issueTicket h.src).1 = .done t rcSuccess p := hrun
  have hmode : ¬ (s.start.sys.mode = .reset ∨ s.start.sys.mode = .prepare) := not_or.mpr ⟨hr, hp⟩
  rw [State.command, if_neg hmode, show s.start.mgmt.resuming = none from hresume]
  dsimp only
  rw [hfind]
  dsimp only
  rw [hnone]
  dsimp only
  rw [hfree]
  dsimp only
  rw [hg]
  rfl

@[simp] theorem State.intended_pairState (h : CmdHdr) : (s.intended h).pairState p = s.pairState p := by cases p <;> rfl

@[simp] theorem State.ticketed_pairState (h : CmdHdr) : (s.ticketed h).pairState p = s.pairState p := by cases p <;> rfl

/-- A pair boots again from an image slot. -/
def State.bootAgain (s : State) (p : Pair) (slot : Bool) : State :=
  (s.setPair p .booting).updPair p fun r => { r with imageSlot := slot, imageVersion := 0, applied := 0, since := s.sys.ft }

theorem State.pairReset_of_free (ha : s.pairState p ≠ .active) (ho : s.pairState p ≠ .off) (hf : s.pairState p ≠ .fenced) :
    s.pairReset p slot = ok (s.bootAgain p slot) := by
  have hfree : ¬ (s.pairState p = .active ∨ s.pairState p = .off ∨ s.pairState p = .fenced) := by simp [ha, ho, hf]
  exact if_neg hfree

theorem State.pairReset_conflicts (h : s.pairState p = .active ∨ s.pairState p = .off ∨ s.pairState p = .fenced) :
    s.pairReset p slot = conflict s 6 (pairNo p) (pairStateNo (s.pairState p)) := if_pos h

theorem State.cmdPairReset_of_active (ha : s.hasActive = true) : s.cmdPairReset i h p slot =
    s.command i h { opcode := 0xC904, len := 2, changes := true } none fun t _ => t.pairReset p slot := by
  rw [State.cmdPairReset, if_pos ha]

theorem State.cmdPairReset_of_none (ha : s.hasActive = false) : s.cmdPairReset i h p slot =
    s.command i h { opcode := 0xC904, len := 2, changes := true } (some fun t _ => t.pairReset p slot)
      fun t _ => t.pairReset p slot := by
  rw [State.cmdPairReset, if_neg (Bool.eq_false_iff.mp ha)]

theorem exec_pairReset_of_active (ha : s.hasActive = true) : exec (.pairReset h p slot) s =
    act (fun t => t.command (.pairReset h p slot) h { opcode := 0xC904, len := 2, changes := true } none
      fun t _ => t.pairReset p slot) s :=
  congrArg (fun t : State => Host.Outcome.next t.finish) (State.cmdPairReset_of_active (s := s.start) ha)

/-- What HANDOVER does. -/
def State.handoverRun (s : State) : CmdRes :=
  match s.active with
  | none => conflict s 6 0 0
  | some p =>
    if s.pairState (otherPair p) ≠ .standbyReady then s.pairConflict (otherPair p)
    else ok ((s.journal 5 0).startHandover 4)

theorem exec_handover : exec (.handover h) s =
    act (fun t => t.command (.handover h) h { opcode := 0xC903, changes := true } none fun u _ => u.handoverRun) s := rfl

theorem State.handoverRun_of_ready (ha : s.active = some p) (hr : s.pairState (otherPair p) = .standbyReady) :
    s.handoverRun = ok ((s.journal 5 0).startHandover 4) := by
  rw [State.handoverRun, ha]
  exact if_neg (not_not.mpr hr)

theorem State.handoverRun_conflicts (ha : s.active = some p) (hr : s.pairState (otherPair p) ≠ .standbyReady) :
    s.handoverRun = conflict s 6 (pairNo (otherPair p)) (pairStateNo (s.pairState (otherPair p))) := by
  rw [State.handoverRun, ha]
  exact if_pos hr

/-- Settles O49: PAIR_RESET by the pair's state and by who serves it, HANDOVER by the state of the other pair. -/
theorem pairCommandsActOnTheirPair : Obligations.PairCommandsActOnTheirPair := by
  intro s h p slot boots spec
  refine ⟨fun ha ho hf => ⟨?booted, fun hnone hr hp hresume hidle hstored hok => ?gateway⟩, fun hkept => ?kept,
    fun ha => ⟨fun hr => ?handover, fun hr => ?notReady⟩⟩
  case booted =>
    have hrun : (s.intended h).pairReset p slot = ok ((s.intended h).bootAgain p slot) :=
      State.pairReset_of_free (by simpa using ha) (by simpa using ho) (by simpa using hf)
    exact fun ht => State.changeSettles_of_ok rfl (exec_pairReset_of_active (State.takes_hasActive ht)) hrun ht
  case gateway =>
    have hrun : (s.ticketed h).pairReset p slot = ok ((s.ticketed h).bootAgain p slot) :=
      State.pairReset_of_free (by simpa using ha) (by simpa using ho) (by simpa using hf)
    exact congrArg (fun t : State => Host.Outcome.next t.finish) ((State.cmdPairReset_of_none (s := s.start) hnone).trans
      (State.command_of_gateway hr hp hresume hidle hstored rfl hok hrun))
  case kept =>
    have hrun : (s.intended h).pairReset p slot =
        conflict (s.intended h) 6 (pairNo p) (pairStateNo (s.pairState p)) := by
      have hconflict := State.pairReset_conflicts (s := s.intended h) (p := p) (slot := slot) (by simpa using hkept)
      rwa [State.intended_pairState] at hconflict
    exact fun ht => State.turnsAway_of_conflict rfl (exec_pairReset_of_active (State.takes_hasActive ht)) hrun ht
  case handover =>
    exact State.changeSettles_of_ok rfl exec_handover
      (State.handoverRun_of_ready (s := s.intended h) ha ((State.intended_pairState h).trans hr))
  case notReady =>
    have hrun := State.handoverRun_conflicts (s := s.intended h) ha (fun hn => hr ((State.intended_pairState h).symm.trans hn))
    rw [State.intended_pairState] at hrun
    exact State.turnsAway_of_conflict rfl exec_handover hrun

end Sys2Proof.Machine
end


section
/-! CONFIG_COMMIT, CONFIG_CONFIRM and CONFIG_ROLLBACK: what each does once taken, and that the confirm deadline is tested first. -/

namespace Sys2Proof.Machine

variable {s : State} {h : CmdHdr} {epoch : U32}

/-! ### CONFIG_COMMIT (R383, R384) -/

/-- What CONFIG_COMMIT does once Bolroth takes it. -/
def State.commitRun (s : State) (base : U32) (digest : BitVec 256) : CmdRes :=
  let c := s.mgmt.cfg
  match c.staged with
  | none => s.cfgConflict
  | some k =>
    let img := s.readImage k (c.slots.get k) digest
    if c.phase ≠ .idle ∨ (c.current.isSome ∧ s.tab.epoch = 0) then s.cfgConflict
    else if c.undrained.isSome then .done s rcConflict (s.failBytes 0 (undrainedFail (imageRecs img)))
    else
      match s.validateImage img c.stagedLen base.toNat (some digest) with
      | .error f => s.validationFailed f
      | .ok p => .wait (s.writeShadow k p)

section
variable {base : U32} {digest : BitVec 256} {k : Nat}

theorem exec_configCommit : exec (.configCommit h base digest) s = act (fun t => t.command (.configCommit h base digest) h
    { opcode := 0xC002, len := 36, changes := true, object := some (7, 0) } none fun u _ => u.commitRun base digest) s := rfl

theorem State.commitRun_conflicts (hc : s.mgmt.cfg.staged = none ∨ s.mgmt.cfg.phase ≠ .idle
    ∨ (s.mgmt.cfg.current ≠ none ∧ s.tab.epoch = 0)) : s.commitRun base digest = s.cfgConflict := by
  cases hs : s.mgmt.cfg.staged with
  | none => rw [State.commitRun, hs]
  | some k =>
    have hc : s.mgmt.cfg.phase ≠ .idle ∨ (s.mgmt.cfg.current.isSome ∧ s.tab.epoch = 0) := by
      simpa [hs, Option.isSome_iff_ne_none] using hc
    rw [State.commitRun, hs]
    exact if_pos hc

/-- An image is staged, and the phase and the epoch in force let it be committed. -/
def State.committable (s : State) (k : Nat) : Prop :=
  s.mgmt.cfg.staged = some k ∧ s.mgmt.cfg.phase = .idle ∧ ¬ (s.mgmt.cfg.current ≠ none ∧ s.tab.epoch = 0)

theorem State.commitRun_of_committable (hc : s.committable k) : s.commitRun base digest =
    let img := s.readImage k (s.mgmt.cfg.slots.get k) digest
    if s.mgmt.cfg.undrained.isSome then .done s rcConflict (s.failBytes 0 (undrainedFail (imageRecs img)))
    else match s.validateImage img s.mgmt.cfg.stagedLen base.toNat (some digest) with
      | .error f => s.validationFailed f
      | .ok p => .wait (s.writeShadow k p) := by
  obtain ⟨hs, hp, he⟩ := hc
  rw [State.commitRun, hs]
  exact if_neg (by simpa [hp, Option.isSome_iff_ne_none] using he)

theorem State.commitRun_of_undrained (hc : s.committable k) (hu : s.mgmt.cfg.undrained ≠ none) :
    s.commitRun base digest = .done s rcConflict
      (s.failBytes 0 (undrainedFail (imageRecs (s.readImage k (s.mgmt.cfg.slots.get k) digest)))) :=
  (State.commitRun_of_committable hc).trans (if_pos (Option.isSome_iff_ne_none.mpr hu))

theorem State.commitRun_of_valid (hc : s.committable k) (hu : s.mgmt.cfg.undrained = none) {p : Plan}
    (hp : s.validateImage (s.readImage k (s.mgmt.cfg.slots.get k) digest) s.mgmt.cfg.stagedLen base.toNat (some digest) = .ok p) :
    s.commitRun base digest = .wait (s.writeShadow k p) := by
  refine (State.commitRun_of_committable hc).trans ((if_neg (by simp [hu])).trans ?_)
  rw [hp]

theorem State.commitRun_of_invalid (hc : s.committable k) (hu : s.mgmt.cfg.undrained = none) {f : CfgFail}
    (hp : s.validateImage (s.readImage k (s.mgmt.cfg.slots.get k) digest) s.mgmt.cfg.stagedLen base.toNat (some digest)
      = .error f) : s.commitRun base digest = s.validationFailed f := by
  refine (State.commitRun_of_committable hc).trans ((if_neg (by simp [hu])).trans ?_)
  rw [hp]

end

/-- A change whose validation fails. -/
theorem State.changeFails_of_failed {i : Instr} {c : CmdSpec} {run : State → Nat → CmdRes} {f : State → State} {code : Nat}
    {payload : List Byte} (hc : c.changes = true) (hexec : exec i s = act (fun t => t.command i h c none run) s)
    (hrun : run (s.intended h) (s.ticketOf h.src) = .failed (f (s.intended h)) code payload) :
    s.changeFails i h c f code payload := by
  intro htakes
  rw [hexec, act, State.takes_failed htakes hc run _ _ _ hrun]

/-! ### The confirm deadline (R343, R392) -/

theorem State.deadlinePassed_of_before (hd : ∀ d, s.mgmt.cfg.confirmDeadline = some d → s.sys.ft < d) :
    s.deadlinePassed = s := by
  unfold State.deadlinePassed
  cases hc : s.mgmt.cfg.confirmDeadline with
  | none => rfl
  | some d => exact if_neg fun hdue => absurd hdue.2.1 (Nat.not_le_of_lt (hd d hc))

/-! ### CONFIG_CONFIRM (R386) -/

/-- What CONFIG_CONFIRM does once Bolroth takes it. -/
def State.confirmRun (s : State) (epoch : U32) : CmdRes :=
  match s.mgmt.cfg.phase with
  | .flipped =>
    if epoch ≠ s.tab.epoch then .done s rcEpoch []
    else ok (State.setPhase { s with mgmt.cfg.confirmDeadline := none } .idle)
  | .idle => if epoch ≠ s.tab.epoch then .done s rcEpoch [] else ok s
  | _ => s.cfgConflict

theorem exec_configConfirm (hd : ∀ d, s.mgmt.cfg.confirmDeadline = some d → s.sys.ft < d) : exec (.configConfirm h epoch) s =
    act (fun t => t.command (.configConfirm h epoch) h
      { opcode := 0xC003, len := 4, changes := true, object := some (7, 0) } none fun u _ => u.confirmRun epoch) s := by
  have hstart : s.start.deadlinePassed = s.start := State.deadlinePassed_of_before (s := s.start) hd
  change act (fun t => t.deadlinePassed.command (.configConfirm h epoch) h
    { opcode := 0xC003, len := 4, changes := true, object := some (7, 0) } none fun u _ => u.confirmRun epoch) s = _
  rw [act, act, hstart]

theorem State.confirmRun_of_flipped (hp : s.mgmt.cfg.phase = .flipped) (he : epoch = s.tab.epoch) :
    s.confirmRun epoch = ok (State.setPhase { s with mgmt.cfg.confirmDeadline := none } .idle) := by
  rw [State.confirmRun, hp]
  exact if_neg (not_not.mpr he)

theorem State.confirmRun_of_idle (hp : s.mgmt.cfg.phase = .idle) (he : epoch = s.tab.epoch) : s.confirmRun epoch = ok s := by
  rw [State.confirmRun, hp]
  exact if_neg (not_not.mpr he)

theorem State.confirmRun_of_mismatch (hp : s.mgmt.cfg.phase = .flipped ∨ s.mgmt.cfg.phase = .idle) (he : epoch ≠ s.tab.epoch) :
    s.confirmRun epoch = .done s rcEpoch [] := by
  rcases hp with hp | hp
  · rw [State.confirmRun, hp]; exact if_pos he
  · rw [State.confirmRun, hp]; exact if_pos he

theorem State.confirmRun_conflicts (hp : s.mgmt.cfg.phase = .validating ∨ s.mgmt.cfg.phase = .writing
    ∨ s.mgmt.cfg.phase = .rollingBack) : s.confirmRun epoch = s.cfgConflict := by
  rcases hp with hp | hp | hp
  all_goals rw [State.confirmRun, hp]

/-- Settles O44: the phase first, then the epoch. -/
theorem configConfirmActsByPhase : Obligations.ConfigConfirmActsByPhase := by
  intro s h epoch hd c i spec
  refine ⟨fun hp he => ?flipped, fun hp he => ?idle, fun hp he => ?mismatch, fun hp => ?busy⟩
  case flipped =>
    exact State.changeSettles_of_ok rfl (exec_configConfirm hd) (State.confirmRun_of_flipped (s := s.intended h) hp he)
  case idle =>
    exact State.changeSettles_of_ok rfl (exec_configConfirm hd) (State.confirmRun_of_idle (s := s.intended h) hp he)
  case mismatch =>
    exact State.turnsAway_of_refused rfl (by decide) (exec_configConfirm hd)
      (State.confirmRun_of_mismatch (s := s.intended h) hp he)
  case busy =>
    exact State.turnsAway_of_conflict rfl (exec_configConfirm hd) (State.confirmRun_conflicts (s := s.intended h) hp)

/-! ### CONFIG_ROLLBACK (R387) -/

/-- What CONFIG_ROLLBACK does once Bolroth takes it. -/
def State.rollbackRun (s : State) (epoch : U32) : CmdRes :=
  let c := s.mgmt.cfg
  if epoch ≠ s.tab.epoch then .done s rcEpoch []
  else if c.previous.isNone ∨ (c.phase ≠ .idle ∧ c.phase ≠ .flipped) then s.cfgConflict
  else .wait (s.startRollback 0)

theorem exec_configRollback (hd : ∀ d, s.mgmt.cfg.confirmDeadline = some d → s.sys.ft < d) :
    exec (.configRollback h epoch) s = act (fun t => t.command (.configRollback h epoch) h
      { opcode := 0xC004, len := 4, changes := true, object := some (7, 0) } none fun u _ => u.rollbackRun epoch) s := by
  have hstart : s.start.deadlinePassed = s.start := State.deadlinePassed_of_before (s := s.start) hd
  change act (fun t => t.deadlinePassed.command (.configRollback h epoch) h
    { opcode := 0xC004, len := 4, changes := true, object := some (7, 0) } none fun u _ => u.rollbackRun epoch) s = _
  rw [act, act, hstart]

theorem State.rollbackRun_of_allowed (hv : s.mgmt.cfg.previous ≠ none)
    (hp : s.mgmt.cfg.phase = .idle ∨ s.mgmt.cfg.phase = .flipped) (he : epoch = s.tab.epoch) :
    s.rollbackRun epoch = .wait (s.startRollback 0) := by
  have hgo : ¬ (s.mgmt.cfg.previous.isNone ∨ (s.mgmt.cfg.phase ≠ .idle ∧ s.mgmt.cfg.phase ≠ .flipped)) := by
    rcases hp with hp | hp <;> simp [hv, hp]
  exact (if_neg (not_not.mpr he)).trans (if_neg hgo)

theorem State.rollbackRun_of_mismatch (he : epoch ≠ s.tab.epoch) : s.rollbackRun epoch = .done s rcEpoch [] := if_pos he

theorem State.rollbackRun_conflicts (he : epoch = s.tab.epoch) (hc : s.mgmt.cfg.previous = none
    ∨ (s.mgmt.cfg.phase ≠ .idle ∧ s.mgmt.cfg.phase ≠ .flipped)) : s.rollbackRun epoch = s.cfgConflict :=
  (if_neg (not_not.mpr he)).trans (if_pos (hc.imp_left Option.isNone_iff_eq_none.mpr))

/-- Settles O43: the commit by what is staged, the phase and the validation; the rollback by the epoch, the previous image and the
phase. -/
theorem commitAndRollbackStartTheirWork : Obligations.CommitAndRollbackStartTheirWork := by
  refine ⟨fun s h base dg => ⟨fun hc => ?conflict, fun k hs hp he => ⟨fun hu => ?undrained,
    fun hu => ⟨fun p hv => ?committed, fun f hv => ?failed⟩⟩⟩,
    fun s h epoch hd => ⟨fun hv hp he => ?rolled, fun he => ?mismatch, fun he hc => ?busy⟩⟩
  case conflict =>
    exact State.turnsAway_of_conflict rfl exec_configCommit (State.commitRun_conflicts (s := s.intended h) hc)
  case undrained =>
    have hc : (s.intended h).committable k := ⟨hs, hp, he⟩
    exact State.turnsAway_of_refused rfl (by decide) exec_configCommit (State.commitRun_of_undrained hc hu)
  case committed =>
    have hc : (s.intended h).committable k := ⟨hs, hp, he⟩
    exact State.changeWaits_of_wait rfl exec_configCommit (State.commitRun_of_valid hc hu hv)
  case failed =>
    have hc : (s.intended h).committable k := ⟨hs, hp, he⟩
    exact State.changeFails_of_failed rfl exec_configCommit (State.commitRun_of_invalid hc hu hv)
  case rolled =>
    exact State.changeWaits_of_wait rfl (exec_configRollback hd)
      (State.rollbackRun_of_allowed (s := s.intended h) hv hp he)
  case mismatch =>
    exact State.turnsAway_of_refused rfl (by decide) (exec_configRollback hd)
      (State.rollbackRun_of_mismatch (s := s.intended h) he)
  case busy =>
    exact State.turnsAway_of_conflict rfl (exec_configRollback hd)
      (State.rollbackRun_conflicts (s := s.intended h) he hc)

end Sys2Proof.Machine
end


section
/-! Debug: tokens, the end of debug by each of its causes, and the shift of DBG_ACCESS. -/

namespace Sys2Proof.Machine

variable {s : State} {h : CmdHdr} {secured : Bool} {t : Token}

/-! ### DEBUG_ENABLE (R446, R447) -/

/-- What DEBUG_ENABLE does once Bolroth takes it. -/
def State.debugEnableRun (s : State) (src : CmdSrc) (secured : Bool) (t : Token) : CmdRes :=
  if s.mgmt.dbg.enabled then conflict s 0 0 0
  else if ¬ s.tokenOk src secured t then .done s rcLocked []
  else ok (s.startDebug t)

theorem exec_debugEnable : exec (.debugEnable h secured t) s = act (fun u => u.command (.debugEnable h secured t) h
    { opcode := 0xC801, len := 256, changes := true } none fun v _ => v.debugEnableRun h.src secured t) s := rfl

theorem State.intended_tokenOk (src : CmdSrc) : (s.intended h).tokenOk src secured t = s.tokenOk src secured t := rfl

theorem State.debugEnableRun_of_good {src : CmdSrc} (he : s.mgmt.dbg.enabled = false) (ht : s.tokenOk src secured t = true) :
    s.debugEnableRun src secured t = ok (s.startDebug t) :=
  (if_neg (Bool.eq_false_iff.mp he)).trans (if_neg (not_not.mpr ht))

theorem State.debugEnableRun_of_bad {src : CmdSrc} (he : s.mgmt.dbg.enabled = false) (ht : s.tokenOk src secured t = false) :
    s.debugEnableRun src secured t = .done s rcLocked [] :=
  (if_neg (Bool.eq_false_iff.mp he)).trans (if_pos (Bool.eq_false_iff.mp ht))

theorem State.debugEnableRun_conflicts {src : CmdSrc} (he : s.mgmt.dbg.enabled = true) :
    s.debugEnableRun src secured t = conflict s 0 0 0 := if_pos he

theorem State.startDebug_mgmt : (s.startDebug t).mgmt = { s.mgmt with
    dbg := { s.mgmt.dbg with enabled := true, key := t.keyIndex == 1, expiry := s.sys.ft + t.durationS.toNat * 1000000000 }
    challenge := Config.randomChallenge s.mgmt.challengeNo, challengeNo := s.mgmt.challengeNo + 1 } := by
  rw [State.startDebug, State.log_mgmt]

theorem State.startDebug_tab : (s.startDebug t).tab =
    { s.tab with checkers := s.tab.checkers.upd 75 fun c => { c with enabled := true } } := by
  rw [State.startDebug, State.log_tab]

/-! ### The end of debug (R352, R447) -/

theorem exec_debugDisable : exec (.debugDisable h) s = act (fun u => u.command (.debugDisable h) h { opcode := 0xC802 }
    (some fun v _ => ok v.endDebug) fun v _ => ok v.endDebug) s := rfl

theorem exec_debugExpiry : exec .debugExpiry s = act (fun u => u.debugExpiry) s := rfl

theorem exec_debugDisableN : exec .debugDisableN s = quiet (fun u => u.endDebug) s := rfl

theorem State.debugExpiry_of_enabled (he : s.mgmt.dbg.enabled = true) :
    s.debugExpiry = (s.advanceTo s.mgmt.dbg.expiry).endDebug := if_pos he

theorem State.debugExpiry_of_disabled (he : s.mgmt.dbg.enabled = false) : s.debugExpiry = s :=
  if_neg (Bool.eq_false_iff.mp he)

theorem State.dropHold_hold : s.dropHold.mgmt.dbg.hold = false := by
  unfold State.dropHold
  split
  next h => simpa using h
  next => rfl

theorem State.endDebug_mgmt (he : s.mgmt.dbg.enabled = true) :
    s.endDebug.mgmt = { s.dropHold.mgmt with dbg := { s.dropHold.mgmt.dbg with enabled := false } } := by
  rw [State.endDebug, if_neg (not_not.mpr he), State.log_mgmt]

/-! ### DBG_ACCESS (R448) -/

section
variable {w hold : Bool} {sp : BitVec 3} {a : BitVec 51} {d : U64}

theorem exec_dbgAccess : exec (.dbgAccess w sp hold a d) s = act (fun u => u.dbgAccess w sp hold a d) s := rfl

theorem State.dbgAccess_of_reset (hm : s.sys.mode = .reset) : s.dbgAccess w sp hold a d = s :=
  (if_pos (.inl hm)).trans (State.tapLoad_of_reset hm)

theorem State.dbgAccess_of_prepare (hm : s.sys.mode = .prepare) :
    s.dbgAccess w sp hold a d = { s with mgmt.tap := .bypass } :=
  (if_pos (.inr hm)).trans (State.tapLoad_of_runs (by rw [hm]; decide))

theorem State.dbgAccess_of_disabled (hr : s.sys.mode ≠ .reset) (hp : s.sys.mode ≠ .prepare)
    (he : s.mgmt.dbg.enabled = false) : s.dbgAccess w sp hold a d = s.bridgeShift :=
  (if_neg (not_or.mpr ⟨hr, hp⟩)).trans (if_pos (Bool.eq_false_iff.mp he))

theorem State.dbgAccess_of_enabled (hr : s.sys.mode ≠ .reset) (hp : s.sys.mode ≠ .prepare) (he : s.mgmt.dbg.enabled = true)
    (hlow : 0 < sp.toNat) (hhigh : sp.toNat ≤ 3) :
    s.dbgAccess w sp hold a d = State.bridgeAnswer ((s.bridgeShift.bridgeBegin w (a.toNat / 8 * 8)).crossbarAccess 2
      sp.toNat (a.toNat / 8 * 8) w 8 d.toNat hold) := by
  have hspace : ¬ (sp = 0 ∨ 3 < sp.toNat) := by
    rintro (rfl | hbig)
    · exact absurd hlow (by decide)
    · omega
  exact (if_neg (not_or.mpr ⟨hr, hp⟩)).trans ((if_neg (not_not.mpr he)).trans (if_neg hspace))

end

/-- Settles O53: a token by the checks, the end of debug by its causes, and an access by the mode and by whether debug is
enabled. -/
theorem debugStartsAndEnds : Obligations.DebugStartsAndEnds := by
  intro s
  refine ⟨fun h secured t => ⟨fun he => ⟨fun ht => ?enabled, fun ht => ?locked⟩, fun he => ?conflict, ?_, ?_, fun hwf => ?checker,
    ?_, ?_, ?_⟩, fun h hr hp hresume hidle hstored hok => ?disabled, fun he => ⟨?expired, fun hb hmax => ?time⟩, fun he => ?idle,
    exec_debugDisableN, fun he => ?ended, fun w sp hold a d => ⟨fun hm => ?reset, fun hm => ?prepare, fun hr hp he => ?shift,
    fun hr hp he hlow hhigh => ?access⟩, rfl⟩
  case enabled =>
    exact State.changeSettles_of_ok rfl exec_debugEnable
      (State.debugEnableRun_of_good (s := s.intended h) he ((State.intended_tokenOk h.src).trans ht))
  case locked =>
    exact State.turnsAway_of_refused rfl (by decide) exec_debugEnable
      (State.debugEnableRun_of_bad (s := s.intended h) he ((State.intended_tokenOk h.src).trans ht))
  case conflict =>
    exact State.turnsAway_of_conflict rfl exec_debugEnable (State.debugEnableRun_conflicts (s := s.intended h) he)
  case checker => rw [State.startDebug_tab, Tbl.get_upd_same _ _ _ hwf]
  case disabled =>
    exact exec_debugDisable.trans (congrArg (fun u : State => Host.Outcome.next u.finish)
      (State.command_of_gateway hr hp hresume hidle hstored rfl hok rfl))
  case expired => exact State.settlesTo_of_act exec_debugExpiry (State.debugExpiry_of_enabled he)
  case time =>
    have hlater : ¬ s.mgmt.dbg.expiry ≤ s.start.sys.ft := Nat.not_le_of_lt hb
    rw [State.advanceTo_ft, if_neg hlater, Nat.mod_eq_of_lt hmax]
  case idle => exact State.settlesTo_of_act exec_debugExpiry (State.debugExpiry_of_disabled he)
  case ended =>
    rw [State.endDebug_mgmt he]
    exact ⟨rfl, State.dropHold_hold⟩
  case reset => exact State.settlesTo_of_act exec_dbgAccess (State.dbgAccess_of_reset (s := s.start) hm)
  case prepare => exact State.settlesTo_of_act exec_dbgAccess (State.dbgAccess_of_prepare (s := s.start) hm)
  case shift => exact State.settlesTo_of_act exec_dbgAccess (State.dbgAccess_of_disabled (s := s.start) hr hp he)
  case access =>
    exact State.settlesTo_of_act exec_dbgAccess (State.dbgAccess_of_enabled (s := s.start) hr hp he hlow hhigh)
  all_goals rw [State.startDebug_mgmt]

end Sys2Proof.Machine
end


section
/-! The boot ROM's choice of an image slot. -/

namespace Sys2Proof.Machine

variable {s : State} {ok0 ok1 warm confirmed last : Bool} {v0 v1 : Nat}

theorem bootChoice_of_second (hw : warm = true) (hc : confirmed = false) :
    bootChoice true true v0 v1 warm confirmed last = some (!last, true) := by
  rw [hw, hc]; rfl

theorem bootChoice_of_version (h : ¬ (warm = true ∧ confirmed = false)) :
    bootChoice true true v0 v1 warm confirmed last = some (decide (v0 < v1), false) :=
  if_neg (by simpa using h)

/-- What step 7 leaves once it has chosen a slot. -/
theorem State.bootVerify_status {slot fb : Bool}
    (hchoice : bootChoice (s.imageOk 0) (s.imageOk 1) (s.imageField 0 4 4) (s.imageField 1 4 4) (s.sys.status.kind == 3)
      s.sys.status.bootConfirmed s.sys.status.bootSlot = some (slot, fb)) :
    s.bootVerify.sys.status.bootSlot = slot ∧ s.bootVerify.sys.status.fallback = fb
      ∧ s.bootVerify.sys.status.slot0Ok = s.imageOk 0 ∧ s.bootVerify.sys.status.slot1Ok = s.imageOk 1
      ∧ s.bootVerify.sys.mode = s.sys.mode := by
  rw [State.bootVerify_of_some hchoice]
  exact ⟨rfl, rfl, rfl, rfl, rfl⟩

/-- What RELEASED leaves of the management pairs. -/
theorem State.releasePairs_pairs (hmode : s.sys.mode = .prepare) (hstopped : s.sys.stopped = false)
    (hstep : s.sys.status.prepareStep = 7) :
    s.releasePairs.sys.pairA = .booting ∧ s.releasePairs.sys.pairB = .booting
      ∧ s.releasePairs.sys.regsA.imageSlot = s.sys.status.bootSlot
      ∧ s.releasePairs.sys.regsB.imageSlot = s.sys.status.bootSlot := by
  have hslot : s.lockStep.sys.status.bootSlot = s.sys.status.bootSlot := State.lockStep_bootSlot
  rw [State.releasePairs_of_ready hmode hstopped hstep, State.enterProvision_sys, ← hslot]
  exact ⟨rfl, rfl, rfl, rfl⟩

/-- Settles O35: the choice by which images verify, whether the last boot went unconfirmed, and the versions. -/
theorem bootRomChoosesTheSlot : Obligations.BootRomChoosesTheSlot := by
  intro s ok0 ok1 st chosen second
  refine ⟨fun h0 h1 => ?first, fun h0 h1 => ?other, fun h0 h1 hs => ?fallback, fun h0 h1 hs hv => ?higher,
    fun h0 h1 hs hv => ?lower, fun h0 h1 => ?none, fun hmode hstopped hstep => ?released⟩
  case first => exact State.bootVerify_status (by rw [show s.imageOk 0 = true from h0, show s.imageOk 1 = false from h1]; rfl)
  case other => exact State.bootVerify_status (by rw [show s.imageOk 0 = false from h0, show s.imageOk 1 = true from h1]; rfl)
  case fallback =>
    obtain ⟨hkind, hconfirmed⟩ := hs
    refine State.bootVerify_status ?_
    rw [show s.imageOk 0 = true from h0, show s.imageOk 1 = true from h1]
    exact bootChoice_of_second (beq_iff_eq.mpr hkind) hconfirmed
  case higher =>
    refine State.bootVerify_status ?_
    rw [show s.imageOk 0 = true from h0, show s.imageOk 1 = true from h1,
      bootChoice_of_version (fun h => hs ⟨beq_iff_eq.mp h.1, h.2⟩), decide_eq_true hv]
  case lower =>
    refine State.bootVerify_status ?_
    rw [show s.imageOk 0 = true from h0, show s.imageOk 1 = true from h1,
      bootChoice_of_version (fun h => hs ⟨beq_iff_eq.mp h.1, h.2⟩), decide_eq_false (Nat.not_lt.mpr hv)]
  case none =>
    have h0 : s.imageOk 0 = false := h0
    have h1 : s.imageOk 1 = false := h1
    rw [State.bootVerify_of_none h0 h1, State.verified, h0, h1]
  case released =>
    exact ⟨s.start.releasePairs, State.settlesTo_of_act exec_released rfl,
      State.releasePairs_pairs (s := s.start) hmode hstopped hstep⟩

end Sys2Proof.Machine
end


section
/-! SAFE, the temperature and the die-to-die links. -/

namespace Sys2Proof.Machine

variable {s : State} {i : Instr} {tj : Byte} {k : Fin 28} {j : Nat} {b : Bool}

/-! ### The events -/

/-- A command that reaches neither the data plane nor an engine, by its action on the state it begins with. -/
theorem exec_of_quiet {f : State → State} {t : State} (hexec : exec i s = quiet f s) (hact : f s.start = t) :
    exec i s = .next t.telemLogs.refresh :=
  hexec.trans (congrArg (fun u : State => Host.Outcome.next u.telemLogs.refresh) hact)

theorem exec_controlParity : exec .controlParity s = act (fun t => t.enterSafe 3) s := rfl

theorem exec_thermal : exec (.thermal tj k) s = act (fun t => t.thermal tj k) s := rfl

theorem exec_thermWarn : exec (.thermWarn tj k) s = act (fun t => t.readTj tj k) s := rfl

theorem exec_dieLinkFailure (j : Fin 6) : exec (.dieLinkFailure j) s = act (fun t => t.dieLinkFailure j.val) s := rfl

theorem exec_d2dLaneRepair (j : Fin 6) : exec (.d2dLaneRepair j b) s = quiet (fun t => t.d2dLaneRepair j.val b) s := rfl

/-! ### SAFE (R410) -/

theorem State.enterSafe_ignored (h : s.sys.mode = .reset ∨ s.sys.mode = .safe) (c : Nat) : s.enterSafe c = s := if_pos h

/-! ### Temperature (R456, R458) -/

theorem State.thermal_of_cool (h : tj.toNat < 110) : s.thermal tj k = s.readTj tj k := if_neg (Nat.not_le_of_lt h)

theorem State.thermal_of_hot (h : 110 ≤ tj.toNat) : s.thermal tj k = (s.readTj tj k).enterSafe 4 := if_pos h

/-- The peak is the higher of the peak so far and the reading. -/
theorem State.readTj_peak : (s.readTj tj k).sys.thermal.peak.toNat = Nat.max s.sys.thermal.peak.toNat tj.toNat := by
  change (if s.sys.thermal.peak.toNat < tj.toNat then tj else s.sys.thermal.peak).toNat = _
  split
  next h => exact (Nat.max_eq_right (Nat.le_of_lt h)).symm
  next h => exact (Nat.max_eq_left (Nat.le_of_not_lt h)).symm

theorem State.readTj_warn : (s.readTj tj k).sys.thermal.warn =
    if 100 ≤ tj.toNat then true else if tj.toNat < 98 then false else s.sys.thermal.warn := rfl

/-! ### Die-to-die links (R406, R465) -/

theorem State.d2dLaneRepair_of_down (h : (s.sys.links.getD j {}).up = false) : s.d2dLaneRepair j b = s :=
  if_pos (Bool.eq_false_iff.mp h)

theorem State.d2dLaneRepair_of_spare (h : (s.sys.links.getD j {}).up = true) : s.d2dLaneRepair j true =
    (s.pass 1000).updLink j fun l => { l with repaired := if l.repaired = 15 then 15 else l.repaired + 1 } :=
  (if_neg (not_not.mpr h)).trans (if_pos rfl)

theorem State.d2dLaneRepair_of_noSpare (h : (s.sys.links.getD j {}).up = true) :
    s.d2dLaneRepair j false = s.dieLinkFailure j :=
  (if_neg (not_not.mpr h)).trans (if_neg Bool.false_ne_true)

/-- The die behind link `j` is lost, and its unit is retired. -/
def State.dieGone (s : State) (j : Nat) : State :=
  (State.updLink { s with sys.dieLost := s.sys.dieLost ||| BitVec.ofNat 6 (2 ^ j) } j fun l =>
    { l with up := false, modules := 0 }).freezeMaskable 5

/-- The ports of the edge die behind link `j` go down. -/
def State.portsGone (s : State) (j : Nat) : State := ((List.range 16).map (16 * j + ·)).foldl (fun s p =>
  (s.linkLost p 0 false).updPort p fun k => { k with training := false }) s

/-- The trunks go down. -/
def State.trunksGone (s : State) : State := (List.range 8).foldl (fun s t =>
  (s.leaveActive t 0x10).updTrunk t fun k => { k with phase := .off, retrying := false }) s

theorem State.dieLinkFailure_ignored (h : s.sys.dieLost.toNat.testBit j = true ∨ s.sys.mode = .reset) :
    s.dieLinkFailure j = s := if_pos h

theorem State.dieLinkFailure_of_present (hd : s.sys.dieLost.toNat.testBit j = false) (hm : s.sys.mode ≠ .reset) :
    s.dieLinkFailure j = if j < 4 then (s.dieGone j).portsGone j
      else if j = 4 then (s.dieGone j).trunksGone else s.dieGone j :=
  if_neg (not_or.mpr ⟨Bool.eq_false_iff.mp hd, hm⟩)

/-- Settles O21: SAFE by the mode, a reading by its bounds, a link's event by the link and its die. -/
theorem safeTemperatureAndDieLinks : Obligations.SafeTemperatureAndDieLinks := by
  intro s tj k j b
  refine ⟨fun u c h => State.enterSafe_ignored h c, fun u c hr hs => if_neg (not_or.mpr ⟨hr, hs⟩),
    State.settlesTo_of_act exec_controlParity rfl,
    fun h => State.settlesTo_of_act exec_thermal (State.thermal_of_cool h),
    fun h => State.settlesTo_of_act exec_thermal (State.thermal_of_hot h),
    State.settlesTo_of_act exec_thermWarn rfl,
    ⟨rfl, rfl, rfl, State.readTj_peak, rfl, fun h => ?warns, fun h => ?cools, fun hlow hhigh => ?keeps⟩,
    ⟨fun h => ?down, fun h hb => ?repaired, fun h hb => ?spent⟩,
    fun h => State.settlesTo_of_act (exec_dieLinkFailure j) (State.dieLinkFailure_ignored (s := s.start) h),
    fun hd hm => ⟨fun hj => ?edge, fun hj => ?trunk, fun hj => ?last⟩⟩
  case warns => exact State.readTj_warn.trans (if_pos h)
  case cools => exact State.readTj_warn.trans ((if_neg (by omega)).trans (if_pos h))
  case keeps => exact State.readTj_warn.trans ((if_neg (by omega)).trans (if_neg (by omega)))
  case down =>
    exact exec_of_quiet (exec_d2dLaneRepair j) (State.d2dLaneRepair_of_down (s := s.start) h)
  case repaired =>
    subst hb
    exact exec_of_quiet (exec_d2dLaneRepair j) (State.d2dLaneRepair_of_spare (s := s.start) h)
  case spent =>
    subst hb
    exact exec_of_quiet (exec_d2dLaneRepair j) (State.d2dLaneRepair_of_noSpare (s := s.start) h)
  case edge =>
    exact State.settlesTo_of_act (exec_dieLinkFailure j)
      ((State.dieLinkFailure_of_present (s := s.start) hd hm).trans (if_pos hj))
  case trunk =>
    exact State.settlesTo_of_act (exec_dieLinkFailure j)
      ((State.dieLinkFailure_of_present (s := s.start) hd hm).trans ((if_neg (by omega)).trans (if_pos hj)))
  case last =>
    exact State.settlesTo_of_act (exec_dieLinkFailure j)
      ((State.dieLinkFailure_of_present (s := s.start) hd hm).trans ((if_neg (by omega)).trans (if_neg (by omega))))

end Sys2Proof.Machine
end


section
/-! Observability: snapshots, windows, telemetry, freezes, archive copies and alert interrupts at their times. -/

namespace Sys2Proof.Machine

variable {s : State}

/-- The modes in which observation runs. -/
def State.observes (s : State) : Prop := s.sys.mode ≠ .reset ∧ s.sys.mode ≠ .prepare

theorem State.mode_of_not_observes (h : ¬ s.observes) : s.sys.mode = .reset ∨ s.sys.mode = .prepare := by
  by_contra hmode
  exact h (not_or.mp hmode)

/-! ### Periods (R421, R422, R425) -/

/-- Fabric time reaches the next multiple of `p`. -/
def State.nextMultiple (s : State) (p : Nat) : State := s.advanceTo ((s.sys.ft / p + 1) * p)

theorem exec_snapshotPeriod : exec .snapshotPeriod s = quiet (fun t => t.snapshotPeriod) s := rfl

theorem State.snapshotPeriod_of_due (hms : s.obs.select.snapshotMs ≠ 0) (hsafe : s.sys.mode ≠ .safe) (ho : s.observes) :
    s.snapshotPeriod = (s.nextMultiple (s.obs.select.snapshotMs * 1000000)).takeSnapshot := by
  obtain ⟨hr, hp⟩ := ho
  exact if_neg (not_or.mpr ⟨hms, not_or.mpr ⟨hsafe, not_or.mpr ⟨hr, hp⟩⟩⟩)

theorem State.snapshotPeriod_idle (h : s.obs.select.snapshotMs = 0 ∨ s.sys.mode = .safe ∨ ¬ s.observes) :
    s.snapshotPeriod = s :=
  if_pos (h.imp_right fun h => h.imp_right State.mode_of_not_observes)

section
variable {x : PointId}

theorem exec_bandwidthWindow : exec (.bandwidthWindow x) s = act (fun t => t.bandwidthWindow x.val) s := rfl

theorem State.bandwidthWindow_of_observes (ho : s.observes) :
    s.bandwidthWindow x.val = (s.nextMultiple ((s.obs.points.get x.val).windowUs * 1000)).endWindow x.val := by
  obtain ⟨hr, hp⟩ := ho
  exact if_neg (not_or.mpr ⟨hr, hp⟩)

theorem State.bandwidthWindow_idle (ho : ¬ s.observes) : s.bandwidthWindow x.val = s :=
  if_pos (State.mode_of_not_observes ho)

end

theorem exec_telemPeriod : exec .telemPeriod s = act (fun t => t.telemPeriod) s := rfl

/-- One record for each counter block. -/
def State.blockRecords (s : State) : State :=
  (List.range 80).foldl (fun v b => v.formRecord 0 b v.sys.ft (blockBytes v.obs.counters b)) s

/-- One record for each valid focus. -/
def State.focusRecords (s : State) : State :=
  ((List.range 8).filter fun j => (s.obs.focus.get j).valid).foldl
    (fun v j => v.formRecord 2 j v.sys.ft (v.obs.focus.get j).bytes) s

theorem State.telemPeriod_of_due (he : s.obs.select.telemEnable = true) (ho : s.observes) :
    s.telemPeriod = (s.nextMultiple (Nat.max 1 s.obs.select.telemMs * 1000000)).blockRecords.focusRecords := by
  obtain ⟨hr, hp⟩ := ho
  have hruns : ¬ (¬ s.obs.select.telemEnable ∨ s.sys.mode = .reset ∨ s.sys.mode = .prepare) :=
    not_or.mpr ⟨not_not.mpr he, not_or.mpr ⟨hr, hp⟩⟩
  rw [State.telemPeriod, if_neg hruns, State.focusRecords, State.blockRecords, State.nextMultiple]

theorem State.telemPeriod_idle (h : s.obs.select.telemEnable = false ∨ ¬ s.observes) : s.telemPeriod = s :=
  if_pos (h.imp Bool.eq_false_iff.mp State.mode_of_not_observes)

/-! ### Freezes and archive copies (R427, R429) -/

theorem exec_maskableFreeze : exec .maskableFreeze s = quiet (fun t => t.maskableFreeze) s := rfl

theorem exec_archiveDone : exec .archiveDone s = quiet (fun t => t.archiveDone) s := rfl

/-- The end of an archive copy: the log resumes, unless it froze for SAFE. -/
def State.copyEnded (s : State) : State :=
  if s.archiveLog.obs.status.freezeCause = 2 then s.archiveLog else s.archiveLog.resumeLog

theorem State.freezeTicket_congr {t : State} (h : t.mgmt.running = s.mgmt.running) : t.freezeTicket = s.freezeTicket := by
  rw [State.freezeTicket, State.freezeTicket, h]

/-- The copy's end leaves the command that waits for it. -/
theorem State.copyEnded_freezeTicket : s.copyEnded.freezeTicket = s.freezeTicket := by
  refine State.freezeTicket_congr ?_
  unfold State.copyEnded
  split
  · rfl
  · rw [State.resumeLog_eq]; rfl

theorem State.archiveDone_idle (h : s.obs.status.archiving = false ∨ ¬ s.observes) : s.archiveDone = s :=
  if_pos (h.imp Bool.eq_false_iff.mp State.mode_of_not_observes)

theorem State.archiveDone_of_copying (ha : s.obs.status.archiving = true) (ho : s.observes) :
    s.archiveDone = match s.freezeTicket with
      | some n => s.copyEnded.complete n rcSuccess [BitVec.ofNat 8 s.obs.status.archiveNext.toNat]
      | none => s.copyEnded := by
  obtain ⟨hr, hp⟩ := ho
  rw [← State.copyEnded_freezeTicket]
  exact if_neg (not_or.mpr ⟨not_not.mpr ha, not_or.mpr ⟨hr, hp⟩⟩)

theorem State.archiveDone_of_free (ha : s.obs.status.archiving = true) (ho : s.observes) (hn : s.freezeTicket = none) :
    s.archiveDone = s.copyEnded := by
  rw [State.archiveDone_of_copying ha ho, hn]

theorem State.archiveDone_of_waiting {n : Nat} (ha : s.obs.status.archiving = true) (ho : s.observes)
    (hn : s.freezeTicket = some n) :
    s.archiveDone = s.copyEnded.complete n rcSuccess [BitVec.ofNat 8 s.obs.status.archiveNext.toNat] := by
  rw [State.archiveDone_of_copying ha ho, hn]

/-! ### Alert interrupts (R430) -/

section
variable {k : Nat}

/-- The alert that waits for port `k`. -/
def State.alertOf (s : State) (k : Nat) : Option U32 := if k = 0 then s.obs.alert0 else s.obs.alert1

/-- I3C port `k`. -/
def State.i3cOf (s : State) (k : Nat) : I3c := if k = 0 then s.mgmt.i3c0 else s.mgmt.i3c1

/-- The time of the last interrupt of port `k`. -/
def State.ibiOf (s : State) (k : Nat) : Option Nat := if k = 0 then s.obs.ibi0 else s.obs.ibi1

/-- The interrupt is sent, at most once a millisecond. -/
def State.alerted (s : State) (k : Nat) (n : U32) : State :=
  (match s.ibiOf k with
    | some t => s.advanceTo (t + 1000000)
    | none => s).emit (.i3c k (alertBytes n))

theorem exec_alertIbi (k : Fin 2) : exec (.alertIbi k) s = quiet (fun t => t.alertIbi k.val) s := rfl

theorem State.alertIbi_of_some {n : U32} (ha : s.alertOf k = some n) : s.alertIbi k =
    if ¬ (s.i3cOf k).ibiEnabled ∨ (s.i3cOf k).dynAddr.isNone ∨ s.sys.mode = .reset then s
    else if k = 0 then { s.alerted k n with obs.alert0 := none, obs.ibi0 := some (s.alerted k n).sys.ft }
    else { s.alerted k n with obs.alert1 := none, obs.ibi1 := some (s.alerted k n).sys.ft } := by
  have ha : (if k = 0 then s.obs.alert0 else s.obs.alert1) = some n := ha
  rw [State.alertIbi, ha]
  rfl

theorem State.alertIbi_of_enabled {n : U32} (ha : s.alertOf k = some n) (he : (s.i3cOf k).ibiEnabled = true)
    (hd : (s.i3cOf k).dynAddr ≠ none) (hm : s.sys.mode ≠ .reset) : s.alertIbi k =
    if k = 0 then { s.alerted k n with obs.alert0 := none, obs.ibi0 := some (s.alerted k n).sys.ft }
    else { s.alerted k n with obs.alert1 := none, obs.ibi1 := some (s.alerted k n).sys.ft } :=
  (State.alertIbi_of_some ha).trans (if_neg (by simp [he, hd, hm]))

theorem State.alertIbi_idle (h : s.alertOf k = none ∨ (s.i3cOf k).ibiEnabled = false ∨ (s.i3cOf k).dynAddr = none
    ∨ s.sys.mode = .reset) : s.alertIbi k = s := by
  cases ha : s.alertOf k with
  | none =>
    have ha : (if k = 0 then s.obs.alert0 else s.obs.alert1) = none := ha
    rw [State.alertIbi, ha]
  | some n => exact (State.alertIbi_of_some ha).trans (if_pos (by simpa [ha] using h))

end

/-- Settles O12: each event by whether observation runs and by what it looks at. -/
theorem observationEventsFollowFabricTime : Obligations.ObservationEventsFollowFabricTime := by
  intro s x k runs quietly p
  refine ⟨fun hms hsafe ho => ?snapshot, fun h => ?noSnapshot, ⟨fun ho => ?window, fun ho => ?noWindow⟩, fun h => ?noTelem,
    fun he ho => ?telem, fun hf => ?freeze, fun hf => ?frozen, fun h => ?noCopy, fun ha ho hn => ?copied,
    fun n ha he hd hm => ?alert, fun h => ?noAlert, fun n ha ho hn => ?completed⟩
  case snapshot =>
    exact exec_of_quiet exec_snapshotPeriod (State.snapshotPeriod_of_due (s := s.start) hms hsafe ho)
  case noSnapshot => exact exec_of_quiet exec_snapshotPeriod (State.snapshotPeriod_idle (s := s.start) h)
  case window =>
    exact State.settlesTo_of_act exec_bandwidthWindow (State.bandwidthWindow_of_observes (s := s.start) ho)
  case noWindow => exact State.settlesTo_of_act exec_bandwidthWindow (State.bandwidthWindow_idle (s := s.start) ho)
  case noTelem => exact State.settlesTo_of_act exec_telemPeriod (State.telemPeriod_idle (s := s.start) h)
  case telem =>
    have hact := State.telemPeriod_of_due (s := s.start) he ho
    rw [State.focusRecords, State.blockRecords, State.nextMultiple, show s.start.sys.ft = s.sys.ft from rfl,
      show s.start.obs.select = s.obs.select from rfl] at hact
    exact State.settlesTo_of_act exec_telemPeriod hact
  case freeze => exact exec_of_quiet exec_maskableFreeze (if_neg (Bool.eq_false_iff.mp hf))
  case frozen => exact exec_of_quiet exec_maskableFreeze (if_pos hf)
  case noCopy => exact exec_of_quiet exec_archiveDone (State.archiveDone_idle (s := s.start) h)
  case copied =>
    exact ⟨exec_of_quiet exec_archiveDone (State.archiveDone_of_free (s := s.start) ha ho hn), rfl, rfl, rfl⟩
  case alert =>
    exact exec_of_quiet (exec_alertIbi k) (State.alertIbi_of_enabled (s := s.start) ha he hd hm)
  case noAlert => exact exec_of_quiet (exec_alertIbi k) (State.alertIbi_idle (s := s.start) h)
  case completed =>
    exact exec_of_quiet exec_archiveDone (State.archiveDone_of_waiting (s := s.start) ha ho hn)

end Sys2Proof.Machine
end
